-- ==== Sys2Proof/Word.lean ====
section
/-! DEFINITION. The words of the LH32: octets of the loop and of host memory, 32-bit host words, and the one-bit sequence toggle. -/

namespace Sys2Proof

/-- One octet: of a frame or marker on the loop, or of a record in host memory. -/
abbrev Octet := BitVec 8

/-- A 32-bit word of the host bus: a register value or an address of host memory (spec 09, section 9.1; spec 12, 12.1). -/
abbrev HostWord := BitVec 32

/-- The sequence toggle, 0 (`false`) or 1 (`true`) (R3). -/
abbrev Toggle := Bool

end Sys2Proof
end

