-- ==== Sys2Proof/Config.lean ====
section
/-! DEFINITION. What one LH32 fixes that its manual leaves open: the one free value of the model. -/

namespace Sys2Proof

/-- FREE VALUE. "When two units request in the same interval, either may join first" (R195): where one step makes several
requests of the master access sequencer, the `k`-th choice among those still to join takes number `joinPick k`, modulo how
many there are. It has no body: every statement about the list holds for every order (log entry 5). -/
opaque Config.joinPick : Nat → Nat

end Sys2Proof
end

