-- ==== Sys2Proof/Syntax.lean ====
section
/-! DEFINITION. The commands and events that change the LH32: one constructor of `Instr` for each row of
spec/opcode_table.json, with the operands the rows' rules name. -/

namespace Sys2Proof

/-- A station: index `i` is the station of loop address `i + 1`, so the 32 values are the addresses 1 to 32 (R49). -/
abbrev Addr := Fin 32

/-- One of the 64 entries of the request pool (R144). -/
abbrev PoolIx := Fin 64

/-- One of the 33 lists of the request pool (R147). -/
inductive ListId where
  | control
  | station (a : Addr)
  deriving DecidableEq, Repr

/-- The eight registers of the window (spec 09, section 9.1). -/
inductive Register where
  | control
  | status
  | configAddress
  | requestTail
  | requestHead
  | bufferTail
  | completionHead
  | interrupt
  deriving DecidableEq, Repr

/-- The frame kinds the head sends (spec 01, section 1.3). -/
inductive HeadFrame where
  | data
  | fetch
  | post
  | group
  | rest
  deriving DecidableEq, Repr

/-- The trailer outcomes of R5; `noMatch` is the outcome the manual writes NONE. -/
inductive TrailerOutcome where
  | noMatch
  | taken
  | repeated
  | busy
  | damaged
  deriving DecidableEq, Repr

/-- The marker kinds (spec 01, section 1.4). -/
inductive MarkerKind where
  | turn
  | sweep
  | call
  | probe
  deriving DecidableEq, Repr

/-- One entry of a CALL marker: bits 6–0 hold an address, bit 7 the JOIN mark (R10; spec 10, section 10.9). -/
structure CallEntry where
  address : BitVec 7
  join : Bool
  deriving DecidableEq, Repr

/-- One acknowledgment pair of a SWEEP marker (R9); an intact marker holds only addresses 1–32 (R22). -/
structure AckPair where
  address : Addr
  toggle : Toggle
  deriving DecidableEq, Repr

/-- The octet times between which an item came back: its return start, the octet time of its first symbol (R19), and its
return end, that of its last (R21, R22, R23). Every item is delivered with both (R24). -/
structure ReturnSpan where
  start : Nat
  stop : Nat
  deriving DecidableEq, Repr

/-- The return span of a delivery command written without one: octet time 0. -/
def ReturnSpan.origin : ReturnSpan := { start := 0, stop := 0 }

/-- The commands of spec/opcode_table.json, in the table's order. A command that names a delivery carries what the receiver
delivers (R24): the fields of an intact item, and the return span of every item. -/
inductive Instr where
  /-- START: START written to CONTROL (R179, R185, R190). -/
  | start
  /-- STOP: STOP written to CONTROL (R179, R189). -/
  | stop
  /-- RESET: RESET written to CONTROL (R192). -/
  | reset
  /-- BAD_COMMAND: a CONTROL write of `word`, which is none of the three command codes (R179, R200). -/
  | badCommand (word : HostWord)
  /-- CONFIG_ADDRESS_WRITE: `value` written to CONFIG ADDRESS (R181). -/
  | configAddressWrite (value : HostWord)
  /-- REQUEST_TAIL_WRITE: `value` written to REQUEST TAIL (R137). -/
  | requestTailWrite (value : HostWord)
  /-- BUFFER_TAIL_WRITE: `value` written to BUFFER TAIL (R182). -/
  | bufferTailWrite (value : HostWord)
  /-- COMPLETION_HEAD_WRITE: `value` written to COMPLETION HEAD (R168). -/
  | completionHeadWrite (value : HostWord)
  /-- INTERRUPT_ACKNOWLEDGE: the acknowledge field, bits 2–0, of `word` written to INTERRUPT (R174). -/
  | interruptAcknowledge (word : HostWord)
  /-- INTERRUPT_ENABLE: the enable field, bits 10–8, of `word` written to INTERRUPT (R174). -/
  | interruptEnable (word : HostWord)
  /-- REGISTER_WRITE: a write of `bits` bits to `reg`: a whole word to STATUS or REQUEST HEAD, or fewer than 32 bits to
  any register (R178, R183). -/
  | registerWrite (reg : Register) (bits : Nat)
  /-- POWER_ON_RESET: power-up or an assertion of RESET# (R193, R207). -/
  | powerOnReset
  /-- POWER_ON_RESET_END: power-on reset ends (R207). -/
  | powerOnResetEnd
  /-- CONFIGURATION_READ_COMPLETE: the configuration read delivers `octets` (R186). -/
  | configurationReadComplete (octets : List Octet)
  /-- CONFIGURATION_READ_FAULT: the configuration read faults (R187). -/
  | configurationReadFault
  /-- REQUEST_RECORD_READ_COMPLETE: a request record read delivers `octets` (R138). -/
  | requestRecordReadComplete (octets : List Octet)
  /-- REQUEST_RECORD_READ_FAULT: a request record read faults (R139). -/
  | requestRecordReadFault
  /-- PLACEMENT: the valid held record is placed in the free pool entry `entry`, or in the free entry of lowest
  number where `entry` is allocated (R145). -/
  | placement (entry : PoolIx)
  /-- REFUSAL: the refused held record is answered (R143). -/
  | refusal
  /-- DESCRIPTOR_READ_COMPLETE: a descriptor read delivers `octets` (R101). -/
  | descriptorReadComplete (octets : List Octet)
  /-- DESCRIPTOR_READ_FAULT: a descriptor read faults (R102). -/
  | descriptorReadFault
  /-- PAYLOAD_READ_COMPLETE: the payload read on the bus delivers `octets` (R75). -/
  | payloadReadComplete (octets : List Octet)
  /-- PAYLOAD_READ_FAULT: the payload read on the bus faults (R76). -/
  | payloadReadFault
  /-- RESPONSE_WRITE_COMPLETE (R85). -/
  | responseWriteComplete
  /-- RESPONSE_WRITE_FAULT (R86). -/
  | responseWriteFault
  /-- REPORT_WRITE_COMPLETE (R111). -/
  | reportWriteComplete
  /-- REPORT_WRITE_FAULT (R112). -/
  | reportWriteFault
  /-- SNAPSHOT_WRITE_COMPLETE (R71). -/
  | snapshotWriteComplete
  /-- SNAPSHOT_WRITE_FAULT (R71). -/
  | snapshotWriteFault
  /-- POST: the completion unit begins the record write of the oldest record (R165). -/
  | post
  /-- RECORD_WRITE_FIRST_PART_COMPLETE (R166). -/
  | recordWriteFirstPartComplete
  /-- RECORD_WRITE_SECOND_PART_COMPLETE (R166). -/
  | recordWriteSecondPartComplete
  /-- RECORD_WRITE_FAULT: the part of a record write on the bus faults (R167). -/
  | recordWriteFault
  /-- ACCESS_TIMEOUT: the access on the bus has not completed 2 ms after it was begun (R196). -/
  | accessTimeout
  /-- ELEMENT_BEGIN: the first symbol of the waiting element has left, and the waiting hand-over becomes none (R15, R119). -/
  | elementBegin
  /-- SEND_END: the last symbol of the element being sent has left in octet time `t` (R34). -/
  | sendEnd (t : Nat)
  /-- HEAD_FRAME_RETURN: an intact head-kind frame is delivered (R37). -/
  | headFrameReturn (kind : HeadFrame) (address : Octet) (toggle : Toggle) (payload : List Octet)
      (outcome : TrailerOutcome) (copies : Nat) (span : ReturnSpan := ReturnSpan.origin)
  /-- RESPONSE_RETURN: an intact RESPONSE frame is delivered (R38, R83). -/
  | responseReturn (source : Octet) (toggle : Toggle) (payload : List Octet) (span : ReturnSpan := ReturnSpan.origin)
  /-- TURN_RETURN: an intact TURN marker is delivered (R87). -/
  | turnReturn (span : ReturnSpan := ReturnSpan.origin)
  /-- REPORT_RETURN: an intact REPORT frame is delivered (R108). -/
  | reportReturn (source : Octet) (toggle : Toggle) (payload : List Octet) (span : ReturnSpan := ReturnSpan.origin)
  /-- DAMAGED_FRAME: a damaged frame is delivered (R37). -/
  | damagedFrame (span : ReturnSpan := ReturnSpan.origin)
  /-- SWEEP_MARKER_RETURN: an intact SWEEP marker is delivered (R115). -/
  | sweepMarkerReturn (budget : Nat) (acks : List AckPair) (span : ReturnSpan := ReturnSpan.origin)
  /-- CALL_MARKER_RETURN: an intact CALL marker is delivered (R57). -/
  | callMarkerReturn (entries : List CallEntry) (span : ReturnSpan := ReturnSpan.origin)
  /-- PROBE_RETURN: an intact PROBE marker is delivered, its return span written out (R27). -/
  | probeReturn (echo : Octet) (returnStart returnEnd : Nat)
  /-- DAMAGED_MARKER: a damaged marker is delivered (R39). -/
  | damagedMarker (kind : MarkerKind) (span : ReturnSpan := ReturnSpan.origin)
  /-- RETURN_LIMIT_EXPIRY (R35). -/
  | returnLimitExpiry
  /-- PROBE_TIMER_EXPIRY (R28). -/
  | probeTimerExpiry
  /-- SETTLE_TIMER_EXPIRY (R44). -/
  | settleTimerExpiry
  /-- FETCH_DELAY_EXPIRY: the fetch-delay timer of pool entry `entry` expires (R91). -/
  | fetchDelayExpiry (entry : PoolIx)
  /-- HEAD_DEADLINE_EXPIRY: the head deadline timer of station list `a` expires (R93). -/
  | headDeadlineExpiry (a : Addr)
  /-- SWEEP_TIMER_EXPIRY (R124). -/
  | sweepTimerExpiry
  /-- CALL_TIMER_EXPIRY (R122). -/
  | callTimerExpiry
  /-- DUE_CALL (R122). -/
  | dueCall
  /-- DUE_SWEEP (R105). -/
  | dueSweep
  /-- GROUP_POST (R125). -/
  | groupPost
  /-- REST (R128). -/
  | rest
  /-- STATION_GRANT (R127). -/
  | stationGrant
  /-- RESOLUTION_WITHOUT_LOOP_TRAFFIC of the head of list `list` (R131, R132). -/
  | resolutionWithoutLoopTraffic (list : ListId)
  /-- ADMIT: take-up of the ADMIT at the head of the list of station `a` (R66). -/
  | admission (a : Addr)
  /-- EXPEL: take-up of the EXPEL at the head of the list of station `a` (R67). -/
  | expel (a : Addr)
  /-- SET_STATION: take-up of the SET-STATION at the head of the list of station `a` (R69). -/
  | setStation (a : Addr)
  /-- FLUSH: take-up of the FLUSH at the head of the list of station `a` (R70). -/
  | flush (a : Addr)
  /-- QUERY: take-up of the QUERY at the head of the control list (R71). -/
  | query
  deriving DecidableEq, Repr

end Sys2Proof
end

