-- ==== Sys2Proof/Machine/State.lean ====
section
/-! DEFINITION. The state of the LH32, block by block (spec 00, section 3), its reset, and the reasons a step can stop.
Every field is plain data. A field marked MODEL'S OWN is not an item the manual names: it holds what the manual says by
other means (see INVENTORY.md). -/

namespace Sys2Proof.Machine

/-! ## Codes -/

/-- The engine states (R180, R184). -/
inductive EngineState where
  | off
  | starting
  | running
  | stopping
  | stopped
  | faulted
  deriving DecidableEq, Repr

/-- The loop states (spec 02, section 2.1); `opened` is the state the manual writes OPEN. -/
inductive LoopState where
  | quiet
  | probing
  | calling
  | opened
  | broken
  | draining
  deriving DecidableEq, Repr

/-- The station states (spec 03, section 3.2). -/
inductive StationState where
  | vacant
  | expected
  | present
  | silent
  | conflict
  | barred
  deriving DecidableEq, Repr

/-- The fault codes of STATUS (R180). -/
inductive FaultCode where
  | noFault
  | configRead
  | configRange
  | requestRead
  | bufferRead
  | completionWrite
  deriving DecidableEq, Repr

/-- The register-error codes (R183). -/
inductive RegisterError where
  | noError
  | wrongCommand
  | badCommand
  | readOnly
  | partialWrite
  | configBusy
  | configAlign
  | ringsUnset
  | requestTailRange
  | bufferTailRange
  | completionHeadRange
  | overRelease
  deriving DecidableEq, Repr

/-- The status codes of completion records (R170). -/
inductive Status where
  | ok
  | partialCopy
  | truncated
  | notPresent
  | cancelled
  | timeout
  | noResponse
  | refused
  | unreached
  | loopFault
  | hostFault
  | badRequest
  | badAddress
  | badLength
  | shortBuffer
  | wrongState
  deriving DecidableEq, Repr

/-- The last outcomes (R73, R199); `noMatch` is the outcome the manual writes NONE. -/
inductive LastOutcome where
  | noMatch
  | taken
  | repeated
  | busy
  | damaged
  | damagedInTransit
  | notReady
  | responseDamaged
  | responseInvalid
  | lostToBreak
  | unknown
  deriving DecidableEq, Repr

/-- The ten request kinds (R141). -/
inductive RequestKind where
  | exchange
  | post
  | admission
  | expel
  | setStation
  | flush
  | groupPost
  | query
  | sweepNow
  | callNow
  deriving DecidableEq, Repr

/-- The phases of a request (R74, R149). A request becomes RESOLVED when its record enters the holding queue, and its pool
entry is freed in that same step (R144), so no allocated entry holds RESOLVED. -/
inductive Phase where
  | queued
  | ready
  | inTransit
  | paused
  | resolved
  deriving DecidableEq, Repr

/-- The element kinds (R33). -/
inductive ElementKind where
  | exch
  | post
  | group
  | rest
  | sweep
  | call
  | probe
  deriving DecidableEq, Repr

/-- The notice kinds (R161). -/
inductive NoticeKind where
  | loopState
  | stationChange
  | buffersLow
  deriving DecidableEq, Repr

/-- The interrupt causes (R173). -/
inductive Cause where
  | completion
  | engine
  | regError
  deriving DecidableEq, Repr

/-- A set of interrupt causes (R173). -/
structure Causes where
  completion : Bool
  engine : Bool
  regError : Bool
  deriving DecidableEq, Repr

/-- A timer whose expiry can be held (R118, R129): stopped, running until the REFCLK cycle `due`, or expired and held. -/
inductive Timer where
  | stopped
  | running (due : Nat)
  | expired
  deriving DecidableEq, Repr

/-! ## Time -/

/-- MODEL'S OWN. The passage of time: REFCLK cycles (spec 12, 12.1: 16 MHz) and octet times at the current rate, both from an
arbitrary origin. -/
structure Clock where
  cycles : Nat
  octets : Nat
  deriving DecidableEq, Repr

/-! ## The line -/

/-- The eight control symbols (spec 01, section 1.1); `opening` and `closing` are OPEN and CLOSE. -/
inductive Control where
  | fill
  | opening
  | closing
  | abort
  | turn
  | sweep
  | call
  | probe
  deriving DecidableEq, Repr

/-- One position of the stream (spec 01, section 1.1). -/
inductive Symbol where
  | data (octet : Octet)
  | control (c : Control)
  deriving DecidableEq, Repr

/-- What one octet time brings on LOOP-IN: a symbol, or a coding violation (spec 01, section 1.1). -/
inductive LineInput where
  | symbol (s : Symbol)
  | violation
  deriving DecidableEq, Repr

/-- What LOOP-OUT carries: the quiet level of power-on reset (R207) or a symbol (R1). -/
inductive LineOutput where
  | quiet
  | symbol (s : Symbol)
  deriving DecidableEq, Repr

/-- An element handed to the transmitter and not yet begun: its symbols (R12 to R14), and the number that ties it to its
transit entry (MODEL'S OWN). -/
structure Element where
  id : Nat
  run : List Symbol
  deriving DecidableEq, Repr

/-- The element being sent: the symbols still to leave after the one on the line. -/
structure Sending where
  id : Nat
  left : List Symbol
  deriving DecidableEq, Repr

/-- The line transmitter (R1, R15, R16). An element whose first symbol has left is being sent, and stands in `waiting` no longer
once ELEMENT_BEGIN has said so. -/
structure Transmitter where
  sending : Option Sending
  waiting : List Element
  line : LineOutput
  abortNext : Bool
  nextId : Nat
  deriving DecidableEq, Repr

/-- The line receiver (spec 01, section 1.7). A frame is being collected with the octet time of its OPEN, the octets so far
(header, payload, check), whether its CLOSE has arrived, and its trailer octets so far. -/
inductive Receiver where
  | seek
  | frame (start : Nat) (octets : List Octet) (closed : Bool) (trailer : List Octet)
  | marker (start : Nat) (kind : MarkerKind) (octets : List Octet)
  deriving DecidableEq, Repr

/-- An item of the returning stream, intact or damaged (R24). -/
inductive Item where
  | headFrame (kind : HeadFrame) (address : Octet) (toggle : Toggle) (payload : List Octet)
      (outcome : TrailerOutcome) (copies : Nat)
  | response (source : Octet) (toggle : Toggle) (payload : List Octet)
  | report (source : Octet) (toggle : Toggle) (payload : List Octet)
  | damagedFrame
  | turnMarker
  | sweepMarker (budget : Nat) (acks : List AckPair)
  | callMarker (entries : List CallEntry)
  | probeMarker (echo : Octet)
  | damagedMarker (kind : MarkerKind)
  deriving DecidableEq, Repr

/-- What the receiver delivers: an item with its return start and return end (R24). -/
structure Delivery where
  item : Item
  span : ReturnSpan
  deriving DecidableEq, Repr

/-! ## Loop sequencer -/

/-- What an EXCH entry awaits (R33). The progress of a SWEEP entry is the report item count of the sweep record (R108). -/
inductive Progress where
  | awaitingHead
  | awaitingTurn
  deriving DecidableEq, Repr

/-- One entry of the transit list (spec 02, section 2.4). `id` and `sendEnd` are MODEL'S OWN: the tie to the transmitter's
element, and the octet time of a PROBE's send end, from which R27 measures. -/
structure TransitEntry where
  id : Nat
  element : ElementKind
  frame : Option HeadFrame
  target : Option Octet
  toggle : Toggle
  length : Nat
  pool : Option PoolIx
  demand : Bool
  slots : Nat
  buffers : Nat
  acks : List AckPair
  progress : Progress
  deadline : Option Nat
  sendEnd : Option Nat
  deriving DecidableEq, Repr

/-- The loop sequencer (R25). The return-limit timer is read off the oldest entry and the loop state (`returnLimit`). The
probe timer holds the last octet time of its limit, the settle timer the REFCLK cycle of its expiry. -/
structure LoopSequencer where
  state : LoopState
  transit : List TransitEntry
  rawDelay : Nat
  probeNumber : Octet
  probeTimer : Option Nat
  settleTimer : Option Nat
  deriving DecidableEq, Repr

/-! ## Station table -/

/-- A station entry (R49). -/
structure Station where
  state : StationState
  position : Option Nat
  commandToggle : Toggle
  reportToggle : Option Toggle
  groups : Octet
  weight : Nat
  outstanding : Option PoolIx
  failures : Nat
  deriving DecidableEq, Repr

/-- The station table and the loop map (R49, R59). -/
structure StationTable where
  stations : Vector Station 32
  loopMap : List Addr
  deriving DecidableEq, Repr

/-! ## Request intake and request pool -/

/-- A request record as read (spec 10, section 10.4). -/
structure RequestRecord where
  kind : Octet
  address : Octet
  attemptLimit : Nat
  flags : Octet
  tag : HostWord
  payloadAddress : HostWord
  payloadLength : Nat
  responseCapacity : Nat
  responseAddress : HostWord
  deadline : Nat
  weight : Nat
  groups : Octet
  deriving DecidableEq, Repr

/-- The judgment of a held record (R141): valid, of a kind, or refused with a status. -/
inductive Judgment where
  | valid (kind : RequestKind)
  | refused (status : Status)
  deriving DecidableEq, Repr

/-- The held record with its judgment, made once (R138, R143). -/
structure HeldRecord where
  record : RequestRecord
  judgment : Judgment
  deriving DecidableEq, Repr

/-- Request intake (R136). `reading` says that a record read is requested or on the bus (R138). -/
structure Intake where
  head : Nat
  tail : Nat
  held : Option HeldRecord
  reading : Bool
  deriving DecidableEq, Repr

/-- A pool entry (R72, R145). MODEL'S OWN: `readStarted` and `readFaulted` say that the payload read of R75 was asked for and
that it faulted (R76); `joinReset` that a JOIN reset came since the last sending (R77); `takenUp` that an EXPEL or QUERY
holds its claimed slot (R130); `response` holds the length of a valid RESPONSE whose write has not ended (R85).
`fetchTimer` is the scheduler's fetch-delay timer of this entry (R129). -/
structure PoolEntry where
  kind : RequestKind
  address : Octet
  tag : HostWord
  payloadAddress : HostWord
  payloadLength : Nat
  responseAddress : HostWord
  responseCapacity : Nat
  attemptLimit : Nat
  deadline : Option Nat
  weight : Nat
  groups : Octet
  placedAt : Nat
  phase : Phase
  attempts : Nat
  waits : Nat
  toggleUsed : Option Toggle
  nextFrame : Option HeadFrame
  cancelMark : Bool
  expiryMark : Bool
  lastOutcome : Option LastOutcome
  payload : List Octet
  expectedCount : Option Nat
  cancelledCount : Nat
  fetchTimer : Timer
  readStarted : Bool
  readFaulted : Bool
  joinReset : Bool
  takenUp : Bool
  response : Option Nat
  deriving DecidableEq, Repr

/-- The request pool: 64 entries, 32 station pending lists and the control list, oldest first (R144, R147). -/
structure Pool where
  entries : Vector (Option PoolEntry) 64
  stationLists : Vector (List PoolIx) 32
  control : List PoolIx
  deriving DecidableEq, Repr

/-! ## Scheduler -/

/-- The scheduler (R118). The fetch-delay timers stand in the pool entries, the waiting hand-over in the transmitter. -/
structure Scheduler where
  cursor : Addr
  turns : Vector Nat 32
  sweepTimer : Option Nat
  sweepDue : Bool
  callTimer : Option Nat
  callDue : Bool
  headTimers : Vector Timer 32
  deriving DecidableEq, Repr

/-! ## Report unit -/

/-- A buffer descriptor in the cache, with the ring index it was read from (R101, R102). -/
structure Descriptor where
  index : Nat
  address : HostWord
  capacity : Nat
  deriving DecidableEq, Repr

/-- An entry of the ack set (R114); its address is its place in the set. -/
structure AckEntry where
  toggle : Toggle
  carried : Bool
  deriving DecidableEq, Repr

/-- The record of the sweep in transit (R100): the budget sent, the reserved descriptors (how many at the front of the
cache), the report items received, and how many reports were accepted (R113). -/
structure SweepRecord where
  budget : Nat
  reserved : Nat
  items : Nat
  accepted : Nat
  deriving DecidableEq, Repr

/-- An accepted report whose REPORT completion has not entered the holding queue (R111). -/
structure PendingReport where
  source : Addr
  descriptor : Descriptor
  payload : List Octet
  deriving DecidableEq, Repr

/-- A SWEEP-NOW decided at its sweep's end, waiting for the completions of `after` accepted reports (R113, R205). -/
structure SweepDecision where
  status : Status
  count : Nat
  after : Nat
  deriving DecidableEq, Repr

/-- The report unit (R100). `reading` says that a descriptor read is requested or on the bus; `writing` that the write of the
oldest pending report is. -/
structure ReportUnit where
  cache : List Descriptor
  head : Nat
  reading : Bool
  acks : Vector (Option AckEntry) 32
  sweep : Option SweepRecord
  reports : List PendingReport
  writing : Bool
  decision : Option SweepDecision
  deriving DecidableEq, Repr

/-! ## Completion unit -/

/-- The kind of a completion record (R201). -/
inductive RecordKind where
  | done
  | report
  | notice (kind : NoticeKind)
  deriving DecidableEq, Repr

/-- A completion record (spec 10, section 10.6); `tag` is the field at 04h. -/
structure CompletionRecord where
  kind : RecordKind
  status : Status
  address : Octet
  attempts : Nat
  waits : Nat
  tag : HostWord
  length : Nat
  count : Nat
  stationState : Option StationState
  lastOutcome : Option LastOutcome
  last : Option Octet
  deriving DecidableEq, Repr

/-- The part of a record write that is requested or on the bus (R166). -/
inductive RecordPart where
  | body
  | phase
  deriving DecidableEq, Repr

/-- A raise of a notice: its kind, the count it carries, and the loop state of a LOOP-STATE raise (R161). -/
structure Raise where
  kind : NoticeKind
  count : Nat
  loop : Option LoopState
  deriving DecidableEq, Repr

/-- The completion unit (R157, R164, R173). A kept slot is occupied while `queue` holds the notice of its kind. MODEL'S OWN:
`callAnswer` holds the count of a CALL-NOW that its roll call has answered and whose record waits behind a held STATION-CHANGE
raise (R123, R162; log entry 31). -/
structure CompletionUnit where
  queue : List CompletionRecord
  reserved : Nat
  write : Option RecordPart
  heldRaises : List Raise
  tail : Nat
  phase : Bool
  occupancy : Nat
  head : Nat
  pendingCauses : Causes
  enabled : Causes
  callAnswer : Option Nat
  deriving DecidableEq, Repr

/-! ## Host port -/

/-- The eighteen values of the configuration store (R184, R186). -/
structure Configuration where
  requestBase : HostWord
  requestSize : Nat
  completionBase : HostWord
  completionSize : Nat
  bufferBase : HostWord
  bufferSize : Nat
  rateCode : Nat
  inFlightLimit : Nat
  attemptLimit : Nat
  waitLimit : Nat
  fetchDelay : Nat
  silentThreshold : Nat
  sweepInterval : Nat
  sweepBudget : Nat
  callInterval : Nat
  returnMargin : Nat
  settleTime : Nat
  probeLimit : Nat
  deriving DecidableEq, Repr

/-- The kinds of master access (spec 09, section 9.3), with the pool entry served where there is one. -/
inductive AccessKind where
  | configuration
  | requestRecord
  | descriptor
  | payload (entry : PoolIx)
  | response (entry : PoolIx)
  | report
  | snapshot (entry : PoolIx)
  | recordBody
  | recordPhase
  deriving DecidableEq, Repr

/-- A master access: its kind, address and size, the octets of a write, and whether its result is discarded (R76, R198). -/
structure Access where
  kind : AccessKind
  address : HostWord
  length : Nat
  data : List Octet
  discarded : Bool
  deriving DecidableEq, Repr

/-- The access on the bus, with the REFCLK cycle in which it was begun (R196). -/
structure BusAccess where
  access : Access
  begunAt : Nat
  deriving DecidableEq, Repr

/-- What holds the part in power-on reset: the level of RESET#, low while it does, and whether VDD is in its operating range
(R193, R207). -/
structure ResetPins where
  resetHigh : Bool
  vddInRange : Bool
  deriving DecidableEq, Repr

/-- The host port (R184, R195). `rate` is the rate code transmitter and receiver run at (R2), `pins` the levels of RESET# and VDD
(R193, R207). While the 1 ms runs that power-on reset goes on after both have let go, `resetHold` holds the REFCLK cycle at which
it is over (R207); it is none otherwise. -/
structure HostPort where
  engine : EngineState
  faultCode : FaultCode
  badField : Nat
  registerError : RegisterError
  config : Option Configuration
  configAddress : HostWord
  bufferTail : Nat
  rate : Nat
  bus : Option BusAccess
  queue : List Access
  pins : ResetPins
  resetHold : Option Nat
  deriving DecidableEq, Repr

/-! ## The whole -/

/-- The state of the LH32: its nine blocks (spec 00, section 3), transmitter and receiver apart; and, MODEL'S OWN, the clock,
the material still to arrive on LOOP-IN and on the pins RESET# and VDD, the number of free choices made (`Config.joinPick`), and the commands waiting. -/
structure State where
  hp : HostPort
  ri : Intake
  rp : Pool
  st : StationTable
  sc : Scheduler
  ls : LoopSequencer
  tx : Transmitter
  rx : Receiver
  ru : ReportUnit
  cu : CompletionUnit
  clock : Clock
  lineIn : List LineInput
  pinsIn : List ResetPins
  choices : Nat
  pending : List Instr
  deriving DecidableEq, Repr

/-- Why a step stops with a fault: no command of this part does. Every fault the manual describes (a faulted access, FAULTED,
a register error) is an effect on the state, and the machine goes on. Safe: the type is empty, so no run ends in one. -/
inductive Fault where
  deriving DecidableEq, Repr

/-- Why a command has no meaning. -/
inductive Refusal where
  /-- The command of this mnemonic is not modelled; raised by an arm of `exec` alone. Safe. No arm of this model raises it. -/
  | notModelled (mnemonic : String)
  deriving DecidableEq, Repr

/-! ## Reset -/

/-- A station entry after either reset (R49). -/
def Station.afterReset : Station :=
  { state := .vacant, position := none, commandToggle := false, reportToggle := none, groups := 0, weight := 1,
    outstanding := none, failures := 0 }

/-- No cause (R175). -/
def Causes.empty : Causes := { completion := false, engine := false, regError := false }

/-- The LH32 at the end of power-on reset (R193, R207; R17, R25, R48, R49, R63, R100, R118, R135, R136, R144, R147, R156,
R157, R164, R175, R177, R184, R195), with no command waiting. -/
def State.reset : State :=
  { hp := { engine := .off, faultCode := .noFault, badField := 0, registerError := .noError, config := none,
            configAddress := 0, bufferTail := 0, rate := 0, bus := none, queue := [],
            pins := { resetHigh := true, vddInRange := true }, resetHold := none }
    ri := { head := 0, tail := 0, held := none, reading := false }
    rp := { entries := Vector.replicate 64 none, stationLists := Vector.replicate 32 [], control := [] }
    st := { stations := Vector.replicate 32 Station.afterReset, loopMap := [] }
    sc := { cursor := 0, turns := Vector.replicate 32 0, sweepTimer := none, sweepDue := false, callTimer := none,
            callDue := false, headTimers := Vector.replicate 32 .stopped }
    ls := { state := .quiet, transit := [], rawDelay := 0, probeNumber := 0, probeTimer := none, settleTimer := none }
    tx := { sending := none, waiting := [], line := .symbol (.control .fill), abortNext := false, nextId := 0 }
    rx := .seek
    ru := { cache := [], head := 0, reading := false, acks := Vector.replicate 32 none, sweep := none, reports := [],
            writing := false, decision := none }
    cu := { queue := [], reserved := 0, write := none, heldRaises := [], tail := 0, phase := true, occupancy := 0, head := 0,
            pendingCauses := .empty, enabled := .empty, callAnswer := none }
    clock := { cycles := 0, octets := 0 }
    lineIn := []
    pinsIn := []
    choices := 0
    pending := [] }

end Sys2Proof.Machine
end

