-- ==== Sys2Proof/Machine/Operands.lean ====
section
/-! DEFINITION. What the operands of the commands name: stations and groups by their loop addresses, the orders in which
stations are scanned, and the fields of a written word. -/

namespace Sys2Proof.Machine

/-- The loop address of a station, 1 to 32 (R49). -/
def stationNumber (a : Addr) : Nat := a.val + 1

/-- The loop address of a station as an octet (R202). -/
def stationOctet (a : Addr) : Octet := BitVec.ofNat 8 (stationNumber a)

/-- The station with a loop address, none outside 1 to 32. -/
def stationAt (n : Nat) : Option Addr :=
  if h : 1 ≤ n ∧ n ≤ 32 then some ⟨n - 1, by omega⟩ else none

/-- The group 0 to 7 of a loop address 48 to 55 (R3, R202). -/
def groupOf (address : Octet) : Option Nat :=
  if 48 ≤ address.toNat ∧ address.toNat ≤ 55 then some (address.toNat - 48) else none

/-- The 32 stations in address order. -/
def allStations : List Addr := List.finRange 32

/-- The 32 stations in address order from `c` upward, wrapping from 32 to 1 (R127, R128, R133). -/
def stationsFrom (c : Addr) : List Addr := (List.finRange 32).map (fun i => c + i)

/-- A table given by a function on its indices. -/
def tabulate {α : Type} {n : Nat} (f : Fin n → α) : Vector α n := ⟨(List.ofFn f).toArray, by simp⟩

/-- The field of a written INTERRUPT word that starts at `bit`: COMPLETION, ENGINE and REG-ERROR in three bits
(spec 10, section 10.2). -/
def causesAt (word : HostWord) (bit : Nat) : Causes :=
  { completion := word.getLsbD bit, engine := word.getLsbD (bit + 1), regError := word.getLsbD (bit + 2) }

/-- Neither pin holds the part in power-on reset: RESET# is high and VDD in its operating range (R207). -/
def ResetPins.released (p : ResetPins) : Bool := p.resetHigh && p.vddInRange

/-- Power-on reset lasts: RESET# or VDD holds the part in it, or its 1 ms is not over (R193, R207). -/
def HostPort.powerOnReset (hp : HostPort) : Bool := !hp.pins.released || hp.resetHold.isSome

end Sys2Proof.Machine
end

