-- ==== Sys2Proof/Machine/Flags.lean ====
section
/-! DEFINITION. The flags of the part: the interrupt causes and line, and the register-error code. -/

namespace Sys2Proof.Machine

/-- A set of causes with one more (R173: a cause already pending stays pending). -/
def Causes.raise (c : Cause) (x : Causes) : Causes :=
  match c with
  | .completion => { x with completion := true }
  | .engine => { x with engine := true }
  | .regError => { x with regError := true }

/-- A set of causes without those of another set (R174). -/
def Causes.without (x y : Causes) : Causes :=
  { completion := x.completion && !y.completion, engine := x.engine && !y.engine, regError := x.regError && !y.regError }

/-- A cause becomes pending (R173). -/
def setCause (c : Cause) (s : State) : State :=
  { s with cu := { s.cu with pendingCauses := s.cu.pendingCauses.raise c } }

/-- The interrupt line is asserted: at least one cause is both pending and enabled (R174). INT# is low then (spec 12, 12.1);
during power-on reset it is released (R207). -/
def interruptLine (s : State) : Bool :=
  !s.hp.powerOnReset &&
  ((s.cu.pendingCauses.completion && s.cu.enabled.completion) ||
   (s.cu.pendingCauses.engine && s.cu.enabled.engine) ||
   (s.cu.pendingCauses.regError && s.cu.enabled.regError))

/-- A register error: its code is recorded and REG-ERROR becomes pending (R183). -/
def registerError (e : RegisterError) (s : State) : State :=
  setCause .regError { s with hp := { s.hp with registerError := e } }

end Sys2Proof.Machine
end

