-- ==== Sys2Proof/Decode.lean ====
section
/-! DEFINITION. What words spell. spec/opcode_table.json gives no row any bits ("n_rows_with_fixed": 0,
"n_rows_with_fields": 0 in spec/98_reader.md), so no word spells a command by the table. A word written to a register is the
operand of that register's commands, and to CONTROL it chooses the command (R179). -/

namespace Sys2Proof

/-- The command a word spells by the bits of spec/opcode_table.json: none, since no row of the table has bits. -/
def decodeTableWord (_nbits _w : Nat) : Option Instr := none

/-- The command that a word written to CONTROL is (R179): codes 1, 2 and 3 are START, STOP and RESET (spec 10, section 10.2), and
every other word is BAD_COMMAND. -/
def controlCommand (word : HostWord) : Instr :=
  if word = 1 then .start else if word = 2 then .stop else if word = 3 then .reset else .badCommand word

/-- The commands that the write of a whole word to a register is, in their order (spec 09, section 9.1; R178, R183). A write to
INTERRUPT has a row of the table for each of its two fields (R174; log entry 8). -/
def registerCommands (reg : Register) (word : HostWord) : List Instr :=
  match reg with
  | .control => [controlCommand word]
  | .configAddress => [.configAddressWrite word]
  | .requestTail => [.requestTailWrite word]
  | .bufferTail => [.bufferTailWrite word]
  | .completionHead => [.completionHeadWrite word]
  | .interrupt => [.interruptAcknowledge word, .interruptEnable word]
  | .status | .requestHead => [.registerWrite reg 32]

/-- The offset of a register in the window (spec 09, section 9.1). -/
def registerOffset : Register → Nat
  | .control => 0x00
  | .status => 0x04
  | .configAddress => 0x08
  | .requestTail => 0x0C
  | .requestHead => 0x10
  | .bufferTail => 0x14
  | .completionHead => 0x18
  | .interrupt => 0x1C

/-- The register that holds octet `offset` of the window, none outside its 32 octets (spec 09, section 9.1). -/
def registerAt (offset : Nat) : Option Register :=
  match offset / 4 with
  | 0 => some .control
  | 1 => some .status
  | 2 => some .configAddress
  | 3 => some .requestTail
  | 4 => some .requestHead
  | 5 => some .bufferTail
  | 6 => some .completionHead
  | 7 => some .interrupt
  | _ => none

/-- The commands that a bus write of `bits` bits at an offset of the window is (R178): a whole word at a register's offset is that
register's write, and fewer bits are a partial write of the register they fall in. A whole word at another offset is no access the
spec gives the window (log entry 32). -/
def windowWrite (offset bits : Nat) (word : HostWord) : List Instr :=
  match registerAt offset with
  | none => []
  | some r =>
    if bits = 32 ∧ registerOffset r = offset then registerCommands r word
    else if 1 ≤ bits ∧ bits < 32 then [.registerWrite r bits]
    else []

end Sys2Proof
end

