-- ==== Sys2Proof/Machine/Formats.lean ====
section
/-! DEFINITION. Record and register layouts (spec 10): codes, host records read and written, and their judgment. -/

namespace Sys2Proof.Machine

/-! ## Octets -/

/-- The octet at an offset of a record. -/
def octetAt (o : List Octet) (i : Nat) : Octet := o.getD i 0

/-- A one-octet field. -/
def byteAt (o : List Octet) (i : Nat) : Nat := (octetAt o i).toNat

/-- A two-octet field, little-endian (R199). -/
def halfAt (o : List Octet) (i : Nat) : Nat := byteAt o i + 256 * byteAt o (i + 1)

/-- A four-octet field, little-endian (R199). -/
def wordAt (o : List Octet) (i : Nat) : HostWord :=
  BitVec.ofNat 32 (byteAt o i + 256 * byteAt o (i + 1) + 65536 * byteAt o (i + 2) + 16777216 * byteAt o (i + 3))

/-- A number as one octet. -/
def octetOf (n : Nat) : Octet := BitVec.ofNat 8 n

/-- A number as two octets, the least significant first (R199). -/
def halfOctets (n : Nat) : List Octet := [octetOf n, octetOf (n / 256)]

/-- A word as four octets, the least significant first (R199). -/
def wordOctets (w : HostWord) : List Octet :=
  [octetOf w.toNat, octetOf (w.toNat / 256), octetOf (w.toNat / 65536), octetOf (w.toNat / 16777216)]

/-- The encoding of an absent or "none" one-octet field (R199). -/
def absentOctet : Octet := 0xFF

/-- A toggle as an octet, 00h or 01h (R199). -/
def toggleOctet (t : Toggle) : Octet := if t then 1 else 0

/-! ## Codes (R199, R170, R183) -/

/-- The code of an engine state (R199). -/
def EngineState.code : EngineState → Nat
  | .off => 0 | .starting => 1 | .running => 2 | .stopping => 3 | .stopped => 4 | .faulted => 5

/-- The code of a loop state (R199). -/
def LoopState.code : LoopState → Nat
  | .quiet => 0 | .probing => 1 | .calling => 2 | .opened => 3 | .broken => 4 | .draining => 5

/-- The code of a station state (R199). -/
def StationState.code : StationState → Nat
  | .vacant => 0 | .expected => 1 | .present => 2 | .silent => 3 | .conflict => 4 | .barred => 5

/-- The code of a fault (R199). -/
def FaultCode.code : FaultCode → Nat
  | .noFault => 0 | .configRead => 1 | .configRange => 2 | .requestRead => 3 | .bufferRead => 4 | .completionWrite => 5

/-- The code of a register error (R183). -/
def RegisterError.code : RegisterError → Nat
  | .noError => 0 | .wrongCommand => 1 | .badCommand => 2 | .readOnly => 3 | .partialWrite => 4 | .configBusy => 5
  | .configAlign => 6 | .ringsUnset => 7 | .requestTailRange => 8 | .bufferTailRange => 9 | .completionHeadRange => 10
  | .overRelease => 11

/-- The code of a status (R170). -/
def Status.code : Status → Nat
  | .ok => 0 | .partialCopy => 1 | .truncated => 2 | .notPresent => 3 | .cancelled => 4 | .timeout => 5
  | .noResponse => 6 | .refused => 7 | .unreached => 8 | .loopFault => 9 | .hostFault => 10 | .badRequest => 11
  | .badAddress => 12 | .badLength => 13 | .shortBuffer => 14 | .wrongState => 15

/-- The code of a last outcome (R199). -/
def LastOutcome.code : LastOutcome → Nat
  | .noMatch => 0 | .taken => 1 | .repeated => 2 | .busy => 3 | .damaged => 4 | .damagedInTransit => 5
  | .notReady => 6 | .responseDamaged => 7 | .responseInvalid => 8 | .lostToBreak => 9 | .unknown => 10

/-- The last outcome that records a trailer outcome, under the same code (R73, R199). -/
def lastOutcomeOf : TrailerOutcome → LastOutcome
  | .noMatch => .noMatch | .taken => .taken | .repeated => .repeated | .busy => .busy | .damaged => .damaged

/-- The code of a notice kind (R201). -/
def NoticeKind.code : NoticeKind → Nat
  | .loopState => 1 | .stationChange => 2 | .buffersLow => 3

/-- The request kind of a kind code, none where it is unknown (spec 10, section 10.4). -/
def requestKindOf (code : Octet) : Option RequestKind :=
  match code.toNat with
  | 0x01 => some .exchange
  | 0x02 => some .post
  | 0x03 => some .admission
  | 0x04 => some .expel
  | 0x05 => some .setStation
  | 0x06 => some .flush
  | 0x10 => some .groupPost
  | 0x11 => some .query
  | 0x12 => some .sweepNow
  | 0x13 => some .callNow
  | _ => none

/-! ## Configuration block (R186; spec 10, section 10.3) -/

/-- The eighteen fields of a configuration block, as read. -/
def configurationOf (o : List Octet) : Configuration :=
  { requestBase := wordAt o 0x00, completionBase := wordAt o 0x04, bufferBase := wordAt o 0x08,
    requestSize := halfAt o 0x0C, completionSize := halfAt o 0x0E, bufferSize := halfAt o 0x10,
    rateCode := byteAt o 0x12, inFlightLimit := byteAt o 0x13, attemptLimit := byteAt o 0x14, waitLimit := byteAt o 0x15,
    fetchDelay := byteAt o 0x16, silentThreshold := byteAt o 0x17, sweepInterval := halfAt o 0x18,
    sweepBudget := byteAt o 0x1A, callInterval := halfAt o 0x1C, returnMargin := halfAt o 0x1E,
    settleTime := byteAt o 0x20, probeLimit := halfAt o 0x22 }

/-- A number lies in a range that includes both ends. -/
def within (lo hi n : Nat) : Bool := decide (lo ≤ n) && decide (n ≤ hi)

/-- A power of two from 16 to 4096 (R186, field 2). -/
def isRequestRingSize (n : Nat) : Bool := [16, 32, 64, 128, 256, 512, 1024, 2048, 4096].contains n

/-- A ring of `size` records of `octets` octets at `base` does not pass the top of the host address space (R186). -/
def fitsHostMemory (base : HostWord) (octets size : Nat) : Bool := decide (base.toNat + octets * size ≤ 2 ^ 32)

/-- The eighteen judgments of R186, in field-number order. -/
def configurationChecks (c : Configuration) : List Bool :=
  [ decide (c.requestBase.toNat % 32 = 0),
    isRequestRingSize c.requestSize && fitsHostMemory c.requestBase 32 c.requestSize,
    decide (c.completionBase.toNat % 16 = 0),
    within 16 4096 c.completionSize && fitsHostMemory c.completionBase 16 c.completionSize,
    decide (c.bufferBase.toNat % 16 = 0),
    within 8 1024 c.bufferSize && fitsHostMemory c.bufferBase 16 c.bufferSize,
    within 0 7 c.rateCode,
    within 1 4 c.inFlightLimit,
    within 1 15 c.attemptLimit,
    within 0 254 c.waitLimit,
    within 1 255 c.fetchDelay,
    within 1 15 c.silentThreshold,
    within 0 1000 c.sweepInterval,
    within 1 8 c.sweepBudget,
    within 100 60000 c.callInterval,
    within 16 4096 c.returnMargin,
    within 1 255 c.settleTime,
    within 256 65535 c.probeLimit ]

/-- The place of the first judgment that fails, counted on from `n`. -/
def firstFailure : List Bool → Nat → Option Nat
  | [], _ => none
  | true :: rest, n => firstFailure rest (n + 1)
  | false :: _, n => some n

/-- The number of the first field that fails, none for a valid block (R186). -/
def badConfigurationField (c : Configuration) : Option Nat := firstFailure (configurationChecks c) 1

/-! ## Request record (R141; spec 10, section 10.4) -/

/-- The fields of a request record, as read. -/
def requestRecordOf (o : List Octet) : RequestRecord :=
  { kind := octetAt o 0x00, address := octetAt o 0x01, attemptLimit := byteAt o 0x02, flags := octetAt o 0x03,
    tag := wordAt o 0x04, payloadAddress := wordAt o 0x08, payloadLength := halfAt o 0x0C,
    responseCapacity := halfAt o 0x0E, responseAddress := wordAt o 0x10, deadline := halfAt o 0x14,
    weight := byteAt o 0x16, groups := octetAt o 0x17 }

/-- Test 3 of R141: the address fits the kind. -/
def addressFits (kind : RequestKind) (address : Octet) : Bool :=
  match kind with
  | .exchange | .post | .admission | .expel | .setStation | .flush => within 1 32 address.toNat
  | .groupPost => within 48 55 address.toNat || decide (address.toNat = 63)
  | .query | .sweepNow | .callNow => true

/-- The judgment of a record: the first test of R141 that fails decides the refusal. -/
def judgeRecord (r : RequestRecord) : Judgment :=
  if r.flags ≠ 0 then .refused .badRequest
  else match requestKindOf r.kind with
    | none => .refused .badRequest
    | some kind =>
      if !addressFits kind r.address then .refused .badAddress
      else if 240 < r.payloadLength then .refused .badLength
      else if 15 < r.attemptLimit then .refused .badLength
      else .valid kind

/-! ## Buffer descriptor (R102; spec 10, section 10.5) -/

/-- A descriptor as taken: a capacity above 4096 is taken as 4096. -/
def descriptorOf (index : Nat) (o : List Octet) : Descriptor :=
  { index := index, address := wordAt o 0x00, capacity := min 4096 (halfAt o 0x04) }

/-! ## Completion record (R199, R201; spec 10, section 10.6) -/

/-- The first part of a record write: the 15 octets at 00h to 0Eh (R166). -/
def recordBody (r : CompletionRecord) : List Octet :=
  [octetOf r.status.code, r.address, octetOf r.attempts, octetOf r.waits] ++ wordOctets r.tag ++ halfOctets r.length
    ++ halfOctets r.count ++
    [ match r.stationState with | some x => octetOf x.code | none => absentOctet,
      match r.lastOutcome with | some x => octetOf x.code | none => absentOctet,
      r.last.getD absentOctet ]

/-- The octet at 0Fh: record kind in bits 1–0, notice kind in bits 5–4, phase in bit 7 (R201). -/
def recordPhaseOctet (kind : RecordKind) (phase : Bool) : Octet :=
  octetOf ((match kind with | .done => 1 | .report => 2 | .notice n => 3 + 16 * n.code) + if phase then 128 else 0)

/-! ## QUERY snapshot (R71; spec 10, section 10.7) -/

/-- The 8-octet summary of a station, with its pending count. -/
def stationSummary (x : Station) (pendingCount : Nat) : List Octet :=
  [ octetOf x.state.code,
    match x.position with | some p => octetOf p | none => absentOctet,
    toggleOctet x.commandToggle,
    match x.reportToggle with | some t => toggleOctet t | none => absentOctet,
    x.groups, octetOf x.weight, octetOf x.failures, octetOf pendingCount ]

/-- The 32 octets of the loop map, 00h past its length. -/
def mapOctets (m : List Addr) : List Octet := (m.map stationOctet ++ List.replicate 32 0).take 32

/-- The 296 octets of a snapshot captured in `s`. -/
def snapshotOf (s : State) : List Octet :=
  [octetOf s.ls.state.code, octetOf s.st.loopMap.length, octetOf s.hp.engine.code, 0] ++ halfOctets s.ls.rawDelay
    ++ ([0, 0] : List Octet) ++ allStations.flatMap (fun a => stationSummary s.st.stations[a] s.rp.stationLists[a].length)
    ++ mapOctets s.st.loopMap

/-! ## Register words (R180, R199, R200; spec 10, section 10.2) -/

/-- The STATUS word: engine state, loop state, fault code, register-error code and first bad field, read as one value. -/
def statusWord (s : State) : HostWord :=
  BitVec.ofNat 32 (s.hp.engine.code + 16 * s.ls.state.code + 256 * s.hp.faultCode.code + 4096 * s.hp.registerError.code
    + 65536 * s.hp.badField)

/-- A set of causes as three bits, COMPLETION lowest. -/
def causeBits (c : Causes) : Nat :=
  (if c.completion then 1 else 0) + (if c.engine then 2 else 0) + (if c.regError then 4 else 0)

/-- What a whole-word read of a register returns (R178; spec 09, section 9.1); 0 while power-on reset lasts (R193). A read
changes nothing, so it is no command. -/
def readRegister (r : Register) (s : State) : HostWord :=
  if s.hp.powerOnReset then 0
  else match r with
    | .control => BitVec.ofNat 32 s.hp.engine.code
    | .status => statusWord s
    | .configAddress => s.hp.configAddress
    | .requestTail => BitVec.ofNat 32 s.ri.tail
    | .requestHead => BitVec.ofNat 32 s.ri.head
    | .bufferTail => BitVec.ofNat 32 s.hp.bufferTail
    | .completionHead => BitVec.ofNat 32 s.cu.head
    | .interrupt => BitVec.ofNat 32 (causeBits s.cu.pendingCauses + 256 * causeBits s.cu.enabled)

/-- What a read of fewer than 32 bits returns: the addressed octets of the register's value (R178). DESIGN CHOICE (log entry 32):
octet 0, at the register's offset, is the least significant one. -/
def readRegisterOctets (r : Register) (first count : Nat) (s : State) : List Octet :=
  ((wordOctets (readRegister r s)).drop first).take count

/-- What a bus read of `count` octets at an offset of the window returns: the octets of the register there (R178; spec 09, section
9.1), none outside the window. DESIGN CHOICE (log entry 32): a read that runs past the end of the register it starts in returns
the octets of that register alone. -/
def readWindow (offset count : Nat) (s : State) : List Octet :=
  match registerAt offset with
  | some r => readRegisterOctets r (offset - registerOffset r) count s
  | none => []

end Sys2Proof.Machine
end

