-- ==== Sys2Proof/Machine/Line.lean ====
section
/-! DEFINITION. The line (spec 01): the check, the symbols of each element, and the receiver that splits the returning
stream into items. -/

namespace Sys2Proof.Machine

/-! ## The check (R4, R8) -/

/-- One bit of the division by 8005h: shift left, and subtract the generator when a 1 leaves the register. -/
def crcBit (c : BitVec 16) : BitVec 16 := if c.msb then (c <<< 1) ^^^ 0x8005 else c <<< 1

/-- One octet, most significant bit first. -/
def crcOctet (c : BitVec 16) (o : Octet) : BitVec 16 :=
  crcBit (crcBit (crcBit (crcBit (crcBit (crcBit (crcBit (crcBit (c ^^^ (o.setWidth 16 <<< 8)))))))))

/-- The CRC of R4: generator 8005h, preset FFFFh, no reflection, no final inversion. -/
def crcOf (octets : List Octet) : BitVec 16 := octets.foldl crcOctet 0xFFFF

/-- The two check octets of a frame, high octet first (R4). -/
def frameCheck (octets : List Octet) : List Octet :=
  [(crcOf octets >>> 8).setWidth 8, (crcOf octets).setWidth 8]

/-- The check octet of a marker: the low octet of the CRC over its content (R8). -/
def markerCheck (content : List Octet) : Octet := (crcOf content).setWidth 8

/-! ## Codes on the line (R202) -/

/-- The kind octet of a head frame (R202). -/
def headFrameCode : HeadFrame → Octet
  | .data => 0x01 | .fetch => 0x02 | .post => 0x03 | .group => 0x04 | .rest => 0x05

/-- The head kind of a kind octet. -/
def headFrameOf (o : Octet) : Option HeadFrame :=
  match o.toNat with
  | 1 => some .data | 2 => some .fetch | 3 => some .post | 4 => some .group | 5 => some .rest | _ => none

/-- The kind octet of a RESPONSE. -/
def responseCode : Octet := 0x08

/-- The kind octet of a REPORT. -/
def reportCode : Octet := 0x09

/-- The octet of a trailer outcome (R202). -/
def outcomeOctet : TrailerOutcome → Octet
  | .noMatch => 0 | .taken => 1 | .repeated => 2 | .busy => 3 | .damaged => 4

/-- The outcome of a trailer octet, none where it encodes none of the five (R5, R21). -/
def outcomeOf (o : Octet) : Option TrailerOutcome :=
  match o.toNat with
  | 0 => some .noMatch | 1 => some .taken | 2 => some .repeated | 3 => some .busy | 4 => some .damaged | _ => none

/-- A toggle octet, 00h or 01h. -/
def toggleOf (o : Octet) : Option Toggle := if o = 0 then some false else if o = 1 then some true else none

/-- A CALL entry's octet: the JOIN mark in bit 7 (spec 10, section 10.9). -/
def callEntryOf (o : Octet) : CallEntry := { address := o.setWidth 7, join := o.getLsbD 7 }

/-! ## What the transmitter sends -/

/-- A frame up to its CLOSE: OPEN, header, payload, check, CLOSE (spec 01, section 1.2). -/
def frameSymbols (header payload : List Octet) : List Symbol :=
  [.control .opening] ++ (header ++ payload ++ frameCheck (header ++ payload)).map .data ++ [.control .closing]

/-- A head frame with its trailer, outcome NONE and copy count 0 (R5, R6). -/
def headFrameSymbols (address : Octet) (kind : HeadFrame) (toggle : Toggle) (payload : List Octet) : List Symbol :=
  frameSymbols [address, headFrameCode kind, toggleOctet toggle, octetOf payload.length] payload
    ++ [.data (outcomeOctet .noMatch), .data 0]

/-- A marker: its control symbol, its content, its check octet (R8). -/
def markerSymbols (c : Control) (content : List Octet) : List Symbol :=
  [.control c] ++ content.map .data ++ [.data (markerCheck content)]

/-- A run of FILL. -/
def fills (n : Nat) : List Symbol := List.replicate n (.control .fill)

/-- An EXCH element: the head frame, TURN, and 248 FILL of slack (R12). -/
def exchSymbols (address : Octet) (kind : HeadFrame) (toggle : Toggle) (payload : List Octet) : List Symbol :=
  headFrameSymbols address kind toggle payload ++ markerSymbols .turn [] ++ fills 248

/-- A REST element: the REST frame and two FILL (R13). -/
def restSymbols (address : Octet) : List Symbol := headFrameSymbols address .rest false [] ++ fills 2

/-- The content of a SWEEP marker: budget, ack count, pairs (R9). -/
def sweepContent (budget : Nat) (acks : List AckPair) : List Octet :=
  [octetOf budget, octetOf acks.length] ++ acks.flatMap (fun p => [stationOctet p.address, toggleOctet p.toggle])

/-- A SWEEP element (R14). -/
def sweepSymbols (budget : Nat) (acks : List AckPair) : List Symbol := markerSymbols .sweep (sweepContent budget acks)

/-- A CALL element, entry count 0 (R10, R14). -/
def callSymbols : List Symbol := markerSymbols .call [0]

/-- A PROBE element (R11, R14). -/
def probeSymbols (echo : Octet) : List Symbol := markerSymbols .probe [echo]

/-! ## The receiver (R19 to R23) -/

/-- The marker kind a control symbol begins (R19). -/
def markerKindOf : Control → Option MarkerKind
  | .turn => some .turn
  | .sweep => some .sweep
  | .call => some .call
  | .probe => some .probe
  | .fill | .opening | .closing | .abort => none

/-- What an input does in SEEK: OPEN begins a frame, a marker symbol a marker, anything else is discarded (R19). -/
def seekInput (now : Nat) (i : LineInput) : Receiver :=
  match i with
  | .symbol (.control .opening) => .frame now [] false []
  | .symbol (.control c) => match markerKindOf c with | some k => .marker now k [] | none => .seek
  | .symbol (.data _) => .seek
  | .violation => .seek

/-- The last header octet collected is one the head accepts: kind, control, length (R20). -/
def headerOctetOk (octets : List Octet) : Bool :=
  match octets with
  | [_, kind] => (headFrameOf kind).isSome || kind == responseCode || kind == reportCode
  | [_, _, control] => (toggleOf control).isSome
  | [_, _, _, length] => decide (length.toNat ≤ 240)
  | _ => true

/-- How many octets stand between OPEN and CLOSE, by the length field once it is collected. -/
def frameOctets (octets : List Octet) : Nat := if octets.length < 4 then 6 else 6 + byteAt octets 3

/-- The check octets collected match the header and payload (R4). -/
def frameCheckOk (octets : List Octet) : Bool :=
  octets.drop (octets.length - 2) == frameCheck (octets.take (octets.length - 2))

/-- The payload of a collected frame. -/
def framePayload (octets : List Octet) : List Octet := (octets.drop 4).take (octets.length - 6)

/-- A drop frame complete at its CLOSE (R7, R20). -/
def dropFrameItem (octets : List Octet) : Item :=
  if !frameCheckOk octets then .damagedFrame
  else match toggleOf (octetAt octets 2) with
    | none => .damagedFrame
    | some t => if octetAt octets 1 = responseCode then .response (octetAt octets 0) t (framePayload octets)
                else .report (octetAt octets 0) t (framePayload octets)

/-- A head frame complete with its trailer (R21). -/
def headFrameItem (octets : List Octet) (outcome copies : Octet) : Item :=
  match headFrameOf (octetAt octets 1), toggleOf (octetAt octets 2), outcomeOf outcome with
  | some k, some t, some r =>
    if frameCheckOk octets && decide (copies.toNat ≤ 32)
    then .headFrame k (octetAt octets 0) t (framePayload octets) r copies.toNat
    else .damagedFrame
  | _, _, _ => .damagedFrame

/-- The content octet collected last is one a marker may hold (R22). -/
def markerOctetOk (kind : MarkerKind) (octets : List Octet) : Bool :=
  match kind with
  | .turn | .probe => true
  | .call => if octets.length = 1 then decide (byteAt octets 0 ≤ 32) else true
  | .sweep =>
    let n := octets.length
    let x := byteAt octets (n - 1)
    if n = 1 then decide (x ≤ 8) else if n = 2 then decide (x ≤ 32)
    else if n % 2 = 1 then within 1 32 x else decide (x ≤ 1)

/-- How many content octets a marker has, by the counts collected so far (R22). -/
def markerOctets (kind : MarkerKind) (octets : List Octet) : Nat :=
  match kind with
  | .turn => 0
  | .probe => 1
  | .call => if octets.length = 0 then 1 else 1 + byteAt octets 0
  | .sweep => if octets.length < 2 then 2 else 2 + 2 * byteAt octets 1

/-- The pairs of a SWEEP marker's content after its two counts. -/
def ackPairsOf : List Octet → List AckPair
  | a :: t :: rest =>
    match stationAt a.toNat with
    | some x => { address := x, toggle := t == 1 } :: ackPairsOf rest
    | none => ackPairsOf rest
  | _ => []

/-- An intact marker's item (R24). -/
def markerItem (kind : MarkerKind) (content : List Octet) : Item :=
  match kind with
  | .turn => .turnMarker
  | .probe => .probeMarker (octetAt content 0)
  | .call => .callMarker ((content.drop 1).map callEntryOf)
  | .sweep => .sweepMarker (byteAt content 0) (ackPairsOf (content.drop 2))

/-- An item ends in octet time `now`: it is delivered with its return span, and the receiver is in SEEK (R21, R22, R24). -/
def itemEnds (start now : Nat) (item : Item) : Receiver × List Delivery :=
  (.seek, [{ item := item, span := { start := start, stop := now } }])

/-- The input that ended a damaged item begins a new one where it is OPEN or a marker symbol, and is consumed otherwise
(R23). -/
def endDamaged (start now : Nat) (item : Item) (i : LineInput) : Receiver × List Delivery :=
  (seekInput now i, (itemEnds start now item).2)

/-- A data octet inside a frame (R20, R21, R23). -/
def frameData (start now : Nat) (octets : List Octet) (closed : Bool) (trailer : List Octet) (o : Octet) :
    Receiver × List Delivery :=
  if closed then
    match trailer with
    | [] => (.frame start octets true [o], [])
    | outcome :: _ => itemEnds start now (headFrameItem octets outcome o)
  else if octets.length = frameOctets octets ∧ 4 ≤ octets.length then itemEnds start now .damagedFrame
  else if headerOctetOk (octets ++ [o]) then (.frame start (octets ++ [o]) false [], [])
  else itemEnds start now .damagedFrame

/-- CLOSE inside a frame (R20, R21). -/
def frameClose (start now : Nat) (octets : List Octet) (closed : Bool) : Receiver × List Delivery :=
  if closed then itemEnds start now .damagedFrame
  else if octets.length = frameOctets octets ∧ 4 ≤ octets.length then
    if (headFrameOf (octetAt octets 1)).isSome then (.frame start octets true [], [])
    else itemEnds start now (dropFrameItem octets)
  else itemEnds start now .damagedFrame

/-- A data octet inside a marker (R22). -/
def markerData (start now : Nat) (kind : MarkerKind) (octets : List Octet) (o : Octet) : Receiver × List Delivery :=
  if octets.length = markerOctets kind octets then
    itemEnds start now (if o = markerCheck octets then markerItem kind octets else .damagedMarker kind)
  else if markerOctetOk kind (octets ++ [o]) then (.marker start kind (octets ++ [o]), [])
  else itemEnds start now (.damagedMarker kind)

/-- One octet time of the receiver: its next state and the items it delivers (R19 to R23). -/
def receive (now : Nat) (r : Receiver) (i : LineInput) : Receiver × List Delivery :=
  match r with
  | .seek => (seekInput now i, [])
  | .frame start octets closed trailer =>
    match i with
    | .symbol (.data o) => frameData start now octets closed trailer o
    | .symbol (.control .closing) => frameClose start now octets closed
    | _ => endDamaged start now .damagedFrame i
  | .marker start kind octets =>
    match i with
    | .symbol (.data o) => markerData start now kind octets o
    | _ => endDamaged start now (.damagedMarker kind) i

/-- The receiver over a stretch of the stream whose first symbol arrives in octet time `now`. -/
def receiveAll (now : Nat) (r : Receiver) : List LineInput → Receiver × List Delivery
  | [] => (r, [])
  | i :: rest =>
    let first := receive now r i
    let then' := receiveAll (now + 1) first.1 rest
    (then'.1, first.2 ++ then'.2)

/-- The command that names a delivery. -/
def commandOf (d : Delivery) : Instr :=
  match d.item with
  | .headFrame k a t p o c => .headFrameReturn k a t p o c d.span
  | .response s t p => .responseReturn s t p d.span
  | .report s t p => .reportReturn s t p d.span
  | .damagedFrame => .damagedFrame d.span
  | .turnMarker => .turnReturn d.span
  | .sweepMarker b a => .sweepMarkerReturn b a d.span
  | .callMarker e => .callMarkerReturn e d.span
  | .probeMarker e => .probeReturn e d.span.start d.span.stop
  | .damagedMarker k => .damagedMarker k d.span

end Sys2Proof.Machine
end

