-- ==== Sys2Proof/Machine/Ops.lean ====
section
/-! DEFINITION. The shared operations: time, the tables and lists of the pool and the stations, the holding queue and its
notices, and the master access sequencer. -/

namespace Sys2Proof.Machine

/-! ## Time (spec 12, 12.1 and 12.3) -/

/-- REFCLK cycles in 1 ms: 16 MHz (spec 12, 12.1). -/
def cyclesPerMs : Nat := 16000

/-- REFCLK cycles in 10 µs. -/
def cyclesPer10us : Nat := 160

/-- REFCLK cycles after which an access on the bus times out: 2 ms (R196). -/
def busTimeoutCycles : Nat := 2 * cyclesPerMs

/-- REFCLK cycles in one octet time: 16 µs at rate code 0, halved by each code (R2). -/
def octetCycles (rate : Nat) : Nat := 256 / 2 ^ rate

/-- A timer that runs to a REFCLK cycle has reached it. -/
def reached (s : State) (due : Option Nat) : Bool := (due.map (fun t => decide (t ≤ s.clock.cycles))).getD false

/-- A timer that can be held runs, and has reached its instant. -/
def timerReached (s : State) (t : Timer) : Bool :=
  match t with
  | .running due => decide (due ≤ s.clock.cycles)
  | .stopped | .expired => false

/-- An octet-time timer has passed its last octet time (R27, R35). -/
def octetPassed (s : State) (last : Option Nat) : Bool := (last.map (fun t => decide (t < s.clock.octets))).getD false

/-! ## Configuration, stations, pool entries and lists -/

/-- The values read before a configuration is loaded; no rule reads them (R184: the store is empty outside a run). -/
def Configuration.unset : Configuration :=
  { requestBase := 0, requestSize := 0, completionBase := 0, completionSize := 0, bufferBase := 0, bufferSize := 0,
    rateCode := 0, inFlightLimit := 0, attemptLimit := 0, waitLimit := 0, fetchDelay := 0, silentThreshold := 0,
    sweepInterval := 0, sweepBudget := 0, callInterval := 0, returnMargin := 0, settleTime := 0, probeLimit := 0 }

/-- The configuration store's values. -/
def configured (s : State) : Configuration := s.hp.config.getD .unset

/-- The engine is RUNNING. -/
def isRunning (s : State) : Bool := s.hp.engine == .running

/-- The entry of a station. -/
def station (s : State) (a : Addr) : Station := s.st.stations[a]

/-- A station's entry is replaced. -/
def putStation (a : Addr) (x : Station) (s : State) : State :=
  { s with st := { s.st with stations := s.st.stations.set a.val x a.isLt } }

/-- A pool entry, none while it is free. -/
def entry (s : State) (p : PoolIx) : Option PoolEntry := s.rp.entries[p]

/-- A pool entry is allocated, replaced or freed. -/
def putEntry (p : PoolIx) (e : Option PoolEntry) (s : State) : State :=
  { s with rp := { s.rp with entries := s.rp.entries.set p.val e p.isLt } }

/-- An allocated pool entry is changed. -/
def modEntry (p : PoolIx) (f : PoolEntry → PoolEntry) (s : State) : State :=
  match entry s p with
  | some e => putEntry p (some (f e)) s
  | none => s

/-- A list of the pool, oldest first (R147). -/
def listOf (s : State) : ListId → List PoolIx
  | .control => s.rp.control
  | .station a => s.rp.stationLists[a]

/-- A list of the pool is replaced. -/
def putList (l : ListId) (ps : List PoolIx) (s : State) : State :=
  match l with
  | .control => { s with rp := { s.rp with control := ps } }
  | .station a => { s with rp := { s.rp with stationLists := s.rp.stationLists.set a.val ps a.isLt } }

/-- The head request of a list, with its working state. -/
def headEntry (s : State) (l : ListId) : Option (PoolIx × PoolEntry) :=
  match (listOf s l).head? with
  | some p => (entry s p).map (fun e => (p, e))
  | none => none

/-- The head deadline timer of a station list (R129). -/
def headTimer (s : State) (a : Addr) : Timer := s.sc.headTimers[a]

/-- A head deadline timer is set. -/
def putHeadTimer (a : Addr) (t : Timer) (s : State) : State :=
  { s with sc := { s.sc with headTimers := s.sc.headTimers.set a.val t a.isLt } }

/-- The list a kind of request joins (R147); a station kind names its station by `address`. -/
def listFor (kind : RequestKind) (address : Octet) : ListId :=
  match kind with
  | .groupPost | .query | .sweepNow | .callNow => .control
  | .exchange | .post | .admission | .expel | .setStation | .flush =>
    match stationAt address.toNat with
    | some a => .station a
    | none => .control

/-- The station a request is for, none for a request of the control list. -/
def requestStation (e : PoolEntry) : Option Addr :=
  match listFor e.kind e.address with
  | .station a => some a
  | .control => none

/-! ## The holding queue (R157 to R160) -/

/-- The record is a notice, which stands in a kept slot (R158). -/
def isNotice (r : CompletionRecord) : Bool :=
  match r.kind with
  | .notice _ => true
  | .done | .report => false

/-- The general slots occupied (R158). -/
def generalOccupied (cu : CompletionUnit) : Nat := (cu.queue.filter (fun r => !isNotice r)).length

/-- The reservable count: 13 less the general slots occupied and reserved (R158). -/
def reservable (s : State) : Nat := 13 - (generalOccupied s.cu + s.cu.reserved)

/-- `n` slots are reserved (R159). -/
def reserveSlots (n : Nat) (s : State) : State := { s with cu := { s.cu with reserved := s.cu.reserved + n } }

/-- `n` reserved slots are given back (R159). -/
def giveBackSlots (n : Nat) (s : State) : State := { s with cu := { s.cu with reserved := s.cu.reserved - n } }

/-- How a record comes by its slot: it uses a reservation, or claims a slot at once (R159). -/
inductive SlotUse where
  | useReserved
  | claimNow
  deriving DecidableEq, Repr

/-- A DONE or REPORT record enters the holding queue at the tail (R160). -/
def enterRecord (r : CompletionRecord) (use : SlotUse) (s : State) : State :=
  { s with cu := { s.cu with queue := s.cu.queue ++ [r]
                             reserved := match use with
                               | .useReserved => s.cu.reserved - 1
                               | .claimNow => s.cu.reserved } }

/-! ## Notices (R161 to R163) -/

/-- The NOTICE record of a first raise (R161, R163). -/
def noticeRecord (x : Raise) : CompletionRecord :=
  { kind := .notice x.kind, status := .ok, address := 0, attempts := 0, waits := 0, tag := 0, length := 0,
    count := min 65535 x.count, stationState := none, lastOutcome := none,
    last := x.loop.map (fun l => octetOf l.code) }

/-- A further raise of an unposted notice's kind (R161): the count stops at 65535, a LOOP-STATE raise replaces the state. -/
def updateNotice (x : Raise) (r : CompletionRecord) : CompletionRecord :=
  { r with count := min 65535 (r.count + x.count), last := (x.loop.map (fun l => octetOf l.code)).or r.last }

/-- The queue's notice of a kind. -/
def isNoticeOf (k : NoticeKind) (r : CompletionRecord) : Bool := r.kind == .notice k

/-- A raise fills the free kept slot, or updates the notice that occupies it where it stands (R161). -/
def applyRaise (x : Raise) (cu : CompletionUnit) : CompletionUnit :=
  if cu.queue.any (isNoticeOf x.kind)
  then { cu with queue := cu.queue.map (fun r => if isNoticeOf x.kind r then updateNotice x r else r) }
  else { cu with queue := cu.queue ++ [noticeRecord x] }

/-- The record write of the notice of a kind has begun, so it is closed to updates (R162). -/
def noticeClosed (k : NoticeKind) (cu : CompletionUnit) : Bool :=
  cu.write.isSome && (cu.queue.head?.map (isNoticeOf k)).getD false

/-- A unit raises a notice; the raise is held while the notice of its kind is being written (R161, R162). -/
def raiseNotice (x : Raise) (s : State) : State :=
  if noticeClosed x.kind s.cu then { s with cu := { s.cu with heldRaises := s.cu.heldRaises ++ [x] } }
  else { s with cu := applyRaise x s.cu }

/-- The record write has ended: the held raises are applied in arrival order (R162). -/
def applyHeldRaises (cu : CompletionUnit) : CompletionUnit :=
  cu.heldRaises.foldl (fun c x => applyRaise x c) { cu with heldRaises := [] }

/-- The LOOP-STATE notice of R45. -/
def raiseLoopState (l : LoopState) : State → State :=
  raiseNotice { kind := .loopState, count := 1, loop := some l }

/-- A STATION-CHANGE notice with a count (R56, R60). -/
def raiseStationChange (n : Nat) : State → State :=
  raiseNotice { kind := .stationChange, count := n, loop := none }

/-- A BUFFERS-LOW notice (R106). -/
def raiseBuffersLow : State → State := raiseNotice { kind := .buffersLow, count := 1, loop := none }

/-! ## The master access sequencer (R195 to R198) -/

/-- The pool entry an access serves. -/
def AccessKind.servedEntry : AccessKind → Option PoolIx
  | .payload p | .response p | .snapshot p => some p
  | .configuration | .requestRecord | .descriptor | .report | .recordBody | .recordPhase => none

/-- A read of `length` octets of host memory. -/
def readAccess (kind : AccessKind) (address : HostWord) (length : Nat) : Access :=
  { kind := kind, address := address, length := length, data := [], discarded := false }

/-- A write of octets to host memory. -/
def writeAccess (kind : AccessKind) (address : HostWord) (data : List Octet) : Access :=
  { kind := kind, address := address, length := data.length, data := data, discarded := false }

/-- A unit's request joins the tail of the list (R195). -/
def requestAccess (x : Access) (s : State) : State := { s with hp := { s.hp with queue := s.hp.queue ++ [x] } }

/-- The requests of one step in the order of the free choices from the `k`-th on (R195, `Config.joinPick`); the first
argument bounds the recursion by their number. -/
def freeOrder : Nat → Nat → List Access → List Access
  | 0, _, xs => xs
  | _ + 1, _, [] => []
  | _ + 1, _, [x] => [x]
  | n + 1, k, x :: y :: rest =>
    let xs := x :: y :: rest
    let i := Config.joinPick k % xs.length
    xs.getD i x :: freeOrder n (k + 1) (xs.eraseIdx i)

/-- The engine states in which the sequencer begins an access (R197). -/
def mayBeginAccess (e : EngineState) : Bool :=
  match e with
  | .starting | .running | .stopping | .stopped => true
  | .off | .faulted => false

/-- When the bus is free and the list is not empty, the sequencer begins the oldest access (R195). -/
def beginAccess (s : State) : State :=
  match s.hp.bus, s.hp.queue with
  | none, x :: rest =>
    if mayBeginAccess s.hp.engine then
      { s with hp := { s.hp with bus := some { access := x, begunAt := s.clock.cycles }, queue := rest } }
    else s
  | _, _ => s

/-- The requests one step made, those after the first `n` of the list, join in a free order (R195). A step that takes an access
out of the list makes at most one request. -/
def joinRequests (n : Nat) (s : State) : State :=
  let made := s.hp.queue.drop n
  { s with hp := { s.hp with queue := s.hp.queue.take n ++ freeOrder made.length s.choices made }
           choices := if made.length ≤ 1 then s.choices else s.choices + made.length }

/-- The end of every step that may ask for an access or free the bus. -/
def settleBus (n : Nat) (s : State) : State := beginAccess (joinRequests n s)

/-- The access on the bus has ended (R196). -/
def freeBus (s : State) : State := { s with hp := { s.hp with bus := none } }

/-- An access that serves entry `p` has its result discarded when it ends (R76). -/
def discardedFor (p : PoolIx) (x : Access) : Access :=
  if x.kind.servedEntry = some p then { x with discarded := true } else x

/-- A request is gone: the access on the bus that serves its entry has its result discarded when it ends (R76, R131), and an
access of it that is not begun leaves the list, so that an entry allocated again has at most one access in it (R195; DEDUCED, log
entry 22). -/
def discardAccesses (p : PoolIx) (s : State) : State :=
  { s with hp := { s.hp with queue := s.hp.queue.filter (fun x => x.kind.servedEntry != some p)
                             bus := s.hp.bus.map (fun b => { b with access := discardedFor p b.access }) } }

/-! ## Outcomes of a command -/

/-- What a step of this part answers: it never faults and never refuses. -/
abbrev Answer := Host.Outcome State Fault Refusal

/-- A command that touches no master access: its effect where the event can occur, and otherwise nothing (log entry 2). -/
def answer (ok : Bool) (f : State → State) (s : State) : Answer := .next (if ok then f s else s)

/-- A command whose effect may request accesses or free the bus: the requests join and the next access is begun (R195). -/
def answerWithBus (ok : Bool) (f : State → State) (s : State) : Answer :=
  .next (if ok then settleBus s.hp.queue.length (f s) else s)

end Sys2Proof.Machine
end

