-- ==== Sys2Proof/Machine/Requests.lean ====
section
/-! DEFINITION. The head of a list and the end of a request (spec 07, section 7.4): what becoming head starts, and what the
entry of a completion record into the holding queue ends. -/

namespace Sys2Proof.Machine

/-- The kinds whose payload is read before sending (R142, R75). -/
def sendsPayload (k : RequestKind) : Bool :=
  match k with
  | .exchange | .post | .groupPost => true
  | .admission | .expel | .setStation | .flush | .query | .sweepNow | .callNow => false

/-- The payload read of a head request begins when it carries no cancel mark and the engine is RUNNING; a payload of length 0
needs no read, and the request enters READY (R75). DESIGN CHOICE (log entry 29): R75 does not say when a payload of length 0
becomes READY while the engine is not RUNNING or under a cancel mark; here it stays QUEUED, as a request whose read may not
begin does. -/
def startPayload (p : PoolIx) (s : State) : State :=
  match entry s p with
  | none => s
  | some e =>
    if isRunning s && sendsPayload e.kind && e.phase == .queued && !e.cancelMark && !e.readStarted then
      if e.payloadLength = 0 then putEntry p (some { e with readStarted := true, phase := .ready }) s
      else requestAccess (readAccess (.payload p) e.payloadAddress e.payloadLength)
            (putEntry p (some { e with readStarted := true }) s)
    else s

/-- The head deadline timer of a request that becomes head: it runs for what remains of the deadline since placement, and
expires at once when nothing remains (R150). -/
def headTimerFor (s : State) (e : PoolEntry) : Timer :=
  match e.deadline with
  | none => .stopped
  | some d =>
    if e.placedAt + d * cyclesPerMs ≤ s.clock.cycles then .expired else .running (e.placedAt + d * cyclesPerMs)

/-- The timer of a list's head is armed; the control list has none (R129, R150). -/
def armHeadTimer (l : ListId) (e : PoolEntry) (s : State) : State :=
  match l with
  | .station a => putHeadTimer a (headTimerFor s e) s
  | .control => s

/-- A request has become the head of its list (R148, R149, R150). -/
def becomeHead (l : ListId) (s : State) : State :=
  match headEntry s l with
  | none => s
  | some (p, e) =>
    if sendsPayload e.kind then startPayload p (armHeadTimer l e s)
    else modEntry p (fun x => { x with phase := .ready }) (armHeadTimer l e s)

/-- The DONE record of a request, with the station state of this moment (R99, R113, R123, R171, R201). -/
def doneRecord (s : State) (e : PoolEntry) (status : Status) (length count : Nat) : CompletionRecord :=
  { kind := .done, status := status, address := e.address, attempts := e.attempts,
    waits := if e.kind = .exchange then e.waits else 0, tag := e.tag, length := length, count := count,
    stationState := (requestStation e).map (fun a => (station s a).state),
    lastOutcome := e.lastOutcome, last := e.expectedCount.map octetOf }

/-- A request leaves its list, and the list's head deadline timer stops (R151). -/
def leaveList (l : ListId) (p : PoolIx) (s : State) : State :=
  match l with
  | .station a => putHeadTimer a .stopped (putList l ((listOf s l).erase p) s)
  | .control => putList l ((listOf s l).erase p) s

/-- The outstanding link of a station to this request is cleared (R50). -/
def clearOutstanding (l : ListId) (p : PoolIx) (s : State) : State :=
  match l with
  | .station a =>
    if (station s a).outstanding = some p then putStation a { station s a with outstanding := none } s else s
  | .control => s

/-- A request is resolved: its DONE record enters the holding queue, its entry is freed, it leaves its list, and the next
request becomes head (R130, R144, R148, R151). -/
def finishRequest (p : PoolIx) (status : Status) (length count : Nat) (use : SlotUse) (s : State) : State :=
  match entry s p with
  | none => s
  | some e =>
    let l := listFor e.kind e.address
    becomeHead l
      (clearOutstanding l p
        (leaveList l p
          (putEntry p none
            (discardAccesses p
              (enterRecord (doneRecord s e status length count) use s)))))

end Sys2Proof.Machine
end

