-- ==== Sys2Proof/Machine/Exchange.lean ====
section
/-! DEFINITION. The exchange unit (spec 04): what a returned head frame, turn or response does to an EXCHANGE, POST or
GROUP-POST, and the payload read and response write of a request. -/

namespace Sys2Proof.Machine

/-! ## Failure counts (R52, R56, R82) -/

/-- The failure count rises on NONE, up to 15; a PRESENT station whose count then equals the silent threshold enters SILENT and
a STATION-CHANGE notice of count 1 is raised (R52, R56). -/
def countFailure (a : Addr) (s : State) : State :=
  let x := station s a
  let n := min 15 (x.failures + 1)
  if x.state = .present ∧ n = (configured s).silentThreshold then
    raiseStationChange 1 (putStation a { x with failures := n, state := .silent } s)
  else putStation a { x with failures := n } s

/-- The failure count returns to 0 (R52). -/
def clearFailures (a : Addr) (s : State) : State := putStation a { station s a with failures := 0 } s

/-- What a head-frame outcome does to the station's failure count (R52, R80, R81). -/
def applyOutcomeToFailures (o : LastOutcome) (a : Addr) (s : State) : State :=
  match o with
  | .noMatch => countFailure a s
  | .taken | .repeated | .busy => clearFailures a s
  | .damaged | .damagedInTransit | .notReady | .responseDamaged | .responseInvalid | .lostToBreak | .unknown => s

/-- The station's command toggle flips (R51). -/
def flipCommandToggle (a : Addr) (s : State) : State :=
  putStation a { station s a with commandToggle := !(station s a).commandToggle } s

/-! ## Failed attempts (R89 to R91) -/

/-- The final status by the last outcome when the attempts run out (R90). -/
def finalStatus (o : Option LastOutcome) : Status :=
  match o with
  | some .busy => .refused
  | some .noMatch => .unreached
  | _ => .loopFault

/-- The request stays outstanding: it enters PAUSED, its fetch-delay timer starts, and it gives its slot back (R89, R91). -/
def pauseRequest (p : PoolIx) (s : State) : State :=
  giveBackSlots 1
    (modEntry p (fun e => { e with phase := .paused
                                   fetchTimer := .running (s.clock.cycles + (configured s).fetchDelay * cyclesPer10us) }) s)

/-- A failed attempt of an EXCHANGE or POST for station `a` (R89, R94): `counted` unless it was a NOT-READY (R87). -/
def failedAttempt (a : Addr) (p : PoolIx) (counted : Bool) (s : State) : State :=
  let s1 := modEntry p (fun e => { e with attempts := if counted then e.attempts + 1 else e.attempts }) s
  match entry s1 p with
  | none => s1
  | some e =>
    if e.expiryMark then finishRequest p .timeout 0 0 .useReserved s1
    else if (station s1 a).state ≠ .present then finishRequest p .notPresent 0 0 .useReserved s1
    else if counted ∧ e.attempts = e.attemptLimit then finishRequest p (finalStatus e.lastOutcome) 0 0 .useReserved s1
    else pauseRequest p s1

/-! ## Head frames (R80, R81, R95, R68) -/

/-- The last outcome of a request is written (R73). -/
def writeOutcome (p : PoolIx) (o : LastOutcome) (s : State) : State :=
  modEntry p (fun e => { e with lastOutcome := some o }) s

/-- The head frame of a POST entry (R81). -/
def postReturned (a : Addr) (p : PoolIx) (o : LastOutcome) (s : State) : State :=
  let s1 := applyOutcomeToFailures o a (writeOutcome p o s)
  match o with
  | .taken | .repeated => finishRequest p .ok 0 0 .useReserved (flipCommandToggle a s1)
  | _ => failedAttempt a p true s1

/-- The head frame of a GROUP entry: judged on the copy count against the expected count; LOOP-FAULT when it was damaged
(R95). -/
def groupReturned (p : PoolIx) (o : LastOutcome) (copies : Nat) (s : State) : State :=
  let s1 := writeOutcome p o s
  if o = .damagedInTransit then finishRequest p .loopFault 0 0 .useReserved s1
  else match entry s1 p with
    | none => s1
    | some e =>
      if e.expectedCount.getD 0 ≤ copies then finishRequest p .ok 0 copies .useReserved s1
      else finishRequest p .partialCopy 0 copies .useReserved s1

/-- The head frame of a REST entry: the EXPEL completes OK with the returned outcome (R68), and TAKEN takes the drop's 2 octet
times off the raw loop delay (R29). -/
def restReturned (p : PoolIx) (o : LastOutcome) (s : State) : State :=
  let s1 := finishRequest p .ok 0 0 .useReserved (writeOutcome p o s)
  if o = .taken then { s1 with ls := { s1.ls with rawDelay := s1.ls.rawDelay - 2 } } else s1

/-! ## Turns and responses (R83 to R88) -/

/-- The status of a success of length `length` against a capacity (R85). -/
def successStatus (length capacity : Nat) : Status := if length ≤ capacity then .ok else .truncated

/-- A valid RESPONSE: the command toggle flips, and the response is written, or the request completes at once where no octet
is written (R84, R85); in FAULTED a write due is not made and the request completes HOST-FAULT (R86). -/
def validResponse (a : Addr) (p : PoolIx) (payload : List Octet) (s : State) : State :=
  let s1 := modEntry p (fun e => { e with response := some payload.length }) (flipCommandToggle a (clearFailures a s))
  match entry s1 p with
  | none => s1
  | some e =>
    let written := payload.take e.responseCapacity
    if written.isEmpty then
      finishRequest p (successStatus payload.length e.responseCapacity) payload.length 0 .useReserved s1
    else if s1.hp.engine = .faulted then finishRequest p .hostFault payload.length 0 .useReserved s1
    else requestAccess (writeAccess (.response p) e.responseAddress written) s1

/-- An invalid or damaged response after TAKEN or REPEAT: the next frame becomes FETCH, and the attempt failed (R83). -/
def badResponse (a : Addr) (p : PoolIx) (o : LastOutcome) (s : State) : State :=
  failedAttempt a p true (modEntry p (fun e => { e with lastOutcome := some o, nextFrame := some .fetch }) s)

/-- A TURN returned unchanged after TAKEN or REPEAT: a wait is counted and the next frame becomes FETCH; beyond the wait limit
the request completes NO-RESPONSE, or TIMEOUT when its expiry mark is set (R87, R94). -/
def notReady (a : Addr) (p : PoolIx) (s : State) : State :=
  let s1 := modEntry p
    (fun e => { e with waits := e.waits + 1, lastOutcome := some .notReady, nextFrame := some .fetch }) s
  match entry s1 p with
  | none => s1
  | some e =>
    if (configured s1).waitLimit < e.waits then
      finishRequest p (if e.expiryMark then .timeout else .noResponse) 0 0 .useReserved s1
    else failedAttempt a p false s1

/-- What the item in the turn's place is to EX (R38). -/
inductive TurnItem where
  | unchanged
  | damaged
  | response (source : Octet) (toggle : Toggle) (payload : List Octet)
  deriving DecidableEq, Repr

/-- A RESPONSE is valid: source, toggle and length (R83). -/
def responseValid (e : PoolEntry) (source : Octet) (toggle : Toggle) (payload : List Octet) : Bool :=
  decide (source = e.address) && decide (e.toggleUsed = some toggle) && decide (1 ≤ payload.length)

/-- The turn item of an EXCH entry whose head frame came back TAKEN or REPEAT (R83, R87). -/
def turnAfterAccepted (a : Addr) (p : PoolIx) (e : PoolEntry) (t : TurnItem) (s : State) : State :=
  match t with
  | .unchanged => notReady a p s
  | .damaged => badResponse a p .responseDamaged s
  | .response source toggle payload =>
    if responseValid e source toggle payload then validResponse a p payload s
    else badResponse a p .responseInvalid s

/-- The turn item of an EXCH entry: the element is decided by the head-frame outcome, whose effect on the failure count is
applied now (R80, R83, R87, R88). -/
def turnReturned (a : Addr) (p : PoolIx) (t : TurnItem) (s : State) : State :=
  match entry s p with
  | none => s
  | some e =>
    match e.lastOutcome with
    | some .taken => turnAfterAccepted a p e t (clearFailures a s)
    | some .repeated => turnAfterAccepted a p e t (clearFailures a s)
    | some o => failedAttempt a p true (applyOutcomeToFailures o a s)
    | none => failedAttempt a p true s

/-! ## The payload read and the response write (R75, R76, R85, R86) -/

/-- A payload read has delivered its octets: the request enters READY, unless a cancel mark or an expiry acted on has already
taken it (R75, R76, R152). -/
def payloadDelivered (p : PoolIx) (octets : List Octet) (s : State) : State :=
  match entry s p with
  | none => s
  | some e =>
    let expired := match requestStation e with
      | some a => isRunning s && headTimer s a == .expired
      | none => false
    if e.phase = .queued ∧ e.cancelMark = false ∧ expired = false then
      putEntry p (some { e with payload := octets, phase := .ready }) s
    else s

/-- A payload read has faulted: the request waits for its HOST-FAULT slot (R76). -/
def payloadFaulted (p : PoolIx) (s : State) : State :=
  modEntry p (fun e => if e.phase = .queued ∧ e.cancelMark = false then { e with readFaulted := true } else e) s

/-- A response write has completed: OK or TRUNCATED with the full length (R85). -/
def responseWritten (p : PoolIx) (s : State) : State :=
  match entry s p with
  | none => s
  | some e =>
    match e.response with
    | none => s
    | some n => finishRequest p (successStatus n e.responseCapacity) n 0 .useReserved s

/-- A response write has faulted, or was dropped: HOST-FAULT with the full length (R86, R197). -/
def responseLost (p : PoolIx) (s : State) : State :=
  match entry s p with
  | none => s
  | some e =>
    match e.response with
    | none => s
    | some n => finishRequest p .hostFault n 0 .useReserved s

end Sys2Proof.Machine
end

