-- ==== Sys2Proof/Machine/Reports.lean ====
section
/-! DEFINITION. The report unit (spec 05): the buffer cache, the judging of reports, their writes and completions, the ack
set, and the end of a sweep. -/

namespace Sys2Proof.Machine

/-! ## Rings -/

/-- A ring index advanced by 1, wrapping from the ring size less one to 0 (R101, R140, R166). -/
def nextIndex (i size : Nat) : Nat := if i + 1 < size then i + 1 else 0

/-- The host address of ring entry `i` (R136, R164; spec 05, section 5.2). -/
def ringAddress (base : HostWord) (octets i : Nat) : HostWord := base + BitVec.ofNat 32 (octets * i)

/-! ## The report buffer cache (R101 to R103) -/

/-- The test for a descriptor read (R101). -/
def testDescriptorRead (s : State) : State :=
  if isRunning s && decide (s.ru.cache.length < 8) && decide (s.ru.head ≠ s.hp.bufferTail) && !s.ru.reading then
    requestAccess (readAccess .descriptor (ringAddress (configured s).bufferBase 16 s.ru.head) 16)
      { s with ru := { s.ru with reading := true } }
  else s

/-- A descriptor read has completed: the descriptor joins the cache, the head advances, and the test is made again (R101,
R102). -/
def descriptorDelivered (octets : List Octet) (s : State) : State :=
  testDescriptorRead
    { s with ru := { s.ru with reading := false
                               cache := s.ru.cache ++ [descriptorOf s.ru.head octets]
                               head := nextIndex s.ru.head (configured s).bufferSize } }

/-! ## The ack set (R114) -/

/-- A station's entry of the ack set is written or removed. -/
def putAck (a : Addr) (x : Option AckEntry) (s : State) : State :=
  { s with ru := { s.ru with acks := s.ru.acks.set a.val x a.isLt } }

/-- The pairs of the ack set, in ascending order of address (R107). -/
def ackPairs (s : State) : List AckPair :=
  allStations.filterMap (fun a => s.ru.acks[a].map (fun x => { address := a, toggle := x.toggle }))

/-- The whole ack set is rewritten. -/
def mapAcks (f : AckEntry → Option AckEntry) (s : State) : State :=
  { s with ru := { s.ru with acks := tabulate (fun a => s.ru.acks[a].bind f) } }

/-! ## Completions of reports and of the SWEEP-NOW (R111, R113) -/

/-- The octets of a report that its buffer takes (R111). -/
def reportOctets (r : PendingReport) : List Octet := r.payload.take r.descriptor.capacity

/-- The REPORT completion, with the station state of this moment (R113, R201). -/
def reportRecord (s : State) (r : PendingReport) (status : Status) : CompletionRecord :=
  { kind := .report, status := status, address := stationOctet r.source, attempts := 0, waits := 0,
    tag := BitVec.ofNat 32 r.descriptor.index, length := r.payload.length, count := 0,
    stationState := some (station s r.source).state, lastOutcome := none, last := none }

/-- The SWEEP-NOW at the head of the control list completes through its reserved slot (R113, R115 to R117). -/
def finishSweepNow (status : Status) (count : Nat) (s : State) : State :=
  match headEntry s .control with
  | some (p, e) => if e.kind = .sweepNow then finishRequest p status 0 count .useReserved s else s
  | none => s

/-- A REPORT completion enters the holding queue; a SWEEP-NOW that waited for it alone follows (R111, R113). -/
def enterReport (r : PendingReport) (status : Status) (s : State) : State :=
  let s1 := enterRecord (reportRecord s r status) .useReserved s
  match s1.ru.decision with
  | none => s1
  | some d =>
    if d.after ≤ 1 then finishSweepNow d.status d.count { s1 with ru := { s1.ru with decision := none } }
    else { s1 with ru := { s1.ru with decision := some { d with after := d.after - 1 } } }

/-- The oldest pending report goes on: with no octet to write it completes at once; in FAULTED its write is not made and it
completes HOST-FAULT; otherwise its write is requested and the rest wait for it (R111, R112). -/
def pumpReports : List PendingReport → State → State
  | [], s => { s with ru := { s.ru with reports := [], writing := false } }
  | r :: rest, s =>
    if (reportOctets r).isEmpty then
      pumpReports rest (enterReport r (successStatus r.payload.length r.descriptor.capacity) s)
    else if s.hp.engine = .faulted then pumpReports rest (enterReport r .hostFault s)
    else requestAccess (writeAccess .report r.descriptor.address (reportOctets r))
          { s with ru := { s.ru with reports := r :: rest, writing := true } }

/-- The write of the oldest pending report has ended with a status (R111, R112). -/
def reportWritten (fault : Bool) (s : State) : State :=
  match s.ru.reports with
  | [] => s
  | r :: rest =>
    pumpReports rest
      (enterReport r (if fault then .hostFault else successStatus r.payload.length r.descriptor.capacity) s)

/-! ## Judging returned reports (R108 to R110) -/

/-- A report item is counted before it is tested (R108). -/
def countReportItem (s : State) : State :=
  { s with ru := { s.ru with sweep := s.ru.sweep.map (fun w => { w with items := w.items + 1 }) } }

/-- The slot an acceptance uses is one of those reserved in the SWEEP's transit entry (R110, R159). -/
def takeSweepSlot (s : State) : State :=
  match s.ls.transit with
  | [] => s
  | e :: rest => { s with ls := { s.ls with transit := { e with slots := e.slots - 1 } :: rest } }

/-- A report is accepted: it takes the oldest reserved descriptor, sets the station's report toggle and ack entry, and its
write is made in acceptance order (R110, R111). -/
def acceptReport (a : Addr) (toggle : Toggle) (payload : List Octet) (s : State) : State :=
  match s.ru.cache, s.ru.sweep with
  | d :: cache, some w =>
    let s1 := putStation a { station s a with reportToggle := some toggle } s
    let s2 := takeSweepSlot (putAck a (some { toggle := toggle, carried := false }) s1)
    let s3 := { s2 with ru := { s2.ru with cache := cache
                                           sweep := some { w with reserved := w.reserved - 1, accepted := w.accepted + 1 }
                                           reports := s2.ru.reports ++ [{ source := a, descriptor := d, payload := payload }] } }
    testDescriptorRead (if s3.ru.writing then s3 else pumpReports s3.ru.reports s3)
  | _, _ => s

/-- An intact REPORT ahead of a SWEEP marker: counted, then judged by the tests of R108 in order. -/
def reportReturned (source : Octet) (toggle : Toggle) (payload : List Octet) (s : State) : State :=
  let s1 := countReportItem s
  match s1.ru.sweep, stationAt source.toNat with
  | some w, some a =>
    if w.budget < w.items then s1
    else if (station s1 a).state ≠ .present then s1
    else if (station s1 a).reportToggle = some toggle then putAck a (some { toggle := toggle, carried := false }) s1
    else acceptReport a toggle payload s1
  | _, _ => s1

/-! ## The end of a sweep (R115 to R117) -/

/-- The ack set at the end of a sweep: an intact close removes every entry whose carried mark is still set; any other keeps
every entry and clears the marks (R115, R116). -/
def settleAcks (intact : Bool) (s : State) : State :=
  mapAcks (fun x => if x.carried && intact then none else some { x with carried := false }) s

/-- A sweep ends, closed intact or not: the ack set is settled, the slots no acceptance used are given back but the
SWEEP-NOW's, the sweep record is emptied, and a SWEEP-NOW it served completes, after the reports its own sweep accepted: at
once when it accepted none or all their completions have entered (R113, R115 to R117, R205). The reports of its sweep are the
last of those pending. -/
def endSweep (intact : Bool) (e : TransitEntry) (s : State) : State :=
  let accepted := (s.ru.sweep.map (fun w => w.accepted)).getD 0
  let status : Status := if intact then .ok else .loopFault
  let s1 := giveBackSlots (e.slots - if e.demand then 1 else 0) (settleAcks intact s)
  let s2 := { s1 with ru := { s1.ru with sweep := none } }
  if e.demand then
    if accepted = 0 || s2.ru.reports.isEmpty then finishSweepNow status accepted s2
    else { s2 with ru := { s2.ru with decision := some { status := status, count := accepted, after := s2.ru.reports.length } } }
  else s2

/-- The SWEEP marker returned intact: the sweep closed intact only if the returned pairs are those carried (R115, R116). -/
def sweepReturned (e : TransitEntry) (acks : List AckPair) (s : State) : State := endSweep (acks == e.acks) e s

end Sys2Proof.Machine
end

