-- ==== Sys2Proof/Machine/Roll.lean ====
section
/-! DEFINITION. The station table's roll calls (spec 03, sections 3.2 and 3.3) and its expected counts (R64). -/

namespace Sys2Proof.Machine

/-- The stations of a returned entry list, none when an entry's address lies outside 1–32 (R57). -/
def rollOf (entries : List CallEntry) : Option (List (Addr × Bool)) :=
  entries.mapM (fun x => (stationAt x.address.toNat).map (fun a => (a, x.join)))

/-- How many entries carry a station's address: the k of R58. -/
def timesShown (roll : List (Addr × Bool)) (a : Addr) : Nat := (roll.filter (fun x => x.1 == a)).length

/-- A station's entries carry the JOIN mark at least once (R55, R58). -/
def shownJoining (roll : List (Addr × Bool)) (a : Addr) : Bool := roll.any (fun x => x.1 == a && x.2)

/-- The new state of a station by its old state and k (R58). -/
def stateAfterRoll (old : StationState) (k : Nat) : StationState :=
  match old with
  | .vacant => .vacant
  | .barred => .barred
  | .expected => if k = 0 then .expected else if k = 1 then .present else .conflict
  | .present | .silent | .conflict => if k = 0 then .silent else if k = 1 then .present else .conflict

/-- A list with each address kept at its first position (R59). -/
def firstShown : List Addr → List Addr
  | [] => []
  | a :: rest => a :: (firstShown rest).filter (fun x => x != a)

/-- The loop map of an accepted list (R59). -/
def mapOfRoll (roll : List (Addr × Bool)) : List Addr := firstShown (roll.map (fun x => x.1))

/-- A station rejoined: PRESENT, shown once, with the JOIN mark (R58). -/
def rejoined (s : State) (roll : List (Addr × Bool)) (a : Addr) : Bool :=
  (station s a).state == .present && timesShown roll a == 1 && shownJoining roll a

/-- A station adds 1 to the change count: a state change, a rejoin, or a new vacant address (R60). -/
def stationChanged (s : State) (roll : List (Addr × Bool)) (a : Addr) : Bool :=
  (stateAfterRoll (station s a).state (timesShown roll a) != (station s a).state) || rejoined s roll a
    || ((station s a).state == .vacant && (mapOfRoll roll).contains a && !s.st.loopMap.contains a)

/-- The change count of a roll call (R60). -/
def changeCount (s : State) (roll : List (Addr × Bool)) : Nat :=
  (allStations.filter (stationChanged s roll)).length + if mapOfRoll roll = s.st.loopMap then 0 else 1

/-- A station entry after an accepted roll call: state, position, failure count on a change into PRESENT, and the toggles of a
JOIN reset (R52, R55, R58, R59). -/
def stationAfterRoll (s : State) (roll : List (Addr × Bool)) (a : Addr) : Station :=
  let x := station s a
  let state := stateAfterRoll x.state (timesShown roll a)
  let join := shownJoining roll a
  { x with state := state
           position := (mapOfRoll roll).idxOf? a
           failures := if state = .present ∧ x.state ≠ .present then 0 else x.failures
           commandToggle := if join then false else x.commandToggle
           reportToggle := if join then none else x.reportToggle }

/-- What a JOIN reset does to the outstanding request: an EXCHANGE's next frame becomes DATA, and the next sending copies the
command toggle (R55, R77, R78, R96). -/
def joinResetEntry (e : PoolEntry) : PoolEntry :=
  { e with nextFrame := if e.kind = .exchange then some .data else e.nextFrame, joinReset := true }

/-- What its station's leaving PRESENT does to an outstanding request: a PAUSED one has its fetch-delay timer cancelled and
enters READY (R54). -/
def stationLeftEntry (e : PoolEntry) : PoolEntry :=
  if e.phase = .paused then { e with phase := .ready, fetchTimer := .stopped } else e

/-- The outstanding request of a station is changed. -/
def modOutstanding (a : Addr) (f : PoolEntry → PoolEntry) (s : State) : State :=
  match (station s a).outstanding with
  | some p => modEntry p f s
  | none => s

/-- The JOIN reset's effect outside the station entry, for one station (R55, R114). -/
def applyJoin (roll : List (Addr × Bool)) (s : State) (a : Addr) : State :=
  if shownJoining roll a then modOutstanding a joinResetEntry (putAck a none s) else s

/-- The effect on its outstanding request of a station's leaving PRESENT in this roll call (R54, R97). -/
def applyLeaving (before : State) (s : State) (a : Addr) : State :=
  if (station before a).state = .present ∧ (station s a).state ≠ .present then modOutstanding a stationLeftEntry s else s

/-- The station table and the loop map after an accepted roll call (R58, R59). -/
def rollTable (s : State) (roll : List (Addr × Bool)) : StationTable :=
  { stations := tabulate (stationAfterRoll s roll), loopMap := mapOfRoll roll }

/-- An accepted roll call is reconciled: table and map, JOIN resets, the STATION-CHANGE notice, and the requests of stations
that left PRESENT (R57 to R62). -/
def reconcile (roll : List (Addr × Bool)) (s : State) : State :=
  let n := changeCount s roll
  let s1 := allStations.foldl (applyJoin roll) { s with st := rollTable s roll }
  let s2 := if 0 < n then raiseStationChange n s1 else s1
  allStations.foldl (applyLeaving s) s2

/-- The raw loop delay grows by 2 for each JOIN entry of an accepted CALL, up to 65535 (R29). -/
def addJoins (roll : List (Addr × Bool)) (s : State) : State :=
  { s with ls := { s.ls with rawDelay := min 65535 (s.ls.rawDelay + 2 * (roll.filter (fun x => x.2)).length) } }

/-- The expected count of a GROUP-POST: the PRESENT stations of the group, or every PRESENT station for address 63 (R64). -/
def expectedCount (s : State) (address : Octet) : Nat :=
  (allStations.filter (fun a => (station s a).state == .present &&
    match groupOf address with
    | some g => (station s a).groups.getLsbD g
    | none => decide (address.toNat = 63))).length

end Sys2Proof.Machine
end

