-- ==== Sys2Proof/Machine/Loop.lean ====
section
/-! DEFINITION. The loop sequencer (spec 02): hand-over and the transit list, loop states, probing, matching, breaks, and the
drain. -/

namespace Sys2Proof.Machine

/-! ## Hand-over (R33, R15) -/

/-- A transit entry with the fields of an element that serves no request, carries no reservation and names no target. -/
def bareEntry (kind : ElementKind) : TransitEntry :=
  { id := 0, element := kind, frame := none, target := none, toggle := false, length := 0, pool := none, demand := false,
    slots := 0, buffers := 0, acks := [], progress := .awaitingHead, deadline := none, sendEnd := none }

/-- An element is handed to the transmitter: it waits there to be begun, and its entry joins the transit list (R15, R33). -/
def handOver (e : TransitEntry) (run : List Symbol) (s : State) : State :=
  { s with tx := { s.tx with waiting := s.tx.waiting ++ [{ id := s.tx.nextId, run := run }], nextId := s.tx.nextId + 1 }
           ls := { s.ls with transit := s.ls.transit ++ [{ e with id := s.tx.nextId }] } }

/-- No element is being sent and none waits. -/
def transmitterIdle (s : State) : Bool := s.tx.sending.isNone && s.tx.waiting.isEmpty

/-! ## The return-limit timer (R35) -/

/-- The deadline the return-limit timer watches: that of the oldest entry, in OPEN, CALLING and DRAINING. -/
def returnLimit (s : State) : Option Nat :=
  match s.ls.state with
  | .opened | .calling | .draining => s.ls.transit.head?.bind (fun e => e.deadline)
  | .quiet | .probing | .broken => none

/-- The growth allowance of an element kind; the length of a SWEEP entry is its budget (R34). -/
def growthAllowance (e : TransitEntry) : Nat :=
  match e.element with
  | .sweep => 256 * e.length
  | .call => 40
  | .exch | .post | .group | .rest | .probe => 0

/-- The return deadline an entry receives at its send end `t`; a PROBE has none (R34). -/
def deadlineAt (s : State) (t : Nat) (e : TransitEntry) : Option Nat :=
  match e.element with
  | .probe => none
  | .exch | .post | .group | .rest | .sweep | .call =>
    some (t + s.ls.rawDelay + (configured s).returnMargin + growthAllowance e)

/-! ## Loop states -/

/-- The engine passes from STOPPING to STOPPED when the loop is QUIET, and the ENGINE cause becomes pending (R189). -/
def stopWhenQuiet (s : State) : State :=
  if s.hp.engine = .stopping ∧ s.ls.state = .quiet then
    setCause .engine { s with hp := { s.hp with engine := .stopped } }
  else s

/-- The loop enters QUIET with nothing in transit: its timers stop and the receiver is held in SEEK (R28, R35, R46, R47). -/
def enterQuiet (s : State) : State :=
  stopWhenQuiet
    { s with ls := { s.ls with state := .quiet, transit := [], probeTimer := none, settleTimer := none }, rx := .seek }

/-- In DRAINING the loop enters QUIET when the transit list becomes empty (R47). -/
def quietWhenDrained (s : State) : State :=
  if s.ls.state = .draining ∧ s.ls.transit = [] then enterQuiet s else s

/-- The loop enters PROBING and sends a PROBE under the next probe number (R11, R26, R44). -/
def startProbing (s : State) : State :=
  let n := s.ls.probeNumber + 1
  handOver (bareEntry .probe) (probeSymbols n)
    { s with ls := { s.ls with state := .probing, probeNumber := n, settleTimer := none } }

/-- A CALL sent restarts the call timer and clears call due (R122). -/
def restartCallTimer (s : State) : State :=
  { s with sc := { s.sc with callTimer := some (s.clock.cycles + (configured s).callInterval * cyclesPerMs), callDue := false } }

/-- The loop enters CALLING and sends its CALL, with the demand mark clear (R30, R122). -/
def startCalling (s : State) : State :=
  handOver (bareEntry .call) callSymbols (restartCallTimer { s with ls := { s.ls with state := .calling } })

/-- The settle timer starts (R44). -/
def startSettle (s : State) : State :=
  { s with ls := { s.ls with settleTimer := some (s.clock.cycles + (configured s).settleTime * cyclesPerMs) } }

/-! ## Breaks (R42 to R45) -/

/-- The CALL-NOW at the head of the control list completes through its reserved slot (R123, R43). -/
def finishCallNow (status : Status) (count : Nat) (s : State) : State :=
  match headEntry s .control with
  | some (p, e) => if e.kind = .callNow then finishRequest p status 0 count .useReserved s else s
  | none => s

/-- A CALL-NOW is answered by a roll call of change count `count`. Its STATION-CHANGE notice enters the holding queue first: while
that raise is `held` behind the write of a notice of its kind (R162), the record waits for the write's end (R123, R160), though
the roll call may end the drain meanwhile. R176 has every record of the drain in the queue at the entry to STOPPED, and does not name
this case: DESIGN CHOICE (log entry 31). -/
def answerCallNow (held : Bool) (count : Nat) (s : State) : State :=
  if 0 < count ∧ held then { s with cu := { s.cu with callAnswer := some count } } else finishCallNow .ok count s

/-- The record of an answered CALL-NOW that waited for the held raises to be applied enters behind them (R123, R162). -/
def answerHeldCallNow (s : State) : State :=
  match s.cu.callAnswer with
  | none => s
  | some count => finishCallNow .ok count { s with cu := { s.cu with callAnswer := none } }

/-- What is done with the request of an entry, given its pool entry and its station. -/
def withStationRequest (e : TransitEntry) (f : Addr → PoolIx → State → State) (s : State) : State :=
  match e.pool with
  | none => s
  | some p =>
    match (entry s p).bind requestStation with
    | none => s
    | some a => f a p s

/-- What is done with the pool entry of an entry. -/
def withRequest (e : TransitEntry) (f : PoolIx → State → State) (s : State) : State :=
  match e.pool with
  | none => s
  | some p => f p s

/-- The resolution of a transit entry that a break gives up, by its kind (R43, R95, R68, R117). -/
def resolveByBreak (e : TransitEntry) (s : State) : State :=
  match e.element with
  | .exch => withStationRequest e (fun a p x => failedAttempt a p true (writeOutcome p .lostToBreak x)) s
  | .post => withStationRequest e (fun a p x => failedAttempt a p true (writeOutcome p .lostToBreak x)) s
  | .group => withRequest e (fun p x => finishRequest p .loopFault 0 0 .useReserved (writeOutcome p .lostToBreak x)) s
  | .rest => withRequest e (fun p x => finishRequest p .ok 0 0 .useReserved (writeOutcome p .unknown x)) s
  | .sweep => endSweep false e s
  | .call => if e.demand then finishCallNow .loopFault 0 s else s
  | .probe => s

/-- Transit entries are resolved one by one, oldest first (R42). -/
def resolveAll (es : List TransitEntry) (s : State) : State := es.foldl (fun x e => resolveByBreak e x) s

/-- The settle timer starts on entry to BROKEN, unless an element handed over before the break is still to be sent to its end
(R44). -/
def settleWhenIdle (s : State) : State := if transmitterIdle s then startSettle s else s

/-- The loop enters BROKEN: timers stop, the receiver is held in SEEK, every entry is resolved, LOOP-STATE is raised, and the
settle time begins (R42 to R45). -/
def enterBroken (s : State) : State :=
  let s1 := { s with ls := { s.ls with state := .broken, transit := [], probeTimer := none, settleTimer := none }, rx := .seek }
  settleWhenIdle (raiseLoopState .broken (resolveAll s.ls.transit s1))

/-- In DRAINING a mismatch or an expiry resolves every remaining entry and sends the loop straight to QUIET (R47). -/
def abandonDrain (s : State) : State :=
  enterQuiet (resolveAll s.ls.transit { s with ls := { s.ls with transit := [] } })

/-- What a mismatch, an expiry of the return-limit timer or of the probe timer does to the loop (R28, R35, R41, R47). -/
def loseTrack (s : State) : State :=
  match s.ls.state with
  | .opened | .calling | .probing => enterBroken s
  | .draining => abandonDrain s
  | .quiet | .broken => s

/-! ## Probing (R27, R47) -/

/-- An intact PROBE succeeds: it carries the number last sent and ends within the probe limit, counted from its send end
(R27). -/
def probeGood (s : State) (e : TransitEntry) (echo : Octet) (returnEnd : Nat) : Bool :=
  decide (echo = s.ls.probeNumber) &&
    (match e.sendEnd with
     | some t => decide (returnEnd ≤ t + (configured s).probeLimit)
     | none => true)

/-- The raw loop delay a PROBE measures: octet times from its send end to its return start, 0 when that is not later (R27). -/
def measuredDelay (e : TransitEntry) (returnStart : Nat) : Nat :=
  match e.sendEnd with
  | some t => min 65535 (returnStart - t)
  | none => 0

/-- The oldest entry leaves the transit list (R32, R36). -/
def popOldest (s : State) : State := { s with ls := { s.ls with transit := s.ls.transit.tail } }

/-- A PROBE has succeeded: the probe timer stops, its entry is removed, and the raw loop delay is set (R27). -/
def probeMeasured (e : TransitEntry) (returnStart : Nat) (s : State) : State :=
  let s1 := popOldest s
  { s1 with ls := { s1.ls with probeTimer := none, rawDelay := measuredDelay e returnStart } }

/-- The first item delivered in PROBING is judged against the PROBE entry (R27). -/
def deliverProbing (d : Delivery) (s : State) : State :=
  match s.ls.transit, d.item with
  | e :: _, .probeMarker echo =>
    if e.element = .probe ∧ probeGood s e echo d.span.stop then startCalling (probeMeasured e d.span.start s) else enterBroken s
  | _, _ => enterBroken s

/-! ## Matching (R36 to R41) -/

/-- What an item that fits the oldest entry's progress is to the entry's owner. -/
inductive Fit where
  | headFrame (outcome : LastOutcome) (copies : Nat)
  | turn (t : TurnItem)
  | report (source : Octet) (toggle : Toggle) (payload : List Octet)
  | damagedReport
  | sweepMarker (acks : List AckPair)
  | damagedSweep
  | callMarker (entries : List CallEntry)
  | damagedCall
  | probe (returnStart : Nat)
  deriving DecidableEq, Repr

/-- A head frame where one is expected: intact with the entry's four fields, or damaged (R37). -/
def headFit (e : TransitEntry) (item : Item) : Option Fit :=
  match item with
  | .headFrame kind address toggle payload outcome copies =>
    if e.frame = some kind ∧ e.target = some address ∧ e.toggle = toggle ∧ e.length = payload.length then
      some (.headFrame (lastOutcomeOf outcome) copies)
    else none
  | .damagedFrame => some (.headFrame .damagedInTransit 0)
  | _ => none

/-- The returned turn where it is expected (R38). -/
def turnFit (item : Item) : Option Fit :=
  match item with
  | .turnMarker => some (.turn .unchanged)
  | .damagedMarker _ => some (.turn .damaged)
  | .damagedFrame => some (.turn .damaged)
  | .response source toggle payload => some (.turn (.response source toggle payload))
  | _ => none

/-- Reports, then the marker, of a SWEEP entry (R39). -/
def sweepFit (item : Item) : Option Fit :=
  match item with
  | .report source toggle payload => some (.report source toggle payload)
  | .damagedFrame => some .damagedReport
  | .sweepMarker _ acks => some (.sweepMarker acks)
  | .damagedMarker _ => some .damagedSweep
  | _ => none

/-- The marker of a CALL entry (R31, R40). -/
def callFit (item : Item) : Option Fit :=
  match item with
  | .callMarker entries => some (.callMarker entries)
  | .damagedMarker _ => some .damagedCall
  | _ => none

/-- The PROBE of a PROBE entry in DRAINING (R47). -/
def probeFit (s : State) (e : TransitEntry) (d : Delivery) : Option Fit :=
  match d.item with
  | .probeMarker echo =>
    if s.ls.state = .draining ∧ probeGood s e echo d.span.stop then some (.probe d.span.start) else none
  | _ => none

/-- How a delivered item fits the oldest entry, none for a mismatch (R36 to R41). -/
def fitOf (s : State) (e : TransitEntry) (d : Delivery) : Option Fit :=
  match e.element with
  | .post | .group | .rest => headFit e d.item
  | .exch => match e.progress with | .awaitingHead => headFit e d.item | .awaitingTurn => turnFit d.item
  | .sweep => sweepFit d.item
  | .call => callFit d.item
  | .probe => probeFit s e d

/-- The oldest entry, an EXCH, advances to awaiting its turn (R37). -/
def advanceOldest (s : State) : State :=
  match s.ls.transit with
  | [] => s
  | e :: rest => { s with ls := { s.ls with transit := { e with progress := .awaitingTurn } :: rest } }

/-- The head frame of the oldest entry, by its kind (R37, R80, R81, R95, R68). -/
def headFrameMatched (e : TransitEntry) (o : LastOutcome) (copies : Nat) (s : State) : State :=
  match e.element with
  | .exch => withRequest e (fun p x => writeOutcome p o x) (advanceOldest s)
  | .post => withStationRequest e (fun a p x => postReturned a p o x) (popOldest s)
  | .group => withRequest e (fun p x => groupReturned p o copies x) (popOldest s)
  | .rest => withRequest e (fun p x => restReturned p o x) (popOldest s)
  | .sweep | .call | .probe => s

/-- A CALL whose marker is damaged or rejected outside CALLING: its entry is removed, call due is set again, and a CALL-NOW it
served gives its slot back and stands at the head in READY (R40, R122, R123). -/
def discardCall (e : TransitEntry) (s : State) : State :=
  let s1 := popOldest s
  let s2 := { s1 with sc := { s1.sc with callDue := true } }
  if e.demand then
    match headEntry s2 .control with
    | some (p, x) =>
      if x.kind = .callNow then giveBackSlots e.slots (putEntry p (some { x with phase := .ready }) s2)
      else giveBackSlots e.slots s2
    | none => giveBackSlots e.slots s2
  else s2

/-- An intact CALL marker in OPEN or DRAINING (R40, R57, R123). -/
def callReturned (e : TransitEntry) (entries : List CallEntry) (s : State) : State :=
  match rollOf entries with
  | none => discardCall e s
  | some roll =>
    let s1 := addJoins roll (reconcile roll (popOldest s))
    if e.demand then answerCallNow (noticeClosed .stationChange s.cu) (changeCount s roll) s1 else s1

/-- An intact CALL marker in CALLING: an accepted list opens the loop, a rejected one breaks it (R31, R62). -/
def callingReturned (entries : List CallEntry) (s : State) : State :=
  match rollOf entries with
  | none => enterBroken s
  | some roll =>
    let s1 := addJoins roll (reconcile roll (popOldest s))
    raiseLoopState .opened { s1 with ls := { s1.ls with state := .opened } }

/-- A matched item is passed to the owner of the oldest entry; the entry is removed first when the item is the last one it
expects (R36). -/
def applyFit (e : TransitEntry) (fit : Fit) (s : State) : State :=
  match fit with
  | .headFrame o copies => headFrameMatched e o copies s
  | .turn t => withStationRequest e (fun a p x => turnReturned a p t x) (popOldest s)
  | .report source toggle payload => reportReturned source toggle payload s
  | .damagedReport => countReportItem s
  | .sweepMarker acks => sweepReturned e acks (popOldest s)
  | .damagedSweep => endSweep false e (popOldest s)
  | .callMarker entries => if s.ls.state = .calling then callingReturned entries s else callReturned e entries s
  | .damagedCall => if s.ls.state = .calling then enterBroken s else discardCall e s
  | .probe returnStart => probeMeasured e returnStart s

/-- An item delivered in OPEN, CALLING or DRAINING is judged against the oldest entry alone (R36, R41). -/
def deliverInTransit (d : Delivery) (s : State) : State :=
  match s.ls.transit with
  | [] => loseTrack s
  | e :: _ =>
    match fitOf s e d with
    | none => loseTrack s
    | some fit => quietWhenDrained (applyFit e fit s)

/-- The receiver delivers an item; in QUIET and BROKEN it is held and delivers none (R24, R27, R36). -/
def deliver (d : Delivery) (s : State) : State :=
  match s.ls.state with
  | .quiet | .broken => s
  | .probing => deliverProbing d s
  | .opened | .calling | .draining => deliverInTransit d s

/-- The loop is where the receiver delivers items (R24). -/
def receiverDelivers (s : State) : Bool :=
  match s.ls.state with
  | .quiet | .broken => false
  | .probing | .calling | .opened | .draining => true

/-- A delivery can fall now: the receiver is not held, and the item's return end is this octet time (R24). -/
def arrives (span : ReturnSpan) (s : State) : Bool :=
  receiverDelivers s && decide (span.start ≤ span.stop) && decide (span.stop = s.clock.octets)

/-- A delivery is judged, where it can fall and its item is one the receiver passes as it is (R24, R36). -/
def answerDelivery (possible : Bool) (item : Item) (span : ReturnSpan) (s : State) : Answer :=
  answerWithBus (possible && arrives span s) (deliver { item := item, span := span }) s

/-! ## Stop and fault (R46) -/

/-- What the engine's entry to STOPPING or FAULTED does to the loop (R46). -/
def drainLoop (s : State) : State :=
  match s.ls.state with
  | .opened | .probing | .calling =>
    if s.ls.transit = [] then enterQuiet s else { s with ls := { s.ls with state := .draining } }
  | .broken => enterQuiet s
  | .draining | .quiet => stopWhenQuiet s

/-! ## Commands of the line and its timers -/

/-- The element at the head of the waiting ones is the one being sent: its first symbol has left (R15). -/
def waitingBegun (s : State) : Bool :=
  match s.tx.sending, s.tx.waiting with
  | some y, x :: _ => y.id == x.id
  | _, _ => false

/-- ELEMENT_BEGIN (R15, R119): the waiting hand-over whose first symbol has left becomes none. -/
def elementBegins (s : State) : State := { s with tx := { s.tx with waiting := s.tx.waiting.tail } }

/-- An element's transit entry at its send end: the return deadline, or for a PROBE the send end its delay is measured from
(R34, R27). -/
def sendEndEntry (s : State) (t : Nat) (e : TransitEntry) : TransitEntry :=
  { e with deadline := deadlineAt s t e, sendEnd := if e.element = .probe then some t else none }

/-- The send end `t` of the element being sent: its entry, if it still has one, receives its deadline, or a PROBE starts the
probe timer; the last send end after a break starts the settle timer (R34, R27, R44). -/
def elementEnds (x : Sending) (t : Nat) (s : State) : State :=
  let isItsEntry := fun e : TransitEntry => e.id == x.id
  let probing := s.ls.transit.any (fun e => isItsEntry e && e.element == .probe)
  let s1 := { s with
    tx := { s.tx with sending := none }
    ls := { s.ls with transit := s.ls.transit.map (fun e => if isItsEntry e then sendEndEntry s t e else e)
                      probeTimer := if probing then some (t + (configured s).probeLimit) else s.ls.probeTimer } }
  if s1.ls.state = .broken ∧ s1.ls.settleTimer = none then settleWhenIdle s1 else s1

/-- ELEMENT_BEGIN. -/
def execElementBegin (s : State) : Answer := answer (waitingBegun s) elementBegins s

/-- SEND_END (R16, R34): the element being sent has no symbol left to send, and its last one went out in this octet time. -/
def execSendEnd (t : Nat) (s : State) : Answer :=
  match s.tx.sending with
  | none => .next s
  | some x => answer (x.left.isEmpty && decide (t = s.clock.octets)) (elementEnds x t) s

/-- HEAD_FRAME_RETURN (R37, R80, R81, R95, R68). -/
def execHeadFrameReturn (kind : HeadFrame) (address : Octet) (toggle : Toggle) (payload : List Octet)
    (outcome : TrailerOutcome) (copies : Nat) (s : State) (span : ReturnSpan := ReturnSpan.origin) : Answer :=
  answerDelivery (decide (payload.length ≤ 240) && decide (copies ≤ 32))
    (.headFrame kind address toggle payload outcome copies) span s

/-- RESPONSE_RETURN (R38, R83). -/
def execResponseReturn (source : Octet) (toggle : Toggle) (payload : List Octet) (s : State) (span : ReturnSpan := ReturnSpan.origin) : Answer :=
  answerDelivery (decide (payload.length ≤ 240)) (.response source toggle payload) span s

/-- TURN_RETURN (R38, R87). -/
def execTurnReturn (s : State) (span : ReturnSpan := ReturnSpan.origin) : Answer := answerDelivery true .turnMarker span s

/-- REPORT_RETURN (R39, R108). -/
def execReportReturn (source : Octet) (toggle : Toggle) (payload : List Octet) (s : State) (span : ReturnSpan := ReturnSpan.origin) : Answer :=
  answerDelivery (decide (payload.length ≤ 240)) (.report source toggle payload) span s

/-- DAMAGED_FRAME (R37, R38, R39). -/
def execDamagedFrame (s : State) (span : ReturnSpan := ReturnSpan.origin) : Answer := answerDelivery true .damagedFrame span s

/-- SWEEP_MARKER_RETURN (R39, R115). -/
def execSweepMarkerReturn (budget : Nat) (acks : List AckPair) (s : State) (span : ReturnSpan := ReturnSpan.origin) : Answer :=
  answerDelivery (decide (budget ≤ 8) && decide (acks.length ≤ 32)) (.sweepMarker budget acks) span s

/-- CALL_MARKER_RETURN (R31, R40, R57). -/
def execCallMarkerReturn (entries : List CallEntry) (s : State) (span : ReturnSpan := ReturnSpan.origin) : Answer :=
  answerDelivery (decide (entries.length ≤ 32)) (.callMarker entries) span s

/-- PROBE_RETURN (R27, R47). -/
def execProbeReturn (echo : Octet) (returnStart returnEnd : Nat) (s : State) : Answer :=
  answerDelivery true (.probeMarker echo) { start := returnStart, stop := returnEnd } s

/-- DAMAGED_MARKER (R38, R39, R40, R31, R27). -/
def execDamagedMarker (kind : MarkerKind) (s : State) (span : ReturnSpan := ReturnSpan.origin) : Answer :=
  answerDelivery true (.damagedMarker kind) span s

/-- RETURN_LIMIT_EXPIRY: the deadline octet time of the oldest entry has ended (R35, R42, R47). -/
def execReturnLimitExpiry (s : State) : Answer := answerWithBus (octetPassed s (returnLimit s)) loseTrack s

/-- The probe timer expires: it no longer runs, and the loop breaks, or is drained to QUIET (R28, R47). -/
def probeTimerExpires (s : State) : State := loseTrack { s with ls := { s.ls with probeTimer := none } }

/-- PROBE_TIMER_EXPIRY: the last octet time of the probe limit has ended (R28, R47). -/
def execProbeTimerExpiry (s : State) : Answer :=
  answerWithBus (octetPassed s s.ls.probeTimer && (s.ls.state == .probing || s.ls.state == .draining)) probeTimerExpires s

/-- SETTLE_TIMER_EXPIRY: with the engine RUNNING the hold ends and a new PROBE is sent (R44). -/
def execSettleTimerExpiry (s : State) : Answer :=
  answer (reached s s.ls.settleTimer && s.ls.state == .broken && isRunning s) startProbing s

end Sys2Proof.Machine
end

