-- ==== Sys2Proof/Machine/Intake.lean ====
section
/-! DEFINITION. Request intake (spec 07): record reads, placement with the marking of a FLUSH, and refusals. -/

namespace Sys2Proof.Machine

/-- The test for a record read (R138). -/
def testRecordRead (s : State) : State :=
  if isRunning s && decide (s.ri.head ≠ s.ri.tail) && s.ri.held.isNone && !s.ri.reading then
    requestAccess (readAccess .requestRecord (ringAddress (configured s).requestBase 32 s.ri.head) 32)
      { s with ri := { s.ri with reading := true } }
  else s

/-- A record read has completed: the record is held, and judged once (R138, R141, R143). -/
def recordDelivered (octets : List Octet) (s : State) : State :=
  let r := requestRecordOf octets
  { s with ri := { s.ri with reading := false, held := some { record := r, judgment := judgeRecord r } } }

/-- The held record is disposed of: the intake head advances, and the test for a read is made (R138, R140). -/
def disposeRecord (s : State) : State :=
  testRecordRead
    { s with ri := { s.ri with held := none, head := nextIndex s.ri.head (configured s).requestSize } }

/-- The attempt limit of a placed request: the default for a field of 0, where the kind uses it (R142). -/
def placedLimit (s : State) (kind : RequestKind) (field : Nat) : Nat :=
  match kind with
  | .exchange | .post => if field = 0 then (configured s).attemptLimit else field
  | .admission | .expel | .setStation | .flush | .groupPost | .query | .sweepNow | .callNow => 0

/-- The deadline of a placed request, for the kinds that use it; 0 is absent (R142). -/
def placedDeadline (kind : RequestKind) (field : Nat) : Option Nat :=
  match kind with
  | .exchange | .post | .admission | .expel | .setStation | .flush => if field = 0 then none else some field
  | .groupPost | .query | .sweepNow | .callNow => none

/-- A request's first frame (R72). -/
def firstFrame (kind : RequestKind) : Option HeadFrame :=
  match kind with
  | .exchange => some .data
  | .post => some .post
  | .admission | .expel | .setStation | .flush | .groupPost | .query | .sweepNow | .callNow => none

/-- The response address and capacity are used (R142). -/
def usesResponse (kind : RequestKind) : Bool := kind == .exchange || kind == .query

/-- The address is used (R141: that of a QUERY, SWEEP-NOW or CALL-NOW is not). -/
def usesAddress (kind : RequestKind) : Bool := !(kind == .query || kind == .sweepNow || kind == .callNow)

/-- A pool entry as placed: the fields its kind uses, and the starting values of R145. -/
def newEntry (s : State) (kind : RequestKind) (r : RequestRecord) : PoolEntry :=
  { kind := kind
    address := if usesAddress kind then r.address else 0
    tag := r.tag
    payloadAddress := if sendsPayload kind then r.payloadAddress else 0
    payloadLength := if sendsPayload kind then r.payloadLength else 0
    responseAddress := if usesResponse kind then r.responseAddress else 0
    responseCapacity := if usesResponse kind then r.responseCapacity else 0
    attemptLimit := placedLimit s kind r.attemptLimit
    deadline := placedDeadline kind r.deadline
    weight := if kind = .setStation then r.weight else 0
    groups := if kind = .setStation then r.groups else 0
    placedAt := s.clock.cycles
    phase := .queued, attempts := 0, waits := 0, toggleUsed := none, nextFrame := firstFrame kind, cancelMark := false,
    expiryMark := false, lastOutcome := none, payload := [], expectedCount := none, cancelledCount := 0,
    fetchTimer := .stopped, readStarted := false, readFaulted := false, joinReset := false, takenUp := false,
    response := none }

/-- The requests a FLUSH of a station marks: those of its list with no cancel mark that are not its outstanding request
(R70, R152). -/
def flushMarks (s : State) (a : Addr) : List PoolIx :=
  (listOf s (.station a)).filter (fun p =>
    match entry s p with
    | some e => !e.cancelMark && decide ((station s a).outstanding ≠ some p)
    | none => false)

/-- Requests take the cancel mark (R152). -/
def markCancelled (ps : List PoolIx) (s : State) : State :=
  ps.foldl (fun x p => modEntry p (fun e => { e with cancelMark := true }) x) s

/-- A free pool entry: the one named, or the free one of lowest number; none when all 64 are allocated (R145, R146). -/
def freeEntry (s : State) (named : PoolIx) : Option PoolIx :=
  if entry s named = none then some named else (List.finRange 64).find? (fun p => (entry s p).isNone)

/-- A request joins its list at the tail, and becomes head when the list was empty (R147, R148). -/
def joinList (l : ListId) (p : PoolIx) (e : PoolEntry) (s : State) : State :=
  let before := listOf s l
  let s1 := putList l (before ++ [p]) (putEntry p (some e) s)
  if before = [] then becomeHead l s1 else s1

/-- The placement of a valid record of a kind in entry `p`: for a FLUSH the marking of R152 first, then the append, then the
advance of the intake head (R145, R152, R140). -/
def placeRecord (p : PoolIx) (kind : RequestKind) (r : RequestRecord) (s : State) : State :=
  let e := newEntry s kind r
  match kind, stationAt r.address.toNat with
  | .flush, some a =>
    let marks := flushMarks s a
    disposeRecord (joinList (.station a) p { e with cancelledCount := marks.length } (markCancelled marks s))
  | _, _ => disposeRecord (joinList (listFor kind e.address) p e s)

/-- The refusal record (R143). -/
def refusalRecord (r : RequestRecord) (status : Status) : CompletionRecord :=
  { kind := .done, status := status, address := r.address, attempts := 0, waits := 0, tag := r.tag, length := 0, count := 0,
    stationState := none, lastOutcome := none, last := none }

/-- PLACEMENT (R145, R146): the engine is RUNNING, a valid record is held, and a pool entry is free. -/
def execPlacement (named : PoolIx) (s : State) : Answer :=
  match s.ri.held, freeEntry s named with
  | some { record := r, judgment := .valid kind }, some p => answerWithBus (isRunning s) (placeRecord p kind r) s
  | _, _ => .next s

/-- REFUSAL (R143): the engine is RUNNING, a refused record is held, and a holding slot can be claimed. -/
def execRefusal (s : State) : Answer :=
  match s.ri.held with
  | some { record := r, judgment := .refused status } =>
    answerWithBus (isRunning s && decide (0 < reservable s))
      (fun x => disposeRecord (enterRecord (refusalRecord r status) .claimNow x)) s
  | _ => .next s

end Sys2Proof.Machine
end

