-- ==== Sys2Proof/Machine/Scheduler.lean ====
section
/-! DEFINITION. The scheduler (spec 06): the gate, the order of choice, the station round, resolutions without loop traffic,
take-ups, and the scheduler's timers. -/

namespace Sys2Proof.Machine

/-! ## Resolutions without loop traffic (R130 to R133) -/

/-- What the head of a station list is resolved by (R131). -/
inductive Resolution where
  | cancelled
  | timeout
  | hostFault
  | notPresent
  | takeUp
  deriving DecidableEq, Repr

/-- An EXCHANGE or POST (R50: the kinds that can be outstanding). -/
def isWork (k : RequestKind) : Bool := k == .exchange || k == .post

/-- The resolution of a station list's head, the first case of R131 that applies; one that is IN-TRANSIT has none (R131). -/
def resolutionOf (s : State) (a : Addr) (e : PoolEntry) : Option Resolution :=
  if e.phase = .inTransit then none
  else if e.cancelMark then some .cancelled
  else if headTimer s a = .expired then some .timeout
  else if e.readFaulted then some .hostFault
  else if isWork e.kind then
    if (e.phase = .queued ∨ e.phase = .ready) ∧ (station s a).state ≠ .present then some .notPresent else none
  else if e.takenUp = false then some .takeUp
  else none

/-- The resolution of the head of station list `a`, with its pool entry. -/
def stationResolution (s : State) (a : Addr) : Option (PoolIx × PoolEntry × Resolution) :=
  match headEntry s (.station a) with
  | none => none
  | some (p, e) => (resolutionOf s a e).map (fun r => (p, e, r))

/-- The head of station list `a` waits to claim a slot; an EXPEL taken up carries its own (R131, R133). -/
def stationClaims (s : State) (a : Addr) : Bool :=
  match stationResolution s a with
  | some (_, e, _) => !e.takenUp
  | none => false

/-- A GROUP-POST whose payload read faulted, and that was therefore not sent (R76, R132). -/
def groupReadFaulted (e : PoolEntry) : Bool := e.kind == .groupPost && e.readFaulted && e.phase != .inTransit

/-- The head of the control list waits to claim a slot: a QUERY not taken up, or a GROUP-POST whose read faulted (R132). -/
def controlClaims (s : State) : Bool :=
  match headEntry s .control with
  | some (_, e) => (e.kind == .query && !e.takenUp) || groupReadFaulted e
  | none => false

/-- The claims waiting, in the order R133 serves them. -/
def claims (s : State) : List ListId :=
  (if controlClaims s then [.control] else []) ++
    ((stationsFrom s.sc.cursor).filter (stationClaims s)).map .station

/-- The head of a list can claim its slot: the engine is RUNNING and its claim is among the first that the reservable slots
serve (R130, R133). -/
def mayClaim (s : State) (l : ListId) : Bool := isRunning s && ((claims s).take (reservable s)).contains l

/-- An element can reserve slots: with it there are no more claims than slots that can be claimed. Where there are more, the
waiting claims are served first and the element at a later opportunity (R120, R133; log entry 12). -/
def elementMayReserve (s : State) : Bool := decide ((claims s).length < reservable s)

/-- The status of a resolution that is no take-up. -/
def resolutionStatus : Resolution → Option Status
  | .cancelled => some .cancelled
  | .timeout => some .timeout
  | .hostFault => some .hostFault
  | .notPresent => some .notPresent
  | .takeUp => none

/-- RESOLUTION_WITHOUT_LOOP_TRAFFIC (R130 to R132): CANCELLED, TIMEOUT, HOST-FAULT or NOT-PRESENT of a list's head, through
a claimed slot, or through the slot an EXPEL has carried since take-up (R67, R153). -/
def execResolution (l : ListId) (s : State) : Answer :=
  match l with
  | .control =>
    match headEntry s .control with
    | some (p, e) =>
      answerWithBus (groupReadFaulted e && mayClaim s .control)
        (finishRequest p .hostFault 0 0 .claimNow) s
    | none => .next s
  | .station a =>
    match stationResolution s a with
    | none => .next s
    | some (p, e, r) =>
      match resolutionStatus r with
      | none => .next s
      | some status =>
        if e.takenUp then answerWithBus (isRunning s) (finishRequest p status 0 0 .useReserved) s
        else answerWithBus (mayClaim s (.station a)) (finishRequest p status 0 0 .claimNow) s

/-! ## Take-up (R65 to R71) -/

/-- The request of a kind at the head of station list `a` that can be taken up now (R65, R130, R131). -/
def takeUpOf (s : State) (a : Addr) (kind : RequestKind) : Option (PoolIx × PoolEntry) :=
  match stationResolution s a with
  | some (p, e, .takeUp) => if e.kind = kind ∧ mayClaim s (.station a) then some (p, e) else none
  | _ => none

/-- ADMIT's effect: a VACANT or BARRED station becomes EXPECTED with failure count 0 (R66). -/
def admitStation (a : Addr) (p : PoolIx) (s : State) : State :=
  match (station s a).state with
  | .vacant | .barred =>
    finishRequest p .ok 0 0 .claimNow (putStation a { station s a with state := .expected, failures := 0 } s)
  | .expected | .present | .silent | .conflict => finishRequest p .wrongState 0 0 .claimNow s

/-- EXPEL's effect: the station becomes BARRED, and the EXPEL completes, or keeps its claimed slot and waits for its REST when
the station was PRESENT and the loop is OPEN (R67). -/
def expelStation (a : Addr) (p : PoolIx) (s : State) : State :=
  let x := station s a
  let s1 := putStation a { x with state := .barred } s
  match x.state with
  | .vacant | .barred => finishRequest p .wrongState 0 0 .claimNow s
  | .present =>
    if s.ls.state = .opened then reserveSlots 1 (modEntry p (fun e => { e with takenUp := true }) s1)
    else finishRequest p .ok 0 0 .claimNow s1
  | .expected | .silent | .conflict => finishRequest p .ok 0 0 .claimNow s1

/-- The weight a SET-STATION gives (R69). -/
def newWeight (present field : Nat) : Nat := if field = 0 then present else min 4 field

/-- SET-STATION's effect: the group set and weight of a station that is not VACANT (R69). -/
def setStationFields (a : Addr) (p : PoolIx) (e : PoolEntry) (s : State) : State :=
  let x := station s a
  if x.state = .vacant then finishRequest p .wrongState 0 0 .claimNow s
  else finishRequest p .ok 0 0 .claimNow
        (putStation a { x with groups := e.groups, weight := newWeight x.weight e.weight } s)

/-- ADMIT (R66). -/
def execAdmit (a : Addr) (s : State) : Answer :=
  match takeUpOf s a .admission with
  | some (p, _) => answerWithBus true (admitStation a p) s
  | none => .next s

/-- EXPEL (R67). -/
def execExpel (a : Addr) (s : State) : Answer :=
  match takeUpOf s a .expel with
  | some (p, _) => answerWithBus true (expelStation a p) s
  | none => .next s

/-- SET_STATION (R69). -/
def execSetStation (a : Addr) (s : State) : Answer :=
  match takeUpOf s a .setStation with
  | some (p, e) => answerWithBus true (setStationFields a p e) s
  | none => .next s

/-- FLUSH (R70): OK with its cancelled count, in any station state. -/
def execFlush (a : Addr) (s : State) : Answer :=
  match takeUpOf s a .flush with
  | some (p, e) => answerWithBus true (finishRequest p .ok 0 e.cancelledCount .claimNow) s
  | none => .next s

/-- The size of a snapshot (R71). -/
def snapshotSize : Nat := 296

/-- QUERY's effect: SHORT-BUFFER for a capacity below 296; otherwise the snapshot is captured now, its write is requested, and
the claimed slot is kept until the write ends (R71, R130). -/
def queryTakenUp (p : PoolIx) (e : PoolEntry) (s : State) : State :=
  if e.responseCapacity < snapshotSize then finishRequest p .shortBuffer snapshotSize 0 .claimNow s
  else requestAccess (writeAccess (.snapshot p) e.responseAddress (snapshotOf s))
        (reserveSlots 1 (putEntry p (some { e with takenUp := true }) s))

/-- QUERY (R71, R132). -/
def execQuery (s : State) : Answer :=
  match headEntry s .control with
  | some (p, e) => answerWithBus (e.kind == .query && !e.takenUp && mayClaim s .control) (queryTakenUp p e) s
  | none => .next s

/-! ## The gate and the order of choice (R119 to R121) -/

/-- The element is closing: nothing is sent behind it until it returns (R14). -/
def isClosing (e : TransitEntry) : Bool := e.element == .sweep || e.element == .call

/-- An opportunity exists: the five conditions of R119. -/
def opportunity (s : State) : Bool :=
  isRunning s && s.ls.state == .opened && decide (s.ls.transit.length < (configured s).inFlightLimit)
    && s.ls.transit.all (fun e => !isClosing e) && s.tx.waiting.isEmpty

/-- A request of a kind stands at the head of the control list in READY. -/
def controlHeadReady (s : State) (kind : RequestKind) : Option (PoolIx × PoolEntry) :=
  match headEntry s .control with
  | some (p, e) => if e.kind = kind ∧ e.phase = .ready then some (p, e) else none
  | none => none

/-- How a due CALL is handed over: none, or with the demand mark set or clear (R122). -/
def callPlan (s : State) : Option Bool :=
  if (controlHeadReady s .callNow).isSome then
    if elementMayReserve s then some true else if s.sc.callDue then some false else none
  else if s.sc.callDue then some false else none

/-- What is decided of a due sweep (R105). -/
inductive SweepPlan where
  | send (demand : Bool) (budget : Nat)
  | skip
  deriving DecidableEq, Repr

/-- The budget of a sweep that can reserve `slots` holding slots for reports (R104). -/
def sweepBudgetOf (s : State) (slots : Nat) : Nat :=
  min (configured s).sweepBudget (min s.ru.cache.length slots)

/-- The decision of a sweep due for the timer alone; none at this opportunity while it needs slots and the waiting claims come
first (R105, R206, R133; log entry 12). -/
def timerSweepPlan (s : State) : Option SweepPlan :=
  let b := sweepBudgetOf s (reservable s)
  if b = 0 then some (if (ackPairs s).isEmpty then .skip else .send false 0)
  else if elementMayReserve s then some (.send false b)
  else none

/-- The decision of a due sweep, none while none is due, or while one must wait for its slots. Its budget counts every slot that
can be reserved, less the one of the SWEEP-NOW it serves (R104, R105, R121, R133, R206). -/
def sweepPlan (s : State) : Option SweepPlan :=
  if (controlHeadReady s .sweepNow).isSome ∧ elementMayReserve s then some (.send true (sweepBudgetOf s (reservable s - 1)))
  else if s.sc.sweepDue then timerSweepPlan s else none

/-- The GROUP-POST that can be handed over (R125). -/
def groupPlan (s : State) : Option (PoolIx × PoolEntry) :=
  if elementMayReserve s then controlHeadReady s .groupPost else none

/-- Station `a`'s head is an EXPEL that waits in READY for its REST, with no cancel mark and no held expiry (R128, R153). -/
def awaitsRest (s : State) (a : Addr) : Bool :=
  match headEntry s (.station a) with
  | some (_, e) => e.kind == .expel && e.takenUp && e.phase == .ready && !e.cancelMark && headTimer s a != .expired
  | none => false

/-- The station whose REST is handed over: the first from the round cursor upward (R128). -/
def restPlan (s : State) : Option Addr := (stationsFrom s.sc.cursor).find? (awaitsRest s)

/-- Station `a` is eligible for a grant (R126). -/
def eligible (s : State) (a : Addr) : Bool :=
  (station s a).state == .present &&
    match headEntry s (.station a) with
    | some (_, e) => isWork e.kind && e.phase == .ready && !e.cancelMark && headTimer s a != .expired
    | none => false

/-- The scan of the round: the first station from the cursor that is eligible and whose turn count is below its weight (R127). -/
def scanRound (s : State) (turns : Vector Nat 32) : Option Addr :=
  (stationsFrom s.sc.cursor).find? (fun a => eligible s a && decide (turns[a] < (station s a).weight))

/-- Every turn count 0 (R127). -/
def noTurns : Vector Nat 32 := Vector.replicate 32 0

/-- The station step: the station granted and the turn counts it is granted under; when every eligible station has used its
weight, the round ends and the scan is made once more (R127). -/
def grantPlan (s : State) : Option (Addr × Vector Nat 32) :=
  if elementMayReserve s then
    match scanRound s s.sc.turns with
    | some a => some (a, s.sc.turns)
    | none => (scanRound s noTurns).map (fun a => (a, noTurns))
  else none

/-! ## Hand-overs -/

/-- A request of the control list is changed at its hand-over. -/
def modControlHead (f : PoolEntry → PoolEntry) (s : State) : State :=
  match headEntry s .control with
  | some (p, _) => modEntry p f s
  | none => s

/-- A request enters IN-TRANSIT (R74, R149). -/
def entersTransit (e : PoolEntry) : PoolEntry := { e with phase := .inTransit }

/-- A due CALL is handed over (R120, R122, R30). -/
def sendCall (demand : Bool) (s : State) : State :=
  let slots := if demand then 1 else 0
  let s1 := reserveSlots slots (if demand then modControlHead entersTransit s else s)
  handOver { bareEntry .call with demand := demand, slots := slots } callSymbols (restartCallTimer s1)

/-- The sweep timer starts with its full interval; with an interval of 0 it does not run (R124). -/
def startSweepTimer (s : State) : State :=
  let interval := (configured s).sweepInterval
  { s with sc := { s.sc with sweepTimer :=
      if interval = 0 then none else some (s.clock.cycles + interval * cyclesPerMs) } }

/-- A due sweep has been decided: sweep due is cleared, its timer restarts, and BUFFERS-LOW is raised when the cache holds no
descriptor (R105, R106, R124). -/
def sweepDecided (s : State) : State :=
  let s1 := startSweepTimer { s with sc := { s.sc with sweepDue := false } }
  if s.ru.cache.isEmpty then raiseBuffersLow s1 else s1

/-- A due sweep is handed over: descriptors and slots are reserved, the whole ack set is carried (R104, R107, R120). -/
def sendSweep (demand : Bool) (budget : Nat) (s : State) : State :=
  let slots := budget + if demand then 1 else 0
  let acks := ackPairs s
  let s1 := reserveSlots slots (if demand then modControlHead entersTransit s else s)
  let s2 := mapAcks (fun x => some { x with carried := true }) s1
  let s3 := { s2 with ru := { s2.ru with sweep := some { budget := budget, reserved := budget, items := 0, accepted := 0 } } }
  handOver { bareEntry .sweep with demand := demand, slots := slots, length := budget, buffers := budget, acks := acks }
    (sweepSymbols budget acks) (sweepDecided s3)

/-- A GROUP-POST is handed over with its expected count (R79, R125, R64). -/
def sendGroup (p : PoolIx) (e : PoolEntry) (s : State) : State :=
  let s1 := putEntry p (some { e with phase := .inTransit, attempts := 1, expectedCount := some (expectedCount s e.address) }) s
  handOver { bareEntry .group with frame := some .group, target := some e.address, length := e.payloadLength,
                                   pool := some p, slots := 1 }
    (headFrameSymbols e.address .group false e.payload) (reserveSlots 1 s1)

/-- The REST of station `a`'s EXPEL is handed over, carrying the slot reserved at take-up (R128, R67). -/
def sendRest (a : Addr) (s : State) : State :=
  match headEntry s (.station a) with
  | none => s
  | some (p, e) =>
    handOver { bareEntry .rest with frame := some .rest, target := some (stationOctet a), pool := some p, slots := 1 }
      (restSymbols (stationOctet a)) (putEntry p (some { e with phase := .inTransit, attempts := 1 }) s)

/-- The toggle of a sending: the station's command toggle when none is held yet or a JOIN reset came since the last sending,
and otherwise the one held (R77, R78, R96, R204). -/
def sendingToggle (s : State) (a : Addr) (e : PoolEntry) : Toggle :=
  if e.joinReset then (station s a).commandToggle else e.toggleUsed.getD (station s a).commandToggle

/-- The payload of a sending: none for FETCH (R6). -/
def sendingPayload (e : PoolEntry) (frame : HeadFrame) : List Octet :=
  match frame with
  | .fetch => []
  | .data | .post | .group | .rest => e.payload

/-- The length field of a sending: the request's payload length, 0 for FETCH (R6). -/
def sendingLength (e : PoolEntry) (frame : HeadFrame) : Nat :=
  match frame with
  | .fetch => 0
  | .data | .post | .group | .rest => e.payloadLength

/-- The element kind and symbols of an EXCHANGE's or POST's sending (R77, R78). -/
def sendingRun (address : Octet) (frame : HeadFrame) (toggle : Toggle) (payload : List Octet) :
    ElementKind × List Symbol :=
  match frame with
  | .post => (.post, headFrameSymbols address .post toggle payload)
  | .data | .fetch | .group | .rest => (.exch, exchSymbols address frame toggle payload)

/-- The EXCHANGE or POST at the head of station list `a` is handed over with one slot; on its first hand-over it becomes the
station's outstanding request (R50, R77, R78). -/
def sendStationHead (a : Addr) (s : State) : State :=
  match headEntry s (.station a) with
  | none => s
  | some (p, e) =>
    let frame := e.nextFrame.getD .data
    let toggle := sendingToggle s a e
    let run := sendingRun (stationOctet a) frame toggle (sendingPayload e frame)
    let s1 := putEntry p (some { e with phase := .inTransit, toggleUsed := some toggle, joinReset := false }) s
    let s2 := putStation a { station s1 a with outstanding := some p } s1
    handOver { bareEntry run.1 with frame := some frame, target := some (stationOctet a), toggle := toggle,
                                    length := sendingLength e frame, pool := some p, slots := 1 }
      run.2 (reserveSlots 1 s2)

/-- The round after a grant: the station's turn count rises by 1; the cursor stays on it while the count is below its weight,
and otherwise moves to the following address (R127). -/
def advanceRound (a : Addr) (turns : Vector Nat 32) (s : State) : State :=
  let n := turns[a] + 1
  { s with sc := { s.sc with turns := turns.set a.val n a.isLt
                             cursor := if n < (station s a).weight then a else a + 1 } }

/-- DUE_CALL (R121, item 1; R122). -/
def execDueCall (s : State) : Answer :=
  match callPlan s with
  | some demand => answer (opportunity s) (sendCall demand) s
  | none => .next s

/-- DUE_SWEEP (R121, item 2; R105): sent, or skipped. -/
def execDueSweep (s : State) : Answer :=
  match sweepPlan s with
  | some (.send demand budget) => answer (opportunity s && (callPlan s).isNone) (sendSweep demand budget) s
  | some .skip => answer (opportunity s && (callPlan s).isNone) sweepDecided s
  | none => .next s

/-- GROUP_POST (R121, item 3; R125). -/
def execGroupPost (s : State) : Answer :=
  match groupPlan s with
  | some (p, e) => answer (opportunity s && (callPlan s).isNone && (sweepPlan s).isNone) (sendGroup p e) s
  | none => .next s

/-- REST (R121, item 4; R128). -/
def execRest (s : State) : Answer :=
  match restPlan s with
  | some a =>
    answer (opportunity s && (callPlan s).isNone && (sweepPlan s).isNone && (groupPlan s).isNone) (sendRest a) s
  | none => .next s

/-- STATION_GRANT (R121, item 5; R126, R127). -/
def execStationGrant (s : State) : Answer :=
  match grantPlan s with
  | some (a, turns) =>
    answer (opportunity s && (callPlan s).isNone && (sweepPlan s).isNone && (groupPlan s).isNone && (restPlan s).isNone)
      (fun x => advanceRound a turns (sendStationHead a x)) s
  | none => .next s

/-! ## Timers (R91, R93, R122, R124, R129) -/

/-- The fetch delay of a PAUSED request has expired: it enters READY with the engine RUNNING, and otherwise the expiry is held
(R91, R129). -/
def fetchDelayExpired (p : PoolIx) (s : State) : State :=
  if isRunning s then modEntry p (fun e => { e with phase := .ready, fetchTimer := .stopped }) s
  else modEntry p (fun e => { e with fetchTimer := .expired }) s

/-- FETCH_DELAY_EXPIRY. -/
def execFetchDelayExpiry (p : PoolIx) (s : State) : Answer :=
  match entry s p with
  | some e =>
    answer (timerReached s e.fetchTimer && e.phase == .paused) (fetchDelayExpired p) s
  | none => .next s

/-- A held deadline expiry of station `a`'s head is acted on: IN-TRANSIT takes the expiry mark and the expiry is spent; PAUSED
has its fetch-delay timer cancelled and waits in READY for its TIMEOUT; any other waits for its TIMEOUT where it is (R93,
R131). -/
def actOnExpiry (a : Addr) (s : State) : State :=
  match headEntry s (.station a) with
  | none => s
  | some (p, e) =>
    match e.phase with
    | .inTransit => putHeadTimer a .stopped (putEntry p (some { e with expiryMark := true }) s)
    | .paused => putEntry p (some { e with phase := .ready, fetchTimer := .stopped }) s
    | .queued | .ready | .resolved => s

/-- The head deadline of station list `a` has expired: it is held, and acted on at once with the engine RUNNING (R93, R129). -/
def headDeadlineExpired (a : Addr) (s : State) : State :=
  let s1 := putHeadTimer a .expired s
  if isRunning s then actOnExpiry a s1 else s1

/-- HEAD_DEADLINE_EXPIRY. -/
def execHeadDeadlineExpiry (a : Addr) (s : State) : Answer :=
  answer (timerReached s (headTimer s a)) (headDeadlineExpired a) s

/-- SWEEP_TIMER_EXPIRY: sweep due is set (R124). -/
def execSweepTimerExpiry (s : State) : Answer :=
  answer (reached s s.sc.sweepTimer) (fun x => { x with sc := { x.sc with sweepTimer := none, sweepDue := true } }) s

/-- CALL_TIMER_EXPIRY: call due is set (R122). -/
def execCallTimerExpiry (s : State) : Answer :=
  answer (reached s s.sc.callTimer) (fun x => { x with sc := { x.sc with callTimer := none, callDue := true } }) s

end Sys2Proof.Machine
end

