-- ==== Sys2Proof/Machine/Completion.lean ====
section
/-! DEFINITION. The completion unit (spec 08): posting, the record write, releases, and the INTERRUPT register. -/

namespace Sys2Proof.Machine

/-! ## Posting (R165 to R167) -/

/-- The engine states in which the completion unit posts (R165). -/
def mayPost (e : EngineState) : Bool :=
  match e with
  | .running | .stopping | .stopped => true
  | .off | .starting | .faulted => false

/-- The host address of the ring entry at the tail (spec 08, section 8.3). -/
def tailAddress (s : State) : HostWord := ringAddress (configured s).completionBase 16 s.cu.tail

/-- The record write of the oldest record begins with its 15-octet body (R165, R166). -/
def beginPost (r : CompletionRecord) (s : State) : State :=
  requestAccess (writeAccess .recordBody (tailAddress s) (recordBody r)) { s with cu := { s.cu with write := some .body } }

/-- POST: the four conditions of R165. -/
def execPost (s : State) : Answer :=
  match s.cu.queue with
  | r :: _ =>
    answerWithBus (mayPost s.hp.engine && decide (s.cu.occupancy < (configured s).completionSize) && s.cu.write.isNone)
      (beginPost r) s
  | [] => .next s

/-- The phase octet write, begun directly after the body's (R166, R195). -/
def beginPhaseWrite (r : CompletionRecord) (s : State) : State :=
  let x := writeAccess .recordPhase (tailAddress s + 15) [recordPhaseOctet r.kind s.cu.phase]
  { s with cu := { s.cu with write := some .phase }
           hp := { s.hp with bus := some { access := x, begunAt := s.clock.cycles } } }

/-- The record is posted: it leaves the queue, the occupancy rises, the tail advances, the phase changes on a wrap, and the
held raises are applied, with a CALL-NOW's record behind them; then COMPLETION becomes pending (R166, R162, R123, R173). -/
def recordPosted (s : State) : State :=
  let size := (configured s).completionSize
  let wraps := decide (nextIndex s.cu.tail size = 0)
  let posted := { s.cu with queue := s.cu.queue.tail, write := none, occupancy := s.cu.occupancy + 1
                            tail := nextIndex s.cu.tail size
                            phase := if wraps then !s.cu.phase else s.cu.phase }
  setCause .completion (answerHeldCallNow { s with cu := applyHeldRaises posted })

/-- A record write has ended without posting: the record stays at the head of the queue, and the held raises are applied, with a
CALL-NOW's record behind them (R162, R167, R123). -/
def recordKept (s : State) : State := answerHeldCallNow { s with cu := applyHeldRaises { s.cu with write := none } }

/-! ## Releases (R168) -/

/-- The number a COMPLETION HEAD write releases: the difference modulo the ring size (R168). -/
def releasedBy (size head value : Nat) : Nat := (value + size - head) % size

/-- A COMPLETION HEAD write taken with a value in range (R168's table). -/
def releaseEntries (size value : Nat) (s : State) : State :=
  let n := releasedBy size s.cu.head value
  if n = 0 then
    if s.cu.occupancy = size then { s with cu := { s.cu with occupancy := 0 } } else s
  else if n ≤ s.cu.occupancy then { s with cu := { s.cu with occupancy := s.cu.occupancy - n, head := value } }
  else registerError .overRelease s

/-- The ring indices are written when the engine is RUNNING, STOPPING, STOPPED or FAULTED (R137, R168, R182). -/
def ringsSet (e : EngineState) : Bool :=
  match e with
  | .running | .stopping | .stopped | .faulted => true
  | .off | .starting => false

/-- The effect of a COMPLETION HEAD write (R168, R183). -/
def completionHeadWritten (value : HostWord) (s : State) : State :=
  if !ringsSet s.hp.engine then registerError .ringsUnset s
  else if (configured s).completionSize ≤ value.toNat then registerError .completionHeadRange s
  else releaseEntries (configured s).completionSize value.toNat s

/-- COMPLETION_HEAD_WRITE. -/
def execCompletionHeadWrite (value : HostWord) (s : State) : Answer :=
  answer (!s.hp.powerOnReset) (completionHeadWritten value) s

/-! ## INTERRUPT (R174) -/

/-- INTERRUPT_ACKNOWLEDGE: each pending cause named in the acknowledge field is cleared. -/
def execInterruptAcknowledge (word : HostWord) (s : State) : Answer :=
  answer (!s.hp.powerOnReset)
    (fun x => { x with cu := { x.cu with pendingCauses := x.cu.pendingCauses.without (causesAt word 0) } }) s

/-- INTERRUPT_ENABLE: the enable set becomes the enable field. -/
def execInterruptEnable (word : HostWord) (s : State) : Answer :=
  answer (!s.hp.powerOnReset) (fun x => { x with cu := { x.cu with enabled := causesAt word 8 } }) s

end Sys2Proof.Machine
end

