-- ==== Sys2Proof/Machine/HostPort.lean ====
section
/-! DEFINITION. The host port (spec 09): the engine, its commands, the register writes, the two resets, and the ends of the
master accesses. -/

namespace Sys2Proof.Machine

/-! ## FAULTED (R191, R197) -/

/-- What its owner does about an access dropped at the entry to FAULTED (R197). A dropped payload read leaves its request
where it stands. -/
def ownerOfDropped (x : Access) (s : State) : State :=
  if x.discarded then s
  else match x.kind with
    | .payload _ => s
    | .response p => responseLost p s
    | .report => pumpReports s.ru.reports s
    | .snapshot p => finishRequest p .hostFault snapshotSize 0 .useReserved s
    | .descriptor => { s with ru := { s.ru with reading := false } }
    | .requestRecord => { s with ri := { s.ri with reading := false } }
    | .recordBody | .recordPhase => recordKept s
    | .configuration => s

/-- The sweep and call timers stop (R135). -/
def stopIntervalTimers (s : State) : State := { s with sc := { s.sc with sweepTimer := none, callTimer := none } }

/-- The engine enters FAULTED: the fault code, the ENGINE cause, every access not begun dropped and its owner told, the
interval timers stopped, and the loop to DRAINING or QUIET (R191, R197, R135, R46). DESIGN CHOICE (log entry 30): neither R197 nor
R160 orders the owners of several dropped accesses; here they act in the order of the list, oldest access first, so that is the
order in which their HOST-FAULT records enter the holding queue. -/
def enterFaulted (code : FaultCode) (s : State) : State :=
  let dropped := s.hp.queue
  let s1 := setCause .engine { s with hp := { s.hp with engine := .faulted, faultCode := code, queue := [] } }
  drainLoop (stopIntervalTimers (dropped.foldl (fun x a => ownerOfDropped a x) s1))

/-! ## The engine (R185 to R190) -/

/-- The master read of the configuration block (R185). -/
def configurationRead (s : State) : Access := readAccess .configuration s.hp.configAddress 64

/-- START taken in OFF (R185). -/
def startFromOff (s : State) : State :=
  requestAccess (configurationRead s) { s with hp := { s.hp with engine := .starting, faultCode := .noFault, badField := 0 } }

/-- A PAUSED request whose fetch-delay expiry was held enters READY when the engine enters RUNNING (R91). -/
def releaseHeldFetch (p : PoolIx) (s : State) : State :=
  modEntry p (fun e => if e.fetchTimer = .expired then { e with phase := .ready, fetchTimer := .stopped } else e) s

/-- What the entry to RUNNING does for the head of station list `a`: a held deadline expiry is acted on, and a payload read
not yet begun begins (R93, R129, R75, R148). -/
def resumeHead (s : State) (a : Addr) : State :=
  let s1 := if headTimer s a = .expired then actOnExpiry a s else s
  match headEntry s1 (.station a) with
  | some (p, _) => startPayload p s1
  | none => s1

/-- What the entry to RUNNING does for the head of the control list (R75, R148). -/
def resumeControl (s : State) : State :=
  match headEntry s .control with
  | some (p, _) => startPayload p s
  | none => s

/-- START taken in STOPPED: RUNNING without reading the block; the loop to PROBING; held expiries, payload reads, the held
record and the ring reads go on; the sweep timer starts (R190, R135, R26, R91, R101, R138). -/
def startFromStopped (s : State) : State :=
  let s1 := startSweepTimer { s with hp := { s.hp with engine := .running } }
  let s2 := (List.finRange 64).foldl (fun x p => releaseHeldFetch p x) s1
  let s3 := allStations.foldl resumeHead s2
  startProbing (testDescriptorRead (testRecordRead (resumeControl s3)))

/-- START (R179, R185, R190). -/
def execStart (s : State) : Answer :=
  match s.hp.engine with
  | .off => answerWithBus (!s.hp.powerOnReset) startFromOff s
  | .stopped => answerWithBus (!s.hp.powerOnReset) startFromStopped s
  | .starting | .running | .stopping | .faulted => answer (!s.hp.powerOnReset) (registerError .wrongCommand) s

/-- STOP taken in RUNNING (R189, R135, R46): the engine enters STOPPING, and STOPPED at once when the loop goes to QUIET. -/
def stopEngine (s : State) : State :=
  drainLoop (stopIntervalTimers { s with hp := { s.hp with engine := .stopping } })

/-- STOP (R179, R189). -/
def execStop (s : State) : Answer :=
  match s.hp.engine with
  | .running => answerWithBus (!s.hp.powerOnReset) stopEngine s
  | .off | .starting | .stopping | .stopped | .faulted => answer (!s.hp.powerOnReset) (registerError .wrongCommand) s

/-- The passage from STARTING to RUNNING: every block takes its configuration and its ring indices, the rate takes effect, the
sweep timer starts, and the loop goes to PROBING (R188, R2, R26, R124, R136, R164, R182). -/
def passToRunning (c : Configuration) (s : State) : State :=
  let s1 := { s with
    hp := { s.hp with engine := .running, config := some c, rate := c.rateCode, bufferTail := 0 }
    ri := { s.ri with head := 0, tail := 0 }
    ru := { s.ru with head := 0 }
    cu := { s.cu with tail := 0, phase := true, occupancy := 0, head := 0 } }
  startProbing (startSweepTimer s1)

/-- A failed start: the engine returns to OFF with a fault code and field, and the ENGINE cause becomes pending (R187). -/
def startFailed (code : FaultCode) (field : Nat) (s : State) : State :=
  setCause .engine { s with hp := { s.hp with engine := .off, faultCode := code, badField := field } }

/-- The configuration block is judged (R186, R187, R188). -/
def configurationDelivered (octets : List Octet) (s : State) : State :=
  let c := configurationOf octets
  match badConfigurationField c with
  | some field => startFailed .configRange field s
  | none => passToRunning c s

/-! ## Resets (R192, R193, R207) -/

/-- The access on the bus at a controller reset runs on, and its result is discarded (R198). -/
def leftOver (b : BusAccess) : BusAccess := { b with access := { b.access with discarded := true } }

/-- A controller reset: every block at its reset values, but CONFIG ADDRESS; the access on the bus is left over, and an
element being sent is cut short with ABORT (R192, R198, R16). DESIGN CHOICE (log entry 23): R16 has ABORT take the place of the
element's next symbol; where the reset falls in the octet time of the element's last symbol, so that no next symbol is left, the
element still counts as being sent, and ABORT follows. -/
def controllerReset (s : State) : State :=
  { State.reset with
    hp := { State.reset.hp with configAddress := s.hp.configAddress, bus := s.hp.bus.map leftOver }
    tx := { State.reset.tx with line := s.tx.line, abortNext := s.tx.sending.isSome || s.tx.abortNext }
    clock := s.clock
    lineIn := s.lineIn
    pinsIn := s.pinsIn
    choices := s.choices
    pending := s.pending }

/-- RESET (R179, R192): taken in every engine state. -/
def execReset (s : State) : Answer := answer (!s.hp.powerOnReset) controllerReset s

/-- The levels of the pins once power-on reset is applied: as they stand where one of them holds the part in it already, and
otherwise RESET# is asserted (R193, R207). -/
def assertReset (p : ResetPins) : ResetPins := if p.released then { p with resetHigh := false } else p

/-- Power-on reset: the state of a controller reset, CONFIG ADDRESS 0, no bus cycle, LOOP-OUT at the quiet level (R193, R207). It
lasts while the pins hold the part in it: its 1 ms begins in the octet time in which both let go (`takePins`). -/
def powerOnReset (s : State) : State :=
  { State.reset with
    hp := { State.reset.hp with pins := assertReset s.hp.pins }
    tx := { State.reset.tx with line := .quiet }
    clock := s.clock
    lineIn := s.lineIn
    pinsIn := s.pinsIn
    choices := s.choices
    pending := s.pending }

/-- POWER_ON_RESET. -/
def execPowerOnReset (s : State) : Answer := answer true powerOnReset s

/-- The end of power-on reset: the register window answers, and the transmitter begins to send FILL (R193, R207, R17). -/
def powerOnResetEnds (s : State) : State :=
  { s with hp := { s.hp with resetHold := none }, tx := { s.tx with line := .symbol (.control .fill) } }

/-- The 1 ms of REFCLK since RESET# went high and VDD entered its range has passed, and both are so still (R207). -/
def resetIsOver (s : State) : Bool := s.hp.pins.released && reached s s.hp.resetHold

/-- POWER_ON_RESET_END (R207). -/
def execPowerOnResetEnd (s : State) : Answer := answer (resetIsOver s) powerOnResetEnds s

/-! ## Register writes (R178 to R183) -/

/-- BAD_COMMAND (R179, R200): a word that is no command code, by `controlCommand`. -/
def execBadCommand (word : HostWord) (s : State) : Answer :=
  answer (!s.hp.powerOnReset && decide (controlCommand word = .badCommand word)) (registerError .badCommand) s

/-- The effect of a CONFIG ADDRESS write (R181). DESIGN CHOICE (log entry 33): a value that is no multiple of 8, written in
STARTING, raises CONFIG-BUSY; R181 and R183 rank neither error above the other. -/
def configAddressWritten (value : HostWord) (s : State) : State :=
  if s.hp.engine = .starting then registerError .configBusy s
  else if value.toNat % 8 = 0 then { s with hp := { s.hp with configAddress := value } }
  else registerError .configAlign s

/-- CONFIG_ADDRESS_WRITE. -/
def execConfigAddressWrite (value : HostWord) (s : State) : Answer :=
  answer (!s.hp.powerOnReset) (configAddressWritten value) s

/-- The effect of a REQUEST TAIL write (R137, R138). -/
def requestTailWritten (value : HostWord) (s : State) : State :=
  if !ringsSet s.hp.engine then registerError .ringsUnset s
  else if (configured s).requestSize ≤ value.toNat then registerError .requestTailRange s
  else testRecordRead { s with ri := { s.ri with tail := value.toNat } }

/-- REQUEST_TAIL_WRITE. -/
def execRequestTailWrite (value : HostWord) (s : State) : Answer :=
  answerWithBus (!s.hp.powerOnReset) (requestTailWritten value) s

/-- The effect of a BUFFER TAIL write (R182, R101). -/
def bufferTailWritten (value : HostWord) (s : State) : State :=
  if !ringsSet s.hp.engine then registerError .ringsUnset s
  else if (configured s).bufferSize ≤ value.toNat then registerError .bufferTailRange s
  else testDescriptorRead { s with hp := { s.hp with bufferTail := value.toNat } }

/-- BUFFER_TAIL_WRITE. -/
def execBufferTailWrite (value : HostWord) (s : State) : Answer :=
  answerWithBus (!s.hp.powerOnReset) (bufferTailWritten value) s

/-- REGISTER_WRITE: fewer than 32 bits to any register is PARTIAL-WRITE (R178); a whole word to STATUS or REQUEST HEAD is
READ-ONLY (R183). A whole word to another register is that register's own command. DESIGN CHOICE (log entry 33): PARTIAL-WRITE
stands ahead of READ-ONLY, and of every other error that the register, the engine state or the value would raise. -/
def execRegisterWrite (reg : Register) (bits : Nat) (s : State) : Answer :=
  if bits < 32 then answer (!s.hp.powerOnReset && decide (1 ≤ bits)) (registerError .partialWrite) s
  else answer (!s.hp.powerOnReset && decide (bits = 32) && (reg == .status || reg == .requestHead)) (registerError .readOnly) s

/-! ## The ends of master accesses (R196) -/

/-- The access on the bus when it is of a kind (R195). -/
def onBus (s : State) (isKind : AccessKind → Bool) : Option Access :=
  match s.hp.bus with
  | some b => if isKind b.access.kind then some b.access else none
  | none => none

/-- The access on the bus, of a kind, ends: the bus is freed, its owner acts unless the result is discarded, and the next
access is begun; with no such access on the bus, nothing ends (R195, R196, R198). -/
def accessEnds (isKind : AccessKind → Bool) (owner : AccessKind → State → State) (s : State) : Answer :=
  match onBus s isKind with
  | none => .next s
  | some x => answerWithBus true (fun y => if x.discarded then freeBus y else owner x.kind (freeBus y)) s

/-- As `accessEnds`, for a read that delivers exactly the octets asked for (R196). -/
def readEnds (isKind : AccessKind → Bool) (octets : List Octet) (owner : AccessKind → State → State) (s : State) : Answer :=
  match onBus s isKind with
  | none => .next s
  | some x =>
    answerWithBus (decide (octets.length = x.length))
      (fun y => if x.discarded then freeBus y else owner x.kind (freeBus y)) s

/-- A payload read, of any request. -/
def isPayload : AccessKind → Bool
  | .payload _ => true
  | .configuration | .requestRecord | .descriptor | .response _ | .report | .snapshot _ | .recordBody | .recordPhase => false

/-- A response write, of any request. -/
def isResponse : AccessKind → Bool
  | .response _ => true
  | .configuration | .requestRecord | .descriptor | .payload _ | .report | .snapshot _ | .recordBody | .recordPhase => false

/-- A snapshot write, of any request. -/
def isSnapshot : AccessKind → Bool
  | .snapshot _ => true
  | .configuration | .requestRecord | .descriptor | .payload _ | .response _ | .report | .recordBody | .recordPhase => false

/-- Either part of a record write. -/
def isRecordWrite (k : AccessKind) : Bool := k == .recordBody || k == .recordPhase

/-- What an owner does with the pool entry its access serves. -/
def forEntry (f : PoolIx → State → State) (k : AccessKind) (s : State) : State :=
  match k.servedEntry with
  | some p => f p s
  | none => s

/-- The consequence of a fault by the kind of access (R196's table). DESIGN CHOICE (log entry 30): a record write that faulted has
ended (R162) before the engine enters FAULTED, so the raises it held, and the record of a CALL-NOW behind them, enter the holding
queue, and the next request becomes head, ahead of what FAULTED does for the dropped accesses (R160, R167, R197). -/
def accessFaulted (k : AccessKind) (s : State) : State :=
  match k with
  | .configuration => if s.hp.engine = .starting then startFailed .configRead 0 s else s
  | .requestRecord => enterFaulted .requestRead { s with ri := { s.ri with reading := false } }
  | .descriptor => enterFaulted .bufferRead { s with ru := { s.ru with reading := false } }
  | .recordBody | .recordPhase => enterFaulted .completionWrite (recordKept s)
  | .payload p => payloadFaulted p s
  | .response p => responseLost p s
  | .report => reportWritten true s
  | .snapshot p => finishRequest p .hostFault snapshotSize 0 .useReserved s

/-- CONFIGURATION_READ_COMPLETE (R186 to R188). -/
def execConfigurationReadComplete (octets : List Octet) (s : State) : Answer :=
  readEnds (fun k => k == .configuration) octets
    (fun _ y => if y.hp.engine = .starting then configurationDelivered octets y else y) s

/-- CONFIGURATION_READ_FAULT (R187). -/
def execConfigurationReadFault (s : State) : Answer := accessEnds (fun k => k == .configuration) accessFaulted s

/-- REQUEST_RECORD_READ_COMPLETE (R138, R141). -/
def execRequestRecordReadComplete (octets : List Octet) (s : State) : Answer :=
  readEnds (fun k => k == .requestRecord) octets (fun _ => recordDelivered octets) s

/-- REQUEST_RECORD_READ_FAULT (R139, R191). -/
def execRequestRecordReadFault (s : State) : Answer := accessEnds (fun k => k == .requestRecord) accessFaulted s

/-- DESCRIPTOR_READ_COMPLETE (R101, R102). -/
def execDescriptorReadComplete (octets : List Octet) (s : State) : Answer :=
  readEnds (fun k => k == .descriptor) octets (fun _ => descriptorDelivered octets) s

/-- DESCRIPTOR_READ_FAULT (R102, R191). -/
def execDescriptorReadFault (s : State) : Answer := accessEnds (fun k => k == .descriptor) accessFaulted s

/-- PAYLOAD_READ_COMPLETE (R75, R76). -/
def execPayloadReadComplete (octets : List Octet) (s : State) : Answer :=
  readEnds isPayload octets (forEntry (fun p => payloadDelivered p octets)) s

/-- PAYLOAD_READ_FAULT (R76). -/
def execPayloadReadFault (s : State) : Answer := accessEnds isPayload accessFaulted s

/-- RESPONSE_WRITE_COMPLETE (R85). -/
def execResponseWriteComplete (s : State) : Answer := accessEnds isResponse (forEntry responseWritten) s

/-- RESPONSE_WRITE_FAULT (R86). -/
def execResponseWriteFault (s : State) : Answer := accessEnds isResponse accessFaulted s

/-- REPORT_WRITE_COMPLETE (R111). -/
def execReportWriteComplete (s : State) : Answer := accessEnds (fun k => k == .report) (fun _ => reportWritten false) s

/-- REPORT_WRITE_FAULT (R112). -/
def execReportWriteFault (s : State) : Answer := accessEnds (fun k => k == .report) accessFaulted s

/-- SNAPSHOT_WRITE_COMPLETE (R71). -/
def execSnapshotWriteComplete (s : State) : Answer :=
  accessEnds isSnapshot (forEntry (fun p => finishRequest p .ok snapshotSize 0 .useReserved)) s

/-- SNAPSHOT_WRITE_FAULT (R71). -/
def execSnapshotWriteFault (s : State) : Answer := accessEnds isSnapshot accessFaulted s

/-- The body of a record write has been accepted: the phase octet write follows it directly (R166, R195); where no access may
begin any more, it is not made and the record stays in the queue (R167). -/
def bodyWritten (s : State) : State :=
  match s.cu.queue, s.cu.write with
  | r :: _, some .body => if mayBeginAccess s.hp.engine then beginPhaseWrite r s else recordKept s
  | _, _ => s

/-- RECORD_WRITE_FIRST_PART_COMPLETE (R166). -/
def execRecordWriteFirstPartComplete (s : State) : Answer := accessEnds (fun k => k == .recordBody) (fun _ => bodyWritten) s

/-- The phase octet has been accepted: the record is posted (R166). -/
def phaseWritten (s : State) : State := if s.cu.write = some .phase then recordPosted s else s

/-- RECORD_WRITE_SECOND_PART_COMPLETE (R166). -/
def execRecordWriteSecondPartComplete (s : State) : Answer := accessEnds (fun k => k == .recordPhase) (fun _ => phaseWritten) s

/-- RECORD_WRITE_FAULT (R167, R191). -/
def execRecordWriteFault (s : State) : Answer := accessEnds isRecordWrite accessFaulted s

/-- ACCESS_TIMEOUT: the access on the bus is ended 2 ms after it was begun, and faults (R196). -/
def execAccessTimeout (s : State) : Answer :=
  match s.hp.bus with
  | none => .next s
  | some b =>
    answerWithBus (reached s (some (b.begunAt + busTimeoutCycles)))
      (fun x => if b.access.discarded then freeBus x else accessFaulted b.access.kind (freeBus x)) s

end Sys2Proof.Machine
end

