-- ==== Sys2Proof/Machine/Dispatch.lean ====
section
/-! DEFINITION. The meaning of each command: one arm per row of spec/opcode_table.json. -/

namespace Sys2Proof.Machine

def exec (i : Instr) (s : State) : Host.Outcome State Fault Refusal :=
  match i with
  | .start => Sys2Proof.Machine.execStart s
  | .stop => Sys2Proof.Machine.execStop s
  | .reset => Sys2Proof.Machine.execReset s
  | .badCommand word => Sys2Proof.Machine.execBadCommand word s
  | .configAddressWrite value => Sys2Proof.Machine.execConfigAddressWrite value s
  | .requestTailWrite value => Sys2Proof.Machine.execRequestTailWrite value s
  | .bufferTailWrite value => Sys2Proof.Machine.execBufferTailWrite value s
  | .completionHeadWrite value => Sys2Proof.Machine.execCompletionHeadWrite value s
  | .interruptAcknowledge word => Sys2Proof.Machine.execInterruptAcknowledge word s
  | .interruptEnable word => Sys2Proof.Machine.execInterruptEnable word s
  | .registerWrite reg bits => Sys2Proof.Machine.execRegisterWrite reg bits s
  | .powerOnReset => Sys2Proof.Machine.execPowerOnReset s
  | .powerOnResetEnd => Sys2Proof.Machine.execPowerOnResetEnd s
  | .configurationReadComplete octets => Sys2Proof.Machine.execConfigurationReadComplete octets s
  | .configurationReadFault => Sys2Proof.Machine.execConfigurationReadFault s
  | .requestRecordReadComplete octets => Sys2Proof.Machine.execRequestRecordReadComplete octets s
  | .requestRecordReadFault => Sys2Proof.Machine.execRequestRecordReadFault s
  | .placement named => Sys2Proof.Machine.execPlacement named s
  | .refusal => Sys2Proof.Machine.execRefusal s
  | .descriptorReadComplete octets => Sys2Proof.Machine.execDescriptorReadComplete octets s
  | .descriptorReadFault => Sys2Proof.Machine.execDescriptorReadFault s
  | .payloadReadComplete octets => Sys2Proof.Machine.execPayloadReadComplete octets s
  | .payloadReadFault => Sys2Proof.Machine.execPayloadReadFault s
  | .responseWriteComplete => Sys2Proof.Machine.execResponseWriteComplete s
  | .responseWriteFault => Sys2Proof.Machine.execResponseWriteFault s
  | .reportWriteComplete => Sys2Proof.Machine.execReportWriteComplete s
  | .reportWriteFault => Sys2Proof.Machine.execReportWriteFault s
  | .snapshotWriteComplete => Sys2Proof.Machine.execSnapshotWriteComplete s
  | .snapshotWriteFault => Sys2Proof.Machine.execSnapshotWriteFault s
  | .post => Sys2Proof.Machine.execPost s
  | .recordWriteFirstPartComplete => Sys2Proof.Machine.execRecordWriteFirstPartComplete s
  | .recordWriteSecondPartComplete => Sys2Proof.Machine.execRecordWriteSecondPartComplete s
  | .recordWriteFault => Sys2Proof.Machine.execRecordWriteFault s
  | .accessTimeout => Sys2Proof.Machine.execAccessTimeout s
  | .elementBegin => Sys2Proof.Machine.execElementBegin s
  | .sendEnd t => Sys2Proof.Machine.execSendEnd t s
  | .headFrameReturn kind address toggle payload outcome copies span => Sys2Proof.Machine.execHeadFrameReturn kind address toggle payload outcome copies s span
  | .responseReturn source toggle payload span => Sys2Proof.Machine.execResponseReturn source toggle payload s span
  | .turnReturn span => Sys2Proof.Machine.execTurnReturn s span
  | .reportReturn source toggle payload span => Sys2Proof.Machine.execReportReturn source toggle payload s span
  | .damagedFrame span => Sys2Proof.Machine.execDamagedFrame s span
  | .sweepMarkerReturn budget acks span => Sys2Proof.Machine.execSweepMarkerReturn budget acks s span
  | .callMarkerReturn entries span => Sys2Proof.Machine.execCallMarkerReturn entries s span
  | .probeReturn echo returnStart returnEnd => Sys2Proof.Machine.execProbeReturn echo returnStart returnEnd s
  | .damagedMarker kind span => Sys2Proof.Machine.execDamagedMarker kind s span
  | .returnLimitExpiry => Sys2Proof.Machine.execReturnLimitExpiry s
  | .probeTimerExpiry => Sys2Proof.Machine.execProbeTimerExpiry s
  | .settleTimerExpiry => Sys2Proof.Machine.execSettleTimerExpiry s
  | .fetchDelayExpiry p => Sys2Proof.Machine.execFetchDelayExpiry p s
  | .headDeadlineExpiry a => Sys2Proof.Machine.execHeadDeadlineExpiry a s
  | .sweepTimerExpiry => Sys2Proof.Machine.execSweepTimerExpiry s
  | .callTimerExpiry => Sys2Proof.Machine.execCallTimerExpiry s
  | .dueCall => Sys2Proof.Machine.execDueCall s
  | .dueSweep => Sys2Proof.Machine.execDueSweep s
  | .groupPost => Sys2Proof.Machine.execGroupPost s
  | .rest => Sys2Proof.Machine.execRest s
  | .stationGrant => Sys2Proof.Machine.execStationGrant s
  | .resolutionWithoutLoopTraffic l => Sys2Proof.Machine.execResolution l s
  | .admission a => Sys2Proof.Machine.execAdmit a s
  | .expel a => Sys2Proof.Machine.execExpel a s
  | .setStation a => Sys2Proof.Machine.execSetStation a s
  | .flush a => Sys2Proof.Machine.execFlush a s
  | .query => Sys2Proof.Machine.execQuery s

end Sys2Proof.Machine
end

