-- ==== Sys2Proof/Machine/Tick.lean ====
section
/-! DEFINITION. One octet time (R1): what happens on an empty queue. Time passes, the levels of the pins are taken, the
transmitter sends its next symbol, the receiver takes the next of LOOP-IN, and the events that fall in this octet time are put in the queue as the commands of the
table that name them (log entry 3). Time passes here alone (log entry 6). -/

namespace Sys2Proof.Machine

/-- One octet time has passed at the current rate (R2). -/
def passOctet (s : State) : State :=
  { s with clock := { cycles := s.clock.cycles + octetCycles s.hp.rate, octets := s.clock.octets + 1 } }

/-- The 1 ms of power-on reset when the pins have the levels `p` in REFCLK cycle `now`: it does not run while they hold the part in
power-on reset, begins when they let go, and otherwise runs on (R207). -/
def resetHoldAfter (now : Nat) (hp : HostPort) (p : ResetPins) : Option Nat :=
  if !p.released then none else if hp.pins.released then hp.resetHold else some (now + cyclesPerMs)

/-- The levels of RESET# and VDD in this octet time; where nothing is still to arrive they are as they were (R207). DESIGN CHOICE
(log entry 25): they are taken once an octet time. -/
def takePins (s : State) : State :=
  let p := s.pinsIn.head?.getD s.hp.pins
  { s with pinsIn := s.pinsIn.tail, hp := { s.hp with pins := p, resetHold := resetHoldAfter s.clock.cycles s.hp p } }

/-- What LOOP-OUT carries in an octet time in which no symbol of an element begins or goes on (R1). -/
def idleSymbol (s : State) : State := { s with tx := { s.tx with line := .symbol (.control .fill) } }

/-- The transmitter sends one symbol: the quiet level in power-on reset (R207), ABORT after a reset that cut an element short
(R16), the next symbol of the element being sent, the first symbol of the oldest waiting one when none is being sent (R15), or
FILL (R1). -/
def sendSymbol (s : State) : State :=
  if s.hp.powerOnReset then { s with tx := { s.tx with line := .quiet } }
  else if s.tx.abortNext then { s with tx := { s.tx with line := .symbol (.control .abort), abortNext := false } }
  else match s.tx.sending, s.tx.waiting with
    | some { id := id, left := x :: rest }, _ =>
      { s with tx := { s.tx with line := .symbol x, sending := some { id := id, left := rest } } }
    | none, { id := id, run := x :: rest } :: _ =>
      { s with tx := { s.tx with line := .symbol x, sending := some { id := id, left := rest } } }
    | _, _ => idleSymbol s

/-- The receiver takes one input of LOOP-IN; while it is held in SEEK it discards it (R18, R24). Where nothing is still to arrive,
no signal can be recovered in this octet time, which is a coding violation (spec 01, section 1.1). -/
def takeInput (s : State) : State × List Delivery :=
  let i := s.lineIn.head?.getD .violation
  let s1 := { s with lineIn := s.lineIn.tail }
  if receiverDelivers s then
    let r := receive s.clock.octets s.rx i
    ({ s1 with rx := r.1 }, r.2)
  else ({ s1 with rx := .seek }, [])

/-- A command, when its event has fallen. -/
def eventIf (c : Bool) (i : Instr) : List Instr := if c then [i] else []

/-- The last symbol of the element being sent has left (R34). -/
def sentToItsEnd (s : State) : Bool := (s.tx.sending.map (fun x => x.left.isEmpty)).getD false

/-- The transmitter's events: the waiting element's first symbol has left in this octet time (R15), and the last symbol of the
element being sent (R34). -/
def transmitterEvents (s : State) : List Instr :=
  eventIf (waitingBegun s) .elementBegin ++ eventIf (sentToItsEnd s) (.sendEnd s.clock.octets)

/-- The fetch-delay timer of a pool entry has reached its instant (R129). -/
def fetchReached (s : State) (p : PoolIx) : Bool := ((entry s p).map (fun e => timerReached s e.fetchTimer)).getD false

/-- The octet-time expiries: the end of the last octet time has passed, so they come before what this octet time brings (R27,
R28, R35). -/
def octetEvents (s : State) : List Instr :=
  eventIf (octetPassed s (returnLimit s)) .returnLimitExpiry ++ eventIf (octetPassed s s.ls.probeTimer) .probeTimerExpiry

/-- The expiries counted on REFCLK that fall in this octet time (R44, R91, R93, R122, R124, R196, R207). -/
def timerEvents (s : State) : List Instr :=
  eventIf (reached s s.ls.settleTimer) .settleTimerExpiry
    ++ ((List.finRange 64).filter (fetchReached s)).map .fetchDelayExpiry
    ++ (allStations.filter (fun a => timerReached s (headTimer s a))).map .headDeadlineExpiry
    ++ eventIf (reached s s.sc.sweepTimer) .sweepTimerExpiry
    ++ eventIf (reached s s.sc.callTimer) .callTimerExpiry
    ++ eventIf (reached s (s.hp.bus.map (fun b => b.begunAt + busTimeoutCycles))) .accessTimeout
    ++ eventIf (resetIsOver s) .powerOnResetEnd

/-- A pin that let go of the part before asserts power-on reset in this octet time (R193, R207). -/
def pinEvents (before after : ResetPins) : List Instr := eventIf (before.released && !after.released) .powerOnReset

/-- One octet time of the LH32. An assertion of power-on reset comes ahead of all that falls in it. -/
def tick (s : State) : State :=
  let s1 := takeInput (sendSymbol (takePins (passOctet s)))
  { s1.1 with pending := pinEvents s.hp.pins s1.1.hp.pins ++ octetEvents s1.1 ++ transmitterEvents s1.1 ++ s1.2.map commandOf
                ++ timerEvents s1.1 }

end Sys2Proof.Machine
end

