-- ==== Sys2Proof/WellFormed.lean ====
section
/-! DEFINITION. Which commands the part can receive: the ranges the rules set for what a command carries. -/

namespace Sys2Proof

/-- The command can occur: its operands lie in the ranges the rules set for them. An intact frame carries at most 240
payload octets (R3, R20), an intact trailer a copy count of at most 32 (R21), an intact marker the counts of R22, a read
exactly its octets (R196), a return start is not later than its return end (R24), and a BAD_COMMAND or REGISTER_WRITE is the write its row names (R179, R178, R183). -/
def Instr.wellFormed : Instr → Bool
  | .badCommand word => word ≠ 1 ∧ word ≠ 2 ∧ word ≠ 3
  | .registerWrite reg bits => 1 ≤ bits ∧ (bits < 32 ∨ (bits = 32 ∧ (reg = .status ∨ reg = .requestHead)))
  | .configurationReadComplete octets => octets.length = 64
  | .requestRecordReadComplete octets => octets.length = 32
  | .descriptorReadComplete octets => octets.length = 16
  | .payloadReadComplete octets => 1 ≤ octets.length ∧ octets.length ≤ 240
  | .headFrameReturn _ _ _ payload _ copies span => payload.length ≤ 240 ∧ copies ≤ 32 ∧ span.start ≤ span.stop
  | .responseReturn _ _ payload span => payload.length ≤ 240 ∧ span.start ≤ span.stop
  | .reportReturn _ _ payload span => payload.length ≤ 240 ∧ span.start ≤ span.stop
  | .sweepMarkerReturn budget acks span => budget ≤ 8 ∧ acks.length ≤ 32 ∧ span.start ≤ span.stop
  | .callMarkerReturn entries span => entries.length ≤ 32 ∧ span.start ≤ span.stop
  | .probeReturn _ returnStart returnEnd => returnStart ≤ returnEnd
  | .turnReturn span | .damagedFrame span | .damagedMarker _ span => span.start ≤ span.stop
  | .start | .stop | .reset => true
  | .configAddressWrite _ | .requestTailWrite _ | .bufferTailWrite _ | .completionHeadWrite _ => true
  | .interruptAcknowledge _ | .interruptEnable _ => true
  | .powerOnReset | .powerOnResetEnd => true
  | .configurationReadFault | .requestRecordReadFault | .descriptorReadFault | .payloadReadFault => true
  | .placement _ | .refusal => true
  | .responseWriteComplete | .responseWriteFault | .reportWriteComplete | .reportWriteFault => true
  | .snapshotWriteComplete | .snapshotWriteFault => true
  | .post | .recordWriteFirstPartComplete | .recordWriteSecondPartComplete | .recordWriteFault => true
  | .accessTimeout | .elementBegin | .sendEnd _ => true
  | .returnLimitExpiry | .probeTimerExpiry | .settleTimerExpiry | .fetchDelayExpiry _ => true
  | .headDeadlineExpiry _ | .sweepTimerExpiry | .callTimerExpiry => true
  | .dueCall | .dueSweep | .groupPost | .rest | .stationGrant => true
  | .resolutionWithoutLoopTraffic _ => true
  | .admission _ | .expel _ | .setStation _ | .flush _ | .query => true

end Sys2Proof
end

