-- ==== Sys2Proof/Safety.lean ====
section
/-! DEFINITION. What a safe run of the LH32 keeps: the invariants of the manual, and the words the statements use for what a
command changes and what it leaves alone. -/

namespace Sys2Proof.Machine

/-! ## Invariants -/

/-- The loop states an engine state can hold (spec 02, section 2.1). -/
def loopAllowed (e : EngineState) (l : LoopState) : Bool :=
  match e with
  | .off | .starting | .stopped => l == .quiet
  | .running => l == .probing || l == .calling || l == .opened || l == .broken
  | .stopping | .faulted => l == .draining || l == .quiet

/-- The loop state follows the engine state (spec 02, section 2.1). -/
def EngineLoopOk (s : State) : Prop := loopAllowed s.hp.engine s.ls.state = true

/-- The configuration store holds validated values or nothing (R184, R186). -/
def ConfigOk (s : State) : Prop := ∀ c, s.hp.config = some c → badConfigurationField c = none

/-- A closing element stands only at the newest place of the list (R32). -/
def closingLast (es : List TransitEntry) : Bool := es.dropLast.all (fun e => !isClosing e)

/-- What the transit list holds in each loop state (spec 02, section 2.1; R32). -/
def TransitOk (s : State) : Prop :=
  match s.ls.state with
  | .quiet | .broken => s.ls.transit = []
  | .probing => s.ls.transit.map (fun e => e.element) = [.probe]
  | .calling => s.ls.transit.map (fun e => e.element) = [.call]
  | .opened => s.ls.transit.length ≤ (configured s).inFlightLimit ∧ closingLast s.ls.transit = true
  | .draining => s.ls.transit ≠ [] ∧ s.ls.transit.length ≤ 4 ∧ closingLast s.ls.transit = true

/-- The loop invariant: engine and loop states fit, the configuration is valid, the transit list is what the loop state allows. -/
def LoopInv (s : State) : Prop := EngineLoopOk s ∧ ConfigOk s ∧ TransitOk s

/-- The access is the configuration read of a START, and its result is wanted (R185). -/
def isWantedConfiguration (x : Access) : Bool := x.kind == .configuration && !x.discarded

/-- The bus is free or carries an access left over from a reset (R198). -/
def busLeftOver (s : State) : Bool := (s.hp.bus.map (fun b => b.access.discarded)).getD true

/-- In OFF nothing is asked of the sequencer, and in STARTING the configuration read alone (R185, R197, R198). -/
def AccessOk (s : State) : Prop :=
  match s.hp.engine with
  | .off => busLeftOver s = true ∧ s.hp.queue = []
  | .starting =>
    (busLeftOver s = true ∧ ∃ x, s.hp.queue = [x] ∧ isWantedConfiguration x = true) ∨
    (s.hp.queue = [] ∧ ∃ b, s.hp.bus = some b ∧ isWantedConfiguration b.access = true)
  | .running | .stopping | .stopped | .faulted => True

/-- Every ring index lies in its ring, and the occupancy has room for the record being written (R100, R136, R164, R182). -/
def RingsOk (s : State) : Prop :=
  ringsSet s.hp.engine = true → ∃ c, s.hp.config = some c ∧
    s.ri.head < c.requestSize ∧ s.ri.tail < c.requestSize ∧
    s.ru.head < c.bufferSize ∧ s.hp.bufferTail < c.bufferSize ∧
    s.cu.tail < c.completionSize ∧ s.cu.head < c.completionSize ∧
    s.cu.occupancy ≤ c.completionSize ∧ (s.cu.write.isSome = true → s.cu.occupancy < c.completionSize)

/-- The ring invariant. -/
def RingInv (s : State) : Prop := EngineLoopOk s ∧ ConfigOk s ∧ AccessOk s ∧ RingsOk s

/-- The pool and its lists agree: every list holds each request once, every listed entry is allocated to a request of that
list, and every allocated entry is listed (R144, R147). -/
def PoolOk (s : State) : Prop :=
  (∀ l, (listOf s l).Nodup) ∧
  (∀ l, ∀ p ∈ listOf s l, ∃ e, entry s p = some e ∧ listFor e.kind e.address = l) ∧
  (∀ p e, entry s p = some e → p ∈ listOf s (listFor e.kind e.address))

/-- The station table's ranges and the loop map (R25, R49, R59, R118): weights, failure counts, turn counts and the raw loop
delay in range, no address twice in the map, and each position the place of its address in the map. -/
def StationsOk (s : State) : Prop :=
  (∀ a, 1 ≤ (station s a).weight ∧ (station s a).weight ≤ 4) ∧
  (∀ a, (station s a).failures ≤ 15) ∧
  (∀ a, (station s a).position = s.st.loopMap.idxOf? a) ∧
  s.st.loopMap.Nodup ∧
  (∀ a : Addr, s.sc.turns[a] ≤ 4) ∧
  s.ls.rawDelay ≤ 65535

/-- At most one unposted notice of each kind (R158). -/
def NoticesOk (s : State) : Prop := ∀ k, (s.cu.queue.filter (isNoticeOf k)).length ≤ 1

/-- The general slots: those occupied and those reserved are at most 13 (R158). -/
def SlotsOk (s : State) : Prop := generalOccupied s.cu + s.cu.reserved ≤ 13

/-- The slots an element in transit still needs when no report of it is to come: one for the request it serves (R120, R105,
R122). -/
def slotUses (e : TransitEntry) : Nat :=
  match e.element with
  | .exch | .post | .group | .rest => 1
  | .sweep | .call => if e.demand then 1 else 0
  | .probe => 0

/-- The kinds of request an element serves through its pool entry (R77 to R79, R128). -/
def serves (e : TransitEntry) (q : PoolEntry) : Prop :=
  e.element = .exch ∧ q.kind = .exchange ∨ e.element = .post ∧ q.kind = .post ∨ e.element = .group ∧ q.kind = .groupPost ∨
  e.element = .rest ∧ q.kind = .expel ∧ q.takenUp = true

/-- Each element in transit serves a request of its own, which is IN-TRANSIT with no response of its own to be written yet (R33,
R74). -/
def TransitLinked (s : State) : Prop :=
  (s.ls.transit.filterMap (fun e => e.pool)).Nodup ∧
  ∀ e ∈ s.ls.transit, ∀ p, e.pool = some p → ∃ q, entry s p = some q ∧ q.phase = .inTransit ∧ q.response = none ∧ serves e q

/-- A request that was sent or taken up is the head of its list; what it waits for fits its kind and its phase, and its next frame
its kind (R65, R72, R74, R85, R91, R149). -/
def RequestsLinked (s : State) : Prop :=
  ∀ p q, entry s p = some q →
    (q.phase = .inTransit ∨ q.phase = .paused ∨ q.takenUp = true → (listOf s (listFor q.kind q.address)).head? = some p) ∧
    (q.takenUp = true → q.kind = .expel ∨ q.kind = .query) ∧
    (q.response ≠ none → q.kind = .exchange ∧ q.phase = .inTransit) ∧
    (q.fetchTimer ≠ .stopped → q.phase = .paused) ∧
    (q.kind = .query → q.phase ≠ .inTransit) ∧
    (q.kind = .post → q.nextFrame = some .post) ∧
    (q.kind = .exchange → q.nextFrame = some .data ∨ q.nextFrame = some .fetch)

/-- A request holds a reserved slot of its own: for its response write, or since its take-up, until its REST is sent (R67, R71,
R85). -/
def holdsSlot (s : State) (p : PoolIx) : Bool :=
  match entry s p with
  | some q => q.response.isSome || (q.takenUp && q.phase != .inTransit)
  | none => false

/-- How many reserved slots the work under way needs: those of the elements in transit, one for each accepted report, one for each
request that holds its own, and one for a SWEEP-NOW or CALL-NOW whose record is still to come (R110, R113, R123, R159). -/
def slotsNeeded (s : State) : Nat :=
  (s.ls.transit.map (fun e => e.slots)).sum + s.ru.reports.length + ((List.finRange 64).filter (holdsSlot s)).length +
    (if s.ru.decision.isSome then 1 else 0) + (if s.cu.callAnswer.isSome then 1 else 0)

/-- Every record that is still to come has its slot: each element carries those it may use, a sweep one for each report it can
still accept besides, and all that the work under way needs are reserved (R104, R110, R120, R159). -/
def ReservationsOk (s : State) : Prop :=
  (∀ e ∈ s.ls.transit, slotUses e ≤ e.slots) ∧
  (∀ w, s.ru.sweep = some w → w.accepted ≤ w.items ∧
    ∀ e ∈ s.ls.transit, e.element = .sweep → slotUses e + (w.budget - w.accepted) ≤ e.slots) ∧
  slotsNeeded s ≤ s.cu.reserved

/-- The bus does not stand free while an access waits that may begin (R195, R197). -/
def BusOk (s : State) : Prop := mayBeginAccess s.hp.engine = true → s.hp.bus = none → s.hp.queue = []

/-! ## What a command changes and leaves alone -/

/-- The accesses the sequencer answers for, oldest first: the one on the bus, then the list (R195). -/
def accesses (s : State) : List Access := (s.hp.bus.map (fun b => b.access)).toList ++ s.hp.queue

/-- A snapshot write whose result is wanted serves a QUERY that was taken up (R71, R132). -/
def SnapshotsOk (s : State) : Prop :=
  ∀ x ∈ accesses s, x.discarded = false → ∀ p, x.kind = .snapshot p →
    ∃ q, entry s p = some q ∧ q.kind = .query ∧ q.takenUp = true

/-- The slot invariant: the discipline of the general slots, and what stands behind each reservation (R158, R159). -/
def SlotInv (s : State) : Prop :=
  PoolOk s ∧ SlotsOk s ∧ ReservationsOk s ∧ TransitLinked s ∧ RequestsLinked s ∧ SnapshotsOk s

/-- The host port but its sequencer is as before. -/
def HostKept (s t : State) : Prop := t.hp = { s.hp with bus := t.hp.bus, queue := t.hp.queue }

/-- The passage of time, the inputs of the line and of the pins, and the waiting commands are as before. -/
def OutsideKept (s t : State) : Prop := t.clock = s.clock ∧ t.lineIn = s.lineIn ∧ t.pinsIn = s.pinsIn ∧ t.pending = s.pending

/-- The line is as before: transmitter and receiver. -/
def LineKept (s t : State) : Prop := t.tx = s.tx ∧ t.rx = s.rx

/-- The station table is as before but for the entry of station `a`. -/
def StationsKeptBut (a : Addr) (s t : State) : Prop :=
  t.st.loopMap = s.st.loopMap ∧ ∀ b, b ≠ a → station t b = station s b

/-- The pool is as before but for entry `p`. -/
def PoolKeptBut (p : PoolIx) (s t : State) : Prop :=
  (∀ l, listOf t l = listOf s l) ∧ ∀ q, q ≠ p → entry t q = entry s q

/-- The accesses not begun without those that serve entry `p` (R195). -/
def listWithout (p : PoolIx) (xs : List Access) : List Access := xs.filter (fun x => x.kind.servedEntry != some p)

/-- The accesses when the request of entry `p` is gone: the result of the one on the bus is discarded if it serves the entry, and
what was not begun of it has left the list (R76, R195). -/
def accessesWithout (p : PoolIx) (s : State) : List Access :=
  (s.hp.bus.map (fun b => discardedFor p b.access)).toList ++ listWithout p s.hp.queue

/-- A kind whose payload is read before it is sent (R75). -/
def readsPayload (k : RequestKind) : Prop := k = .exchange ∨ k = .post ∨ k = .groupPost

/-- A head request starts to get its payload, under an engine state: it carries no cancel mark, the engine is RUNNING, and its
read was not asked for before (R75). -/
def payloadStarts (engine : EngineState) (x : PoolEntry) : Prop :=
  engine = .running ∧ readsPayload x.kind ∧ x.phase = .queued ∧ x.cancelMark = false ∧ x.readStarted = false

/-- A head EXCHANGE, POST or GROUP-POST whose payload starts: with payload length 0 it is READY at once (R75). -/
def payloadStarted (x : PoolEntry) : PoolEntry :=
  { x with readStarted := true, phase := if x.payloadLength = 0 then .ready else x.phase }

/-- The read of its payload, which it needs when it has one (R75). -/
def payloadReadOf (q : PoolIx) (x : PoolEntry) : List Access :=
  if x.payloadLength = 0 then [] else
    [{ kind := .payload q, address := x.payloadAddress, length := x.payloadLength, data := [], discarded := false }]

/-- The head deadline timer of a request that becomes head in REFCLK cycle `now`: it runs for what remains of its deadline, and
expires at once when nothing remains (R150). -/
def headTimerAt (now : Nat) (x : PoolEntry) : Timer :=
  match x.deadline with
  | none => .stopped
  | some d => if x.placedAt + d * 16000 ≤ now then .expired else .running (x.placedAt + d * 16000)

/-- Request `x` of entry `q` has become head of list `l` between `s` and `t`, and `more` are the accesses asked for it: its
payload starts, or it waits as it stands, or, being of another kind, it is READY (R75, R148, R149); its head deadline timer is
armed (R150). That a payload of length 0 waits where a read may not begin, and that an expired deadline does not keep the payload
from starting, are the model's (log entries 29 and 16). -/
def BecomesHead (s t : State) (l : ListId) (q : PoolIx) (x : PoolEntry) (more : List Access) : Prop :=
  (payloadStarts s.hp.engine x → entry t q = some (payloadStarted x) ∧ more = payloadReadOf q x) ∧
  (readsPayload x.kind → ¬payloadStarts s.hp.engine x → entry t q = some x ∧ more = []) ∧
  (¬readsPayload x.kind → entry t q = some { x with phase := .ready } ∧ more = []) ∧
  (∀ a, l = .station a → headTimer t a = headTimerAt s.clock.cycles x)

/-- Request `e` of entry `p` is resolved by record `r`: the record stands at the tail of the holding queue, the entry is free,
the request has left its list, and nothing else of the pool changes but the request that becomes head of that list; accesses are
those of `before`, and behind them the new head's payload read, if it has one to make (R130, R144, R148 to R151). With no request
behind it, the list's head deadline timer stops. -/
def Resolves (s t : State) (before : List Access) (p : PoolIx) (e : PoolEntry) (r : CompletionRecord) : Prop :=
  t.cu = { s.cu with queue := s.cu.queue ++ [r], reserved := t.cu.reserved } ∧
  entry t p = none ∧
  listOf t (listFor e.kind e.address) = (listOf s (listFor e.kind e.address)).erase p ∧
  (∀ m, m ≠ listFor e.kind e.address → listOf t m = listOf s m) ∧
  (∀ q, q ≠ p → (listOf t (listFor e.kind e.address)).head? ≠ some q → entry t q = entry s q) ∧
  (∃ more : List Access, accesses t = before ++ more ∧
    (∀ q x, (listOf t (listFor e.kind e.address)).head? = some q → q ≠ p → entry s q = some x →
      BecomesHead s t (listFor e.kind e.address) q x more) ∧
    (listOf t (listFor e.kind e.address) = [] → more = [] ∧
      ∀ a, listFor e.kind e.address = .station a → headTimer t a = .stopped)) ∧
  HostKept s t ∧
  t.sc = { s.sc with headTimers := t.sc.headTimers } ∧
  (∀ a, ListId.station a ≠ listFor e.kind e.address → headTimer t a = headTimer s a) ∧
  t.ri = s.ri ∧ t.ru = s.ru ∧ LineKept s t ∧ OutsideKept s t

/-- The DONE record of an EXCHANGE or POST: no count and no last field (R99; spec 10, section 10.6). -/
def workRecord (e : PoolEntry) (status : Status) (attempts waits length : Nat) (state : StationState)
    (last : Option LastOutcome) : CompletionRecord :=
  { kind := .done, status := status, address := e.address, attempts := attempts, waits := waits, tag := e.tag,
    length := length, count := 0, stationState := some state, lastOutcome := last, last := none }

/-- The DONE record of a request of the control list: no station state, and as last field the expected count of a GROUP-POST that
was sent (R99, R113, R123, R171). -/
def controlRecord (e : PoolEntry) (status : Status) (length count : Nat) : CompletionRecord :=
  { kind := .done, status := status, address := e.address, attempts := e.attempts, waits := 0, tag := e.tag,
    length := length, count := count, stationState := none, lastOutcome := e.lastOutcome,
    last := e.expectedCount.map (fun n => BitVec.ofNat 8 n) }

/-- The waits field of a record: the waits used of an EXCHANGE, 0 for every other kind (R201). -/
def waitsField (e : PoolEntry) : Nat := if e.kind = .exchange then e.waits else 0

/-- The access of kind `k` is on the bus and its result is wanted. -/
def OnBus (s : State) (k : AccessKind) : Prop :=
  ∃ b, s.hp.bus = some b ∧ b.access.kind = k ∧ b.access.discarded = false

/-- The commands that say how an access ended, with the kinds they name; `octets` is what a completed read delivered. -/
def endsKind (c : Instr) (k : AccessKind) : Bool :=
  match c with
  | .configurationReadComplete _ | .configurationReadFault => k == .configuration
  | .requestRecordReadComplete _ | .requestRecordReadFault => k == .requestRecord
  | .descriptorReadComplete _ | .descriptorReadFault => k == .descriptor
  | .payloadReadComplete _ | .payloadReadFault => isPayload k
  | .responseWriteComplete | .responseWriteFault => isResponse k
  | .reportWriteComplete | .reportWriteFault => k == .report
  | .snapshotWriteComplete | .snapshotWriteFault => isSnapshot k
  | .recordWriteFirstPartComplete => k == .recordBody
  | .recordWriteSecondPartComplete => k == .recordPhase
  | .recordWriteFault => isRecordWrite k
  | _ => false

/-- What a completed read delivered, none for the other commands. -/
def deliveredOctets : Instr → Option (List Octet)
  | .configurationReadComplete o | .requestRecordReadComplete o | .descriptorReadComplete o | .payloadReadComplete o => some o
  | _ => none

/-- The command that says that an access of a kind faulted (R196). -/
def faultCommand : AccessKind → Instr
  | .configuration => .configurationReadFault
  | .requestRecord => .requestRecordReadFault
  | .descriptor => .descriptorReadFault
  | .payload _ => .payloadReadFault
  | .response _ => .responseWriteFault
  | .report => .reportWriteFault
  | .snapshot _ => .snapshotWriteFault
  | .recordBody | .recordPhase => .recordWriteFault

/-- The loop state after a STOP or an entry to FAULTED, by the state it is in and whether the transit list is empty (R46). -/
def drainedTo (l : LoopState) (empty : Bool) : LoopState :=
  match l with
  | .opened | .probing | .calling => if empty then .quiet else .draining
  | .broken | .quiet => .quiet
  | .draining => .draining

/-- The commands that name a delivery, with its return span (R24). -/
def returnSpan : Instr → Option ReturnSpan
  | .headFrameReturn _ _ _ _ _ _ x => some x
  | .responseReturn _ _ _ x => some x
  | .turnReturn x => some x
  | .reportReturn _ _ _ x => some x
  | .damagedFrame x => some x
  | .sweepMarkerReturn _ _ x => some x
  | .callMarkerReturn _ x => some x
  | .probeReturn _ a b => some { start := a, stop := b }
  | .damagedMarker _ x => some x
  | _ => none

/-- Command `c` names a delivery that falls now: its item is one the receiver can pass, and its return end is the present octet
time (R20 to R22, R24). -/
def ArrivesNow (s : State) (c : Instr) : Prop :=
  c.wellFormed = true ∧ (returnSpan c).map (fun x => x.stop) = some s.clock.octets

/-- `e` is the oldest entry of the transit list where items are matched, in OPEN and DRAINING (R36, R47). -/
def OldestIs (s : State) (e : TransitEntry) (rest : List TransitEntry) : Prop :=
  s.ls.transit = e :: rest ∧ (s.ls.state = .opened ∨ s.ls.state = .draining)

/-- `e` is the oldest entry of the transit list, in OPEN, or in DRAINING with more behind it, where its return does not end the
drain (R36, R47). -/
def OldestAwaited (s : State) (e : TransitEntry) (rest : List TransitEntry) : Prop :=
  s.ls.transit = e :: rest ∧ (s.ls.state = .opened ∨ s.ls.state = .draining ∧ rest ≠ [])

/-- The last outcome that a head frame in its place records: what its trailer returns, or DAMAGED-IN-TRANSIT (R37, R73, R80). -/
def headOutcome : Instr → Option LastOutcome
  | .headFrameReturn _ _ _ _ outcome _ _ => some (lastOutcomeOf outcome)
  | .damagedFrame _ => some .damagedInTransit
  | _ => none

/-- The head frame of entry `e`, or a damaged frame in its place (R37). -/
def fitsHead (e : TransitEntry) : Instr → Bool
  | .headFrameReturn kind address toggle payload _ _ _ =>
    e.frame == some kind && e.target == some address && e.toggle == toggle && e.length == payload.length
  | .damagedFrame _ => true
  | _ => false

/-- What comes back in a turn's place (R38). -/
def isTurnItem : Instr → Bool
  | .turnReturn _ | .responseReturn _ _ _ _ | .damagedFrame _ | .damagedMarker _ _ => true
  | _ => false

/-- What comes back for a SWEEP: reports, then its marker (R39). -/
def isSweepItem : Instr → Bool
  | .reportReturn _ _ _ _ | .damagedFrame _ | .sweepMarkerReturn _ _ _ | .damagedMarker _ _ => true
  | _ => false

/-- What comes back for a CALL (R31, R40). -/
def isCallItem : Instr → Bool
  | .callMarkerReturn _ _ | .damagedMarker _ _ => true
  | _ => false

/-- The delivery is one that entry `e` awaits, by its kind and progress (R36 to R40). -/
def awaits (e : TransitEntry) (c : Instr) : Bool :=
  match e.element with
  | .post | .group | .rest => fitsHead e c
  | .exch => match e.progress with | .awaitingHead => fitsHead e c | .awaitingTurn => isTurnItem c
  | .sweep => isSweepItem c
  | .call => isCallItem c
  | .probe => false

/-- The delivery is the PROBE of entry `e` with the number last sent, within the probe limit of its send end (R27). -/
def probeSucceeds (s : State) (c : Configuration) (e : TransitEntry) (cmd : Instr) : Prop :=
  e.element = .probe ∧ ∃ span : ReturnSpan, cmd = .probeReturn s.ls.probeNumber span.start span.stop ∧
    ∀ sent, e.sendEnd = some sent → span.stop ≤ sent + c.probeLimit

/-- The entry list of a roll call holds only addresses 1 to 32 (R57). -/
def rollAccepted (entries : List CallEntry) : Prop := ∀ x ∈ entries, 1 ≤ x.address.toNat ∧ x.address.toNat ≤ 32

/-- The command is a CALL marker that is damaged, or intact with an address outside 1 to 32 (R31, R40, R57). -/
def failsRollCall (cmd : Instr) : Prop :=
  (∃ kind span, cmd = .damagedMarker kind span) ∨
  ∃ entries span, cmd = .callMarkerReturn entries span ∧ ¬rollAccepted entries

/-- Transit entry `e` serves request `q`, in pool entry `p`, of station `a`. -/
def ServesStation (s : State) (e : TransitEntry) (p : PoolIx) (q : PoolEntry) (a : Addr) : Prop :=
  e.pool = some p ∧ entry s p = some q ∧ requestStation q = some a

/-- Request `q`, in pool entry `p`, is the head of list `l`. -/
def IsHead (s : State) (l : ListId) (p : PoolIx) (q : PoolEntry) : Prop :=
  (listOf s l).head? = some p ∧ entry s p = some q

/-- A set of causes with one more pending. -/
def withEngineCause (c : Causes) : Causes := { c with engine := true }

/-- A set of causes with REG-ERROR pending. -/
def withRegErrorCause (c : Causes) : Causes := { c with regError := true }

/-- The state after a register error: its code recorded, REG-ERROR pending, nothing else changed (R183). -/
def afterRegisterError (e : RegisterError) (s : State) : State :=
  { s with hp := { s.hp with registerError := e }
           cu := { s.cu with pendingCauses := withRegErrorCause s.cu.pendingCauses } }

/-- The transit entry an element gets at hand-over when it carries nothing (R33): the PROBE's, and the CALL's of CALLING. -/
def plainEntry (id : Nat) (kind : ElementKind) : TransitEntry :=
  { id := id, element := kind, frame := none, target := none, toggle := false, length := 0, pool := none, demand := false,
    slots := 0, buffers := 0, acks := [], progress := .awaitingHead, deadline := none, sendEnd := none }

/-- A PROBE with the next probe number is handed over (R11, R26): the loop is PROBING, the PROBE waits at the transmitter, and
its entry joins the transit list. -/
def probeHandedOver (ls : LoopSequencer) (id : Nat) : LoopSequencer :=
  { ls with state := .probing, probeNumber := ls.probeNumber + 1, settleTimer := none,
            transit := ls.transit ++ [plainEntry id .probe] }

/-- The transmitter with one more element waiting (R15). -/
def withWaiting (tx : Transmitter) (run : List Symbol) : Transmitter :=
  { tx with waiting := tx.waiting ++ [{ id := tx.nextId, run := run }], nextId := tx.nextId + 1 }

/-- The sweep timer when it starts with its full interval; with an interval of 0 it does not run (R124). -/
def freshSweepTimer (s : State) (c : Configuration) : Option Nat :=
  if c.sweepInterval = 0 then none else some (s.clock.cycles + c.sweepInterval * 16000)

/-! ## Notices (R161 to R163) -/

/-- The number of a loop state (R199's table). -/
def loopNumber : LoopState → Nat
  | .quiet => 0 | .probing => 1 | .calling => 2 | .opened => 3 | .broken => 4 | .draining => 5

/-- The raise of a STATION-CHANGE notice with count `n` (R56, R60). -/
def changeRaise (n : Nat) : Raise := { kind := .stationChange, count := n, loop := none }

/-- The raise of a LOOP-STATE notice, with the loop state entered (R45). -/
def loopRaise (l : LoopState) : Raise := { kind := .loopState, count := 1, loop := some l }

/-- The raise of a BUFFERS-LOW notice (R106). -/
def buffersLowRaise : Raise := { kind := .buffersLow, count := 1, loop := none }

/-- The NOTICE record that a raise enters when its kept slot is free; its last field holds the loop state of a LOOP-STATE (R161,
R163). -/
def noticeOf (x : Raise) : CompletionRecord :=
  { kind := .notice x.kind, status := .ok, address := 0, attempts := 0, waits := 0, tag := 0, length := 0,
    count := min 65535 x.count, stationState := none, lastOutcome := none,
    last := x.loop.map (fun l => BitVec.ofNat 8 (loopNumber l)) }

/-- The holding queue after a raise is applied: a notice of its kind is updated where it stands, its count raised up to 65535 and
its loop state replaced, and otherwise a new one enters at the tail (R161). -/
def queueAfterRaise (x : Raise) (queue : List CompletionRecord) : List CompletionRecord :=
  if ∃ r ∈ queue, r.kind = .notice x.kind then
    queue.map (fun r =>
      if r.kind = .notice x.kind then
        { r with count := min 65535 (r.count + x.count)
                 last := match x.loop with | some l => some (BitVec.ofNat 8 (loopNumber l)) | none => r.last }
      else r)
  else queue ++ [noticeOf x]

/-- The holding queue after raises are applied in their order (R162). -/
def queueAfterRaises (xs : List Raise) (queue : List CompletionRecord) : List CompletionRecord :=
  xs.foldl (fun q x => queueAfterRaise x q) queue

/-- The notice of a kind is being written, so a raise of that kind is held (R162). -/
abbrev raiseIsHeld (k : NoticeKind) (cu : CompletionUnit) : Prop :=
  cu.write ≠ none ∧ cu.queue.head?.map (fun r => r.kind) = some (.notice k)

/-- The completion unit after a raise: applied, or held behind the write of its kind's notice (R161, R162). -/
def afterRaise (x : Raise) (cu : CompletionUnit) : CompletionUnit :=
  if raiseIsHeld x.kind cu then { cu with heldRaises := cu.heldRaises ++ [x] }
  else { cu with queue := queueAfterRaise x cu.queue }

/-- The completion unit when records enter the holding queue behind those it holds (R160). -/
def withRecords (records : List CompletionRecord) (cu : CompletionUnit) : CompletionUnit :=
  { cu with queue := cu.queue ++ records }

/-- The final status by the last outcome when the attempts are used up (R90). -/
def statusAtLimit (o : LastOutcome) : Status :=
  if o = .busy then .refused else if o = .noMatch then .unreached else .loopFault

/-- The failure count `n` of a station after a failed attempt of this last outcome, an EXCHANGE's after its turn item (R52, R80,
R82). -/
def failuresAfter (o : LastOutcome) (n : Nat) : Nat :=
  if o = .noMatch then min 15 (n + 1) else if o = .damaged ∨ o = .damagedInTransit then n else 0

/-- A head frame that returns NONE now brings the failure count of PRESENT station `a` to the silent threshold (R52, R56). -/
def reachesSilence (s : State) (c : Configuration) (a : Addr) : Prop :=
  (station s a).state = .present ∧ min 15 ((station s a).failures + 1) = c.silentThreshold

/-- The station's outstanding link once the request of entry `p` is resolved (R50). -/
def outstandingWithout (p : PoolIx) (x : Station) : Option PoolIx := if x.outstanding = some p then none else x.outstanding

/-- An attempt of request `q`, of pool entry `p` for station `a`, has failed between `s` and `t` with last outcome `o`: it completes
TIMEOUT under its expiry mark, NOT-PRESENT when its station is not PRESENT, or, its attempts used up by a counted failure, with its
final status; otherwise it is PAUSED with its fetch delay running, stays outstanding, and its slot is given back (R89 to R91,
R94). -/
def AttemptFailed (s t : State) (c : Configuration) (a : Addr) (p : PoolIx) (q : PoolEntry) (o : LastOutcome)
    (next : Option HeadFrame) (attempts waits : Nat) : Prop :=
  (∀ status,
    (q.expiryMark = true ∧ status = .timeout ∨
     q.expiryMark = false ∧ (station s a).state ≠ .present ∧ status = .notPresent ∨
     q.expiryMark = false ∧ (station s a).state = .present ∧ o ≠ .notReady ∧ attempts = q.attemptLimit ∧
       status = statusAtLimit o) →
    Resolves s t (accessesWithout p s) p q (workRecord q status attempts (if q.kind = .exchange then waits else 0) 0
      (station s a).state (some o)) ∧
    (station t a).outstanding = outstandingWithout p (station s a)) ∧
  (q.expiryMark = false → (station s a).state = .present → o = .notReady ∨ attempts ≠ q.attemptLimit →
    entry t p = some { q with
      attempts := attempts, waits := waits, lastOutcome := some o, nextFrame := next, phase := .paused,
      fetchTimer := .running (s.clock.cycles + c.fetchDelay * 160) } ∧
    PoolKeptBut p s t ∧ (station t a).outstanding = (station s a).outstanding ∧
    t = { s with hp := { s.hp with bus := t.hp.bus, queue := t.hp.queue }, rp := t.rp, st := t.st, ls := t.ls
                 cu := { s.cu with reserved := s.cu.reserved - 1 } } ∧ accesses t = accesses s)

/-- An attempt of request `q` has failed with NONE and silenced its station: the STATION-CHANGE notice enters the holding queue, and
behind it the record of the request, TIMEOUT under its expiry mark and NOT-PRESENT otherwise (R52, R56, R89, R94). -/
def AttemptSilences (s t : State) (c : Configuration) (a : Addr) (p : PoolIx) (q : PoolEntry) : Prop :=
  station t a = { station s a with
    state := .silent, failures := c.silentThreshold, outstanding := outstandingWithout p (station s a) } ∧
  t.cu = { withRecords [workRecord q (if q.expiryMark then .timeout else .notPresent) (q.attempts + 1) (waitsField q) 0 .silent
      (some .noMatch)] (afterRaise (changeRaise 1) s.cu) with reserved := s.cu.reserved - 1 } ∧
  entry t p = none

/-! ## Breaks (R42, R43) -/

/-- The status with which a break ends an EXCHANGE or POST of station `a`, none when it is PAUSED: its expiry mark comes first, then
a station that is not PRESENT, then its attempts used up (R43, R89, R90, R94). -/
def brokenStatus (s : State) (q : PoolEntry) (a : Addr) : Option Status :=
  if q.expiryMark = true then some .timeout
  else if (station s a).state ≠ .present then some .notPresent
  else if q.attempts + 1 = q.attemptLimit then some .loopFault
  else none

/-- The record of request `q` when the element that served it was lost, with last outcome `o` (R43, R68, R95, R99). -/
def lostRecord (s : State) (q : PoolEntry) (status : Status) (attempts : Nat) (o : LastOutcome) : CompletionRecord :=
  { kind := .done, status := status, address := q.address, attempts := attempts, waits := waitsField q, tag := q.tag, length := 0,
    count := 0, stationState := (requestStation q).map (fun a => (station s a).state), lastOutcome := some o,
    last := q.expectedCount.map (fun n => BitVec.ofNat 8 n) }

/-- The record of the control head with a status and a count, when it is a request of this kind (R113, R123). -/
def controlHeadRecord (s : State) (kind : RequestKind) (status : Status) (count : Nat) : Option CompletionRecord :=
  match (listOf s .control).head?.bind (entry s) with
  | some q => if q.kind = kind then some (controlRecord q status 0 count) else none
  | none => none

/-- The LOOP-FAULT record of the control head, when it is a request of this kind (R43, R117, R123). -/
def lostControlHead (s : State) (kind : RequestKind) (count : Nat) : Option CompletionRecord :=
  controlHeadRecord s kind .loopFault count

/-- How many reports the sweep in transit has accepted (R100). -/
def acceptedOf (s : State) : Nat := (s.ru.sweep.map (fun w => w.accepted)).getD 0

/-- The record that a break enters for a transit entry at once, none where its request is PAUSED or it serves none: a SWEEP-NOW
waits for the records of the reports its sweep accepted (R43, R117, R205). -/
def brokenRecord (s : State) (e : TransitEntry) : Option CompletionRecord :=
  let request := e.pool.bind (entry s)
  match e.element with
  | .exch | .post => request.bind (fun q => (requestStation q).bind (fun a =>
      (brokenStatus s q a).map (fun status => lostRecord s q status (q.attempts + 1) .lostToBreak)))
  | .group => request.map (fun q => lostRecord s q .loopFault q.attempts .lostToBreak)
  | .rest => request.map (fun q => lostRecord s q .ok q.attempts .unknown)
  | .sweep =>
    if e.demand = true ∧ (acceptedOf s = 0 ∨ s.ru.reports = []) then lostControlHead s .sweepNow (acceptedOf s) else none
  | .call => if e.demand = true then lostControlHead s .callNow 0 else none
  | .probe => none

/-- The entries of a transit list serve requests of their own, a closing element is the newest, and no GROUP-POST is in transit with
an element that serves a SWEEP-NOW or CALL-NOW (R32, R33, R121). -/
def EntriesApart (s : State) (es : List TransitEntry) : Prop :=
  (es.filterMap (fun e => e.pool)).Nodup ∧ (∀ e ∈ es.dropLast, e.element ≠ .sweep ∧ e.element ≠ .call) ∧
  (∀ e ∈ es, e.element = .exch ∨ e.element = .post ∨ e.element = .rest → ∃ p q a, ServesStation s e p q a) ∧
  (∀ e ∈ es, e.element = .group → ∀ e' ∈ es, e'.demand = false)

/-- How many reserved slots a break takes from the count for a transit entry whose request is there: those its records use and those
given back (R43). -/
def brokenSlots (s : State) (e : TransitEntry) : Nat :=
  match e.element with
  | .exch | .post => 1
  | .group | .rest | .call => (brokenRecord s e).toList.length
  | .sweep => (e.slots - if e.demand = true then 1 else 0) + (brokenRecord s e).toList.length
  | .probe => 0

/-- An EXCHANGE or POST that a break leaves outstanding: one more attempt counted, PAUSED with its fetch delay running (R43, R91). -/
def pausedByBreak (s : State) (c : Configuration) (q : PoolEntry) : PoolEntry :=
  { q with attempts := q.attempts + 1, lastOutcome := some .lostToBreak, phase := .paused,
           fetchTimer := .running (s.clock.cycles + c.fetchDelay * 160) }

/-- Request `q` of pool entry `p` was given up with its transit entry `e`: it completed, and its station's outstanding link is gone, or
it is PAUSED and stays outstanding (R43, R50). -/
def RequestGivenUp (s t : State) (c : Configuration) (e : TransitEntry) (p : PoolIx) (q : PoolEntry) : Prop :=
  (brokenRecord s e ≠ none → entry t p = none ∧ ∀ a, requestStation q = some a → (station t a).outstanding ≠ some p) ∧
  (brokenRecord s e = none → isWork q.kind = true → q.phase = .inTransit → entry t p = some (pausedByBreak s c q) ∧
    ∀ a, (station s a).outstanding = some p → (station t a).outstanding = some p)

/-- The sweep of transit entry `e` was given up: its record is emptied, every acknowledgment is kept with its mark cleared, and a
SWEEP-NOW it served waits for the records of the reports its sweep accepted, or completes (R43, R117, R205). -/
def SweepGivenUp (s t : State) (e : TransitEntry) : Prop :=
  t.ru = { s.ru with sweep := none, acks := t.ru.acks, decision := t.ru.decision } ∧
  (∀ a : Addr, t.ru.acks[a] = (s.ru.acks[a]).map (fun x => { x with carried := false })) ∧
  (e.demand = true → acceptedOf s ≠ 0 → s.ru.reports ≠ [] →
    t.ru.decision = some { status := .loopFault, count := acceptedOf s, after := s.ru.reports.length }) ∧
  (e.demand = false ∨ acceptedOf s = 0 ∨ s.ru.reports = [] → t.ru.decision = s.ru.decision)

/-- Giving up transit entry `e`, a sweep or a CALL, completes at once the SWEEP-NOW or CALL-NOW it served (R43, R117, R123). -/
def completesControlHead (s : State) (e : TransitEntry) : Prop :=
  (e.element = .sweep ∨ e.element = .call) ∧ brokenRecord s e ≠ none

/-- The pool after every transit entry was given up: a list loses the requests that completed and no others; a request that no entry
served is as it was, or became the head of its list, its payload read asked for if it has one to make (R75, R144, R148, R151). -/
def PoolGivenUp (s t : State) : Prop :=
  (∀ l, listOf t l = (listOf s l).filter (fun p => (entry t p).isSome)) ∧
  (∀ q, entry s q = none → entry t q = none) ∧
  (∀ q x, entry s q = some x → (∀ e ∈ s.ls.transit, e.pool ≠ some q) →
    (∀ e ∈ s.ls.transit, completesControlHead s e → (listOf s .control).head? ≠ some q) →
    let l := listFor x.kind x.address
    ((listOf t l).head? ≠ some q ∨ (listOf s l).head? = some q → entry t q = some x) ∧
    ((listOf t l).head? = some q → (listOf s l).head? ≠ some q →
      ∃ more : List Access, BecomesHead s t l q x more ∧ ∀ y ∈ more, y ∈ accesses t))

/-- The only transit entry `e` was given up, by its kind; `enters records slots` says that those records entered the holding queue and
that so many reserved slots are fewer (R43, R68, R89, R94, R95, R117, R123, R205). -/
def AloneGivenUp (s t : State) (c : Configuration) (e : TransitEntry) (enters : List CompletionRecord → Nat → Prop) : Prop :=
  (∀ p q a, e.element = .exch ∨ e.element = .post → ServesStation s e p q a → isWork q.kind = true → q.expectedCount = none →
    (∀ status,
      (q.expiryMark = true ∧ status = .timeout ∨
       q.expiryMark = false ∧ (station s a).state ≠ .present ∧ status = .notPresent ∨
       q.expiryMark = false ∧ (station s a).state = .present ∧ q.attempts + 1 = q.attemptLimit ∧ status = .loopFault) →
      entry t p = none ∧
      enters [workRecord q status (q.attempts + 1) (waitsField q) 0 (station s a).state (some .lostToBreak)] 1) ∧
    (q.expiryMark = false → (station s a).state = .present → q.attempts + 1 ≠ q.attemptLimit →
      entry t p = some (pausedByBreak s c q) ∧ PoolKeptBut p s t ∧ enters [] 1)) ∧
  (∀ p q n, e.element = .group → e.pool = some p → entry s p = some q → q.kind = .groupPost → q.expectedCount = some n →
    entry t p = none ∧ enters
      [{ kind := .done, status := .loopFault, address := q.address, attempts := q.attempts, waits := 0, tag := q.tag,
         length := 0, count := 0, stationState := none, lastOutcome := some .lostToBreak,
         last := some (BitVec.ofNat 8 n) }] 1) ∧
  (∀ p q a, e.element = .rest → e.pool = some p → entry s p = some q → q.kind = .expel → requestStation q = some a →
    q.expectedCount = none → entry t p = none ∧ t.ls.rawDelay = s.ls.rawDelay ∧
    enters [workRecord q .ok q.attempts 0 0 (station s a).state (some .unknown)] 1) ∧
  (e.element = .sweep → SweepGivenUp s t e ∧
    (e.demand = false → enters [] e.slots ∧ t.rp = s.rp) ∧
    (∀ p q, e.demand = true → acceptedOf s = 0 ∨ s.ru.reports = [] → IsHead s .control p q → q.kind = .sweepNow →
      1 ≤ e.slots → entry t p = none ∧ enters [controlRecord q .loopFault 0 (acceptedOf s)] e.slots) ∧
    (e.demand = true → acceptedOf s ≠ 0 → s.ru.reports ≠ [] → enters [] (e.slots - 1) ∧ t.rp = s.rp)) ∧
  (e.element = .call → e.demand = false → enters [] 0 ∧ t.rp = s.rp) ∧
  (∀ p q, e.element = .call → e.demand = true → IsHead s .control p q → q.kind = .callNow →
    entry t p = none ∧ enters [controlRecord q .loopFault 0 0] 1) ∧
  (e.element = .probe → enters [] 0 ∧ t.rp = s.rp)

/-- Every transit entry of `s` was given up by its kind, oldest first, as R43 says (R41, R42, R47). The records entered in the order of
their entries; `after` is what then becomes of the completion unit. No toggle, failure count, station state or loop map changes. -/
def GivenUp (s t : State) (c : Configuration) (after : CompletionUnit → CompletionUnit) : Prop :=
  let enters := fun (records : List CompletionRecord) (slots : Nat) =>
    t.cu = { after (withRecords records s.cu) with reserved := s.cu.reserved - slots }
  (∀ a, (station t a).commandToggle = (station s a).commandToggle ∧ (station t a).failures = (station s a).failures ∧
    (station t a).state = (station s a).state) ∧ t.st.loopMap = s.st.loopMap ∧
  (EntriesApart s s.ls.transit →
    enters (s.ls.transit.filterMap (brokenRecord s)) (s.ls.transit.map (brokenSlots s)).sum ∧
    (∀ e ∈ s.ls.transit, ∀ p q, e.element = .exch ∨ e.element = .post ∨ e.element = .group ∨ e.element = .rest →
      e.pool = some p → entry s p = some q → RequestGivenUp s t c e p q) ∧
    (∀ e ∈ s.ls.transit, e.element = .sweep → SweepGivenUp s t e) ∧
    ((∀ e ∈ s.ls.transit, e.element ≠ .sweep) → t.ru = s.ru) ∧
    (∀ e ∈ s.ls.transit, ∀ p q, completesControlHead s e → IsHead s .control p q → entry t p = none) ∧
    (SlotInv s → PoolGivenUp s t)) ∧
  (∀ e, s.ls.transit = [e] → AloneGivenUp s t c e enters)

/-- Command `cmd` breaks the loop, under configuration `c`: the last octet time of the return limit has ended in OPEN or CALLING, or that
of the probe limit in PROBING; an item comes back in PROBING that is no PROBE with the number last sent within the probe limit, or one
in OPEN or CALLING that the oldest entry does not await; or the CALL of CALLING comes back damaged or rejected (R27, R28, R31, R35,
R41, R42). -/
def BreaksLoop (s : State) (c : Configuration) (cmd : Instr) : Prop :=
  cmd = .returnLimitExpiry ∧ (s.ls.state = .opened ∨ s.ls.state = .calling) ∧
    (∃ e rest d, s.ls.transit = e :: rest ∧ e.deadline = some d ∧ d < s.clock.octets) ∨
  cmd = .probeTimerExpiry ∧ s.ls.state = .probing ∧ (∃ d, s.ls.probeTimer = some d ∧ d < s.clock.octets) ∨
  ArrivesNow s cmd ∧
    (s.ls.state = .probing ∧ (∀ e, s.ls.transit.head? = some e → ¬probeSucceeds s c e cmd) ∨
     (s.ls.state = .opened ∨ s.ls.state = .calling) ∧ (∀ e, s.ls.transit.head? = some e → awaits e cmd = false) ∨
     s.ls.state = .calling ∧ (∃ e rest, s.ls.transit = e :: rest ∧ e.element = .call) ∧ failsRollCall cmd)

/-! ## Roll calls (R60) -/

/-- The change count of the accepted roll call that leads from `s` to `t`: 1 for each station whose state changes, that rejoined,
or that is VACANT and new in the map, and 1 when the map differs (R60). -/
def rollChanges (s t : State) (entries : List CallEntry) : Nat :=
  ((List.finRange 32).filter (fun a : Addr =>
      (station t a).state ≠ (station s a).state ∨
      ((station s a).state = .present ∧ (station t a).state = .present ∧
        (entries.filter (fun x => x.address.toNat = a.val + 1)).length = 1 ∧
        ∃ x ∈ entries, x.address.toNat = a.val + 1 ∧ x.join = true) ∨
      ((station s a).state = .vacant ∧ a ∈ t.st.loopMap ∧ a ∉ s.st.loopMap))).length +
    (if t.st.loopMap = s.st.loopMap then 0 else 1)

/-- The completion unit after a roll call of change count `n`: a STATION-CHANGE notice is raised when it is above 0 (R60). -/
def afterRollCall (n : Nat) (cu : CompletionUnit) : CompletionUnit := if n = 0 then cu else afterRaise (changeRaise n) cu

/-! ## The entry to RUNNING from STOPPED (R190) -/

/-- A PAUSED request whose fetch-delay expiry was held enters READY (R91). -/
def released (q : PoolEntry) : PoolEntry :=
  if q.fetchTimer = .expired then { q with phase := .ready, fetchTimer := .stopped } else q

/-- A held deadline expiry is acted on for the head of a station list (R93). -/
def deadlineActedOn (q : PoolEntry) : PoolEntry :=
  match q.phase with
  | .inTransit => { q with expiryMark := true }
  | .paused => { q with phase := .ready, fetchTimer := .stopped }
  | .queued | .ready | .resolved => q

/-- Head request `q` of list `l` after the held expiries are acted on, before its payload starts (R91, R93). -/
def resumedHead (s : State) (l : ListId) (q : PoolEntry) : PoolEntry :=
  match l with
  | .station a => if headTimer s a = .expired then deadlineActedOn (released q) else released q
  | .control => released q

/-! ## Reports (R111, R112) -/

/-- No octet of the report is to be written (R111). -/
def nothingToWrite (r : PendingReport) : Prop := r.payload = [] ∨ r.descriptor.capacity = 0

/-- The status of a report by its buffer's capacity (R111). -/
def fitStatus (r : PendingReport) : Status :=
  if r.payload.length ≤ r.descriptor.capacity then .ok else .truncated

/-- The status of a report in FAULTED, where no write is made (R112). -/
def faultedStatus (r : PendingReport) : Status :=
  if r.payload.length = 0 ∨ r.descriptor.capacity = 0 then fitStatus r else .hostFault

/-- The REPORT record of a report, with its station's state of this moment (R113, R201). -/
def reportDone (s : State) (r : PendingReport) (status : Status) : CompletionRecord :=
  { kind := .report, status := status, address := BitVec.ofNat 8 (r.source.val + 1), attempts := 0, waits := 0,
    tag := BitVec.ofNat 32 r.descriptor.index, length := r.payload.length, count := 0,
    stationState := some (station s r.source).state, lastOutcome := none, last := none }

/-- The write of a report: its octets, up to the capacity of its buffer (R111). -/
def reportWrite (r : PendingReport) : Access :=
  { kind := .report, address := r.descriptor.address, length := min r.descriptor.capacity r.payload.length,
    data := r.payload.take r.descriptor.capacity, discarded := false }

/-! ## Accesses given up at the entry to FAULTED (R197) -/

/-- The request behind an access given up at the entry to FAULTED is there: an EXCHANGE with a response, a QUERY, the SWEEP-NOW that
waits for some of the pending reports, the CALL-NOW whose record is held behind the record write (R86, R132, R113, R123). -/
def OwnerStands (s : State) (x : Access) : Prop :=
  match x.kind with
  | .response p => ∃ e n a, entry s p = some e ∧ e.response = some n ∧ requestStation e = some a
  | .snapshot p => ∃ e, entry s p = some e ∧ e.kind = .query
  | .report => ∀ d, s.ru.decision = some d → 1 ≤ d.after ∧ d.after ≤ s.ru.reports.length ∧
      ∃ p e, IsHead s .control p e ∧ e.kind = .sweepNow
  | .recordBody | .recordPhase => s.cu.callAnswer ≠ none → ∃ p e, IsHead s .control p e ∧ e.kind = .callNow
  | .configuration | .requestRecord | .descriptor | .payload _ => True

/-- The DONE record of an EXCHANGE whose response is not written: HOST-FAULT with the full length (R86, R197). -/
def unwrittenRecord (s : State) (e : PoolEntry) (n : Nat) : CompletionRecord :=
  { kind := .done, status := .hostFault, address := e.address, attempts := e.attempts, waits := waitsField e, tag := e.tag,
    length := n, count := 0, stationState := (requestStation e).map (fun a => (station s a).state), lastOutcome := e.lastOutcome,
    last := e.expectedCount.map (fun n => BitVec.ofNat 8 n) }

/-- The records of the pending reports when their writes are given up in FAULTED, in order of acceptance, that of a SWEEP-NOW right
behind those it waited for (R112, R113). -/
def droppedReports (s : State) : List CompletionRecord :=
  let records := s.ru.reports.map (fun r => reportDone s r (faultedStatus r))
  match s.ru.decision with
  | none => records
  | some d => records.take d.after ++ (controlHeadRecord s .sweepNow d.status d.count).toList ++ records.drop d.after

/-- The records that enter through reserved slots when access `x` is given up at the entry to FAULTED (R197, R86, R112, R113, R132;
for a record write, that of a CALL-NOW held behind it, log entry 31). -/
def droppedRecords (s : State) (x : Access) : List CompletionRecord :=
  if x.discarded then []
  else match x.kind with
    | .response p => ((entry s p).bind (fun e => e.response.map (unwrittenRecord s e))).toList
    | .snapshot p => ((entry s p).map (fun e => controlRecord e .hostFault 296 0)).toList
    | .report => droppedReports s
    | .recordBody | .recordPhase => (s.cu.callAnswer.bind (controlHeadRecord s .callNow .ok)).toList
    | .configuration | .requestRecord | .descriptor | .payload _ => []

/-- The holding queue after access `x` is given up at the entry to FAULTED: a record write lets the held raises in first (R162,
R197). -/
def queueAfterDropped (s : State) (queue : List CompletionRecord) (x : Access) : List CompletionRecord :=
  (if isRecordWrite x.kind && !x.discarded then queueAfterRaises s.cu.heldRaises queue else queue) ++ droppedRecords s x

/-- An access of kind `k` whose result is wanted is on the bus or in the list. -/
def awaitsAccess (s : State) (k : AccessKind) : Bool := (accesses s).any (fun x => x.kind == k && !x.discarded)

/-! ## Ring reads (R101, R138) -/

/-- The read of the descriptor at ring index `i` (R101). -/
def descriptorReadAt (c : Configuration) (i : Nat) : Access :=
  { kind := .descriptor, address := c.bufferBase + BitVec.ofNat 32 (16 * i), length := 16, data := [], discarded := false }

/-- The read of the request record at ring index `i` (R138). -/
def recordReadAt (c : Configuration) (i : Nat) : Access :=
  { kind := .requestRecord, address := c.requestBase + BitVec.ofNat 32 (32 * i), length := 32, data := [], discarded := false }

/-! ## The check and the codes on the line (R4, R8, R202) -/

/-- The bits of an octet in the order in which they enter the check, most significant first (R4). -/
def checkBits (o : Octet) : List Bool := (List.range 8).map (fun i => o.getLsbD (7 - i))

/-- The register of the check after one more bit: it is shifted left, and the generator 8005h is subtracted when the bit that leaves
it and the bit that enters differ (R4). -/
def checkStep (c : BitVec 16) (bit : Bool) : BitVec 16 := (c <<< 1) ^^^ (if c.msb = bit then 0 else 0x8005)

/-- The check of a run of octets: the register, preset to FFFFh, when every bit has entered, neither reflected nor inverted (R4). -/
def checkOf (octets : List Octet) : BitVec 16 := (octets.flatMap checkBits).foldl checkStep 0xFFFF

/-- The high octet of a check (R4). -/
def highOctet (c : BitVec 16) : Octet := BitVec.ofNat 8 (c.toNat / 256)

/-- The low octet of a check (R4, R8). -/
def lowOctet (c : BitVec 16) : Octet := BitVec.ofNat 8 c.toNat

/-- The kind octets of the head frames (R202). -/
def headKindOctet : HeadFrame → Octet
  | .data => 0x01 | .fetch => 0x02 | .post => 0x03 | .group => 0x04 | .rest => 0x05

/-- The octet of a toggle in a frame or a pair (R3, R9). -/
def toggleBit (t : Toggle) : Octet := if t then 0x01 else 0x00

/-! ## Expiries (R129) -/

/-- Command `c` is an expiry counted in octet times that has fallen when octet time `now` is reached: the last octet time of its
timer has ended (R27, R28, R35). -/
def OctetExpiry (s : State) (now : Nat) (c : Instr) : Prop :=
  (c = .returnLimitExpiry ∧ (s.ls.state = .opened ∨ s.ls.state = .calling ∨ s.ls.state = .draining) ∧
    ∃ e rest d, s.ls.transit = e :: rest ∧ e.deadline = some d ∧ d < now) ∨
  (c = .probeTimerExpiry ∧ ∃ d, s.ls.probeTimer = some d ∧ d < now)

/-- Command `c` is an expiry counted on REFCLK that has fallen when cycle `now` is reached (R44, R91, R93, R122, R124, R196,
R207). -/
def CycleExpiry (s : State) (now : Nat) (c : Instr) : Prop :=
  (c = .settleTimerExpiry ∧ ∃ d, s.ls.settleTimer = some d ∧ d ≤ now) ∨
  (∃ p q d, c = .fetchDelayExpiry p ∧ entry s p = some q ∧ q.fetchTimer = .running d ∧ d ≤ now) ∨
  (∃ a d, c = .headDeadlineExpiry a ∧ headTimer s a = .running d ∧ d ≤ now) ∨
  (c = .sweepTimerExpiry ∧ ∃ d, s.sc.sweepTimer = some d ∧ d ≤ now) ∨
  (c = .callTimerExpiry ∧ ∃ d, s.sc.callTimer = some d ∧ d ≤ now) ∨
  (c = .accessTimeout ∧ ∃ b, s.hp.bus = some b ∧ b.begunAt + 32000 ≤ now) ∨
  (c = .powerOnResetEnd ∧ s.hp.pins.released = true ∧ ∃ d, s.hp.resetHold = some d ∧ d ≤ now)

/-- An opportunity of R119, under configuration `c`: the engine is RUNNING, the loop OPEN, the transit list below the in-flight
limit with no closing element, and no element waits at the transmitter. -/
def MayHandOver (s : State) (c : Configuration) : Prop :=
  s.hp.engine = .running ∧ s.hp.config = some c ∧ s.ls.state = .opened ∧ s.ls.transit.length < c.inFlightLimit ∧
  (∀ e ∈ s.ls.transit, e.element ≠ .sweep ∧ e.element ≠ .call) ∧ s.tx.waiting = []

/-- Nothing ahead of the station step in the order of choice: no CALL or sweep due, no control head in READY, and no EXPEL that
was taken up (R121). -/
def NothingEarlier (s : State) : Prop :=
  s.sc.callDue = false ∧ s.sc.sweepDue = false ∧ (∀ p q, IsHead s .control p q → q.phase ≠ .ready) ∧
  (∀ a p q, IsHead s (.station a) p q → q.takenUp = false)

/-- Station `a` is eligible with request `q` of pool entry `p` (R126): it is PRESENT, and its list's head is an EXCHANGE or POST in
READY with no cancel mark and no deadline expired. -/
def Eligible (s : State) (a : Addr) (p : PoolIx) (q : PoolEntry) : Prop :=
  IsHead s (.station a) p q ∧ (station s a).state = .present ∧ (q.kind = .exchange ∨ q.kind = .post) ∧ q.phase = .ready ∧
  q.cancelMark = false ∧ headTimer s a ≠ .expired

/-- The head of list `l` waits to claim a slot: a QUERY not taken up or a GROUP-POST whose read faulted on the control list; on a
station list, but for a request IN-TRANSIT or taken up, one that R131 resolves or takes up (R131, R132). -/
def Claims (s : State) (l : ListId) : Prop :=
  match l with
  | .control => ∃ p q, IsHead s .control p q ∧
      (q.kind = .query ∧ q.takenUp = false ∨ q.kind = .groupPost ∧ q.readFaulted = true ∧ q.phase ≠ .inTransit)
  | .station a => ∃ p q, IsHead s (.station a) p q ∧ q.takenUp = false ∧ q.phase ≠ .inTransit ∧
      (q.cancelMark = true ∨ headTimer s a = .expired ∨ q.readFaulted = true ∨
       q.kind ≠ .exchange ∧ q.kind ≠ .post ∨
       (q.phase = .queued ∨ q.phase = .ready) ∧ (station s a).state ≠ .present)

/-- The place of a list in the order of claims: the control list, then the station lists from the round cursor upward (R133). -/
def claimPlace (s : State) : ListId → Nat
  | .control => 0
  | .station a => 1 + (a - s.sc.cursor).val

/-- The claim of list `l` is among those the reservable slots serve, in the order of claims (R133). -/
def ClaimServed (s : State) (l : ListId) : Prop := l ∈ (claims s).take (reservable s)

/-- Request `q` of pool entry `p` is the head of station `a`'s list and is taken up when it is a control request and its claim is
served: the engine is RUNNING and nothing of R131 comes first (R130, R131). -/
def TakesUp (s : State) (a : Addr) (p : PoolIx) (q : PoolEntry) : Prop :=
  s.hp.engine = .running ∧ IsHead s (.station a) p q ∧ requestStation q = some a ∧ q.expectedCount = none ∧
  q.takenUp = false ∧ q.phase ≠ .inTransit ∧ q.cancelMark = false ∧ headTimer s a ≠ .expired ∧ q.readFaulted = false ∧
  (station s a).outstanding ≠ some p

/-! ## Formats as the manual's tables give them -/

/-- The two-octet field at offset `i`, least significant octet first (R199). -/
def leHalf (o : List Octet) (i : Nat) : Nat := (o.getD i 0).toNat + 256 * (o.getD (i + 1) 0).toNat

/-- The four-octet field at offset `i`, least significant octet first (R199). -/
def leWord (o : List Octet) (i : Nat) : HostWord :=
  BitVec.ofNat 32 (leHalf o i + 65536 * leHalf o (i + 2))

/-- The number of an engine state (R199's table). -/
def engineNumber : EngineState → Nat
  | .off => 0 | .starting => 1 | .running => 2 | .stopping => 3 | .stopped => 4 | .faulted => 5

/-- The number of a station state (R199's table). -/
def stationStateNumber : StationState → Nat
  | .vacant => 0 | .expected => 1 | .present => 2 | .silent => 3 | .conflict => 4 | .barred => 5

/-- The number of a fault code (R199's table). -/
def faultNumber : FaultCode → Nat
  | .noFault => 0 | .configRead => 1 | .configRange => 2 | .requestRead => 3 | .bufferRead => 4 | .completionWrite => 5

/-- The number of a register error (R183's table). -/
def registerErrorNumber : RegisterError → Nat
  | .noError => 0 | .wrongCommand => 1 | .badCommand => 2 | .readOnly => 3 | .partialWrite => 4 | .configBusy => 5
  | .configAlign => 6 | .ringsUnset => 7 | .requestTailRange => 8 | .bufferTailRange => 9 | .completionHeadRange => 10
  | .overRelease => 11

/-- The number of a status (R170's table). -/
def statusNumber : Status → Nat
  | .ok => 0 | .partialCopy => 1 | .truncated => 2 | .notPresent => 3 | .cancelled => 4 | .timeout => 5 | .noResponse => 6
  | .refused => 7 | .unreached => 8 | .loopFault => 9 | .hostFault => 10 | .badRequest => 11 | .badAddress => 12
  | .badLength => 13 | .shortBuffer => 14 | .wrongState => 15

/-- The number of a last outcome (R199's table). -/
def lastOutcomeNumber : LastOutcome → Nat
  | .noMatch => 0 | .taken => 1 | .repeated => 2 | .busy => 3 | .damaged => 4 | .damagedInTransit => 5 | .notReady => 6
  | .responseDamaged => 7 | .responseInvalid => 8 | .lostToBreak => 9 | .unknown => 10

/-- A toggle as an octet; FFh where it may be absent and is (R199's table). -/
def toggleNumber : Option Toggle → Octet
  | some false => 0x00 | some true => 0x01 | none => 0xFF

/-- The accepted values of configuration field `n` (R186's table). -/
def fieldAccepted (c : Configuration) (n : Nat) : Prop :=
  match n with
  | 1 => 32 ∣ c.requestBase.toNat
  | 2 => (∃ k, 4 ≤ k ∧ k ≤ 12 ∧ c.requestSize = 2 ^ k) ∧ c.requestBase.toNat + 32 * c.requestSize ≤ 2 ^ 32
  | 3 => 16 ∣ c.completionBase.toNat
  | 4 => 16 ≤ c.completionSize ∧ c.completionSize ≤ 4096 ∧ c.completionBase.toNat + 16 * c.completionSize ≤ 2 ^ 32
  | 5 => 16 ∣ c.bufferBase.toNat
  | 6 => 8 ≤ c.bufferSize ∧ c.bufferSize ≤ 1024 ∧ c.bufferBase.toNat + 16 * c.bufferSize ≤ 2 ^ 32
  | 7 => c.rateCode ≤ 7
  | 8 => 1 ≤ c.inFlightLimit ∧ c.inFlightLimit ≤ 4
  | 9 => 1 ≤ c.attemptLimit ∧ c.attemptLimit ≤ 15
  | 10 => c.waitLimit ≤ 254
  | 11 => 1 ≤ c.fetchDelay ∧ c.fetchDelay ≤ 255
  | 12 => 1 ≤ c.silentThreshold ∧ c.silentThreshold ≤ 15
  | 13 => c.sweepInterval ≤ 1000
  | 14 => 1 ≤ c.sweepBudget ∧ c.sweepBudget ≤ 8
  | 15 => 100 ≤ c.callInterval ∧ c.callInterval ≤ 60000
  | 16 => 16 ≤ c.returnMargin ∧ c.returnMargin ≤ 4096
  | 17 => 1 ≤ c.settleTime ∧ c.settleTime ≤ 255
  | 18 => 256 ≤ c.probeLimit ∧ c.probeLimit ≤ 65535
  | _ => True

/-- The request kind of a kind octet (spec 10, section 10.4). -/
def kindNamed (o : Octet) : Option RequestKind :=
  if o = 0x01 then some .exchange else if o = 0x02 then some .post else if o = 0x03 then some .admission
  else if o = 0x04 then some .expel else if o = 0x05 then some .setStation else if o = 0x06 then some .flush
  else if o = 0x10 then some .groupPost else if o = 0x11 then some .query else if o = 0x12 then some .sweepNow
  else if o = 0x13 then some .callNow else none

/-- The address fits the kind (R141, test 3). -/
def addressOk (k : RequestKind) (n : Nat) : Prop :=
  match k with
  | .exchange | .post | .admission | .expel | .setStation | .flush => 1 ≤ n ∧ n ≤ 32
  | .groupPost => (48 ≤ n ∧ n ≤ 55) ∨ n = 63
  | .query | .sweepNow | .callNow => True

/-- A pool entry right after placement: the fields R142's table marks as used for the kind, the starting values of R145, and
the time of placement. -/
def placedEntry (k : RequestKind) (r : RequestRecord) (c : Configuration) (now : Nat) : PoolEntry :=
  let payload := k = .exchange ∨ k = .post ∨ k = .groupPost
  let response := k = .exchange ∨ k = .query
  let control := k = .groupPost ∨ k = .query ∨ k = .sweepNow ∨ k = .callNow
  { kind := k, tag := r.tag,
    address := if k = .query ∨ k = .sweepNow ∨ k = .callNow then 0 else r.address,
    payloadAddress := if payload then r.payloadAddress else 0,
    payloadLength := if payload then r.payloadLength else 0,
    responseAddress := if response then r.responseAddress else 0,
    responseCapacity := if response then r.responseCapacity else 0,
    attemptLimit := if k = .exchange ∨ k = .post then (if r.attemptLimit = 0 then c.attemptLimit else r.attemptLimit) else 0,
    deadline := if control ∨ r.deadline = 0 then none else some r.deadline,
    weight := if k = .setStation then r.weight else 0,
    groups := if k = .setStation then r.groups else 0,
    placedAt := now, phase := .queued, attempts := 0, waits := 0, toggleUsed := none,
    nextFrame := if k = .exchange then some .data else if k = .post then some .post else none,
    cancelMark := false, expiryMark := false, lastOutcome := none, payload := [], expectedCount := none,
    cancelledCount := 0, fetchTimer := .stopped, readStarted := false, readFaulted := false, joinReset := false,
    takenUp := false, response := none }

end Sys2Proof.Machine
end

