-- ==== Sys2Proof/Certificates/Slice0/Obligations.lean ====
section
/-! DEFINITION. The statements about the LH32 that the provers prove. Each docstring names the rules of spec/ it formalises. -/

open Sys2Proof Sys2Proof.Machine

/-! ## The step -/

/-- A step runs the command at the front of the queue on the state with the queue's rest. -/
def Obligations.StepRunsFrontCommand : Prop :=
  ∀ (c : Instr) (rest : List Instr) (s : State), s.pending = c :: rest → step s = exec c { s with pending := rest }

/-- On an empty queue one octet time passes (R1, R2, R15, R16, R18, R24, R207), and no unit's state changes. LOOP-OUT carries the quiet
level in power-on reset, ABORT after a reset that cut an element short, the next symbol of the element being sent, the first symbol
of the oldest waiting element when none is being sent, or FILL. The receiver takes what LOOP-IN brings, a coding violation where
nothing does, and is held in SEEK in QUIET and BROKEN. The pins RESET# and VDD have the levels this octet time brings, or those they
had; while either holds the part in power-on reset its 1 ms does not run, and it begins when both let go. Queued are POWER_ON_RESET
when a pin begins to hold the part, the expiries counted in octet times, then ELEMENT_BEGIN and SEND_END, then what the receiver
delivered, then the expiries counted on REFCLK. That the idle step is one octet time, and the order of what it queues, are the model's
choice (log entry 3), and that the pins are taken once an octet time (log entry 25). -/
def Obligations.IdleStepPassesOneOctetTime : Prop :=
  ∀ s : State, s.pending = [] → ∃ t passed sent expired, step s = .next t ∧
    t.clock = { cycles := s.clock.cycles + 256 / 2 ^ s.hp.rate, octets := s.clock.octets + 1 } ∧
    t.ri = s.ri ∧ t.rp = s.rp ∧ t.st = s.st ∧ t.sc = s.sc ∧ t.ls = s.ls ∧ t.ru = s.ru ∧ t.cu = s.cu ∧
    t.choices = s.choices ∧ t.lineIn = s.lineIn.tail ∧ t.pinsIn = s.pinsIn.tail ∧
    t.hp = { s.hp with pins := s.pinsIn.head?.getD s.hp.pins, resetHold := t.hp.resetHold } ∧
    (t.hp.pins.released = false → t.hp.resetHold = none) ∧
    (t.hp.pins.released = true →
      t.hp.resetHold = if s.hp.pins.released then s.hp.resetHold else some (t.clock.cycles + 16000)) ∧
    (t.hp.powerOnReset = true → t.tx = { s.tx with line := .quiet }) ∧
    (t.hp.powerOnReset = false → s.tx.abortNext = true →
      t.tx = { s.tx with line := .symbol (.control .abort), abortNext := false }) ∧
    (t.hp.powerOnReset = false → s.tx.abortNext = false →
      (∀ x y left, s.tx.sending = some x → x.left = y :: left →
        t.tx = { s.tx with line := .symbol y, sending := some { id := x.id, left := left } }) ∧
      (∀ x rest y left, s.tx.sending = none → s.tx.waiting = x :: rest → x.run = y :: left →
        t.tx = { s.tx with line := .symbol y, sending := some { id := x.id, left := left } }) ∧
      ((∀ x, s.tx.sending = some x → x.left = []) → (s.tx.sending = none → s.tx.waiting = []) →
        t.tx = { s.tx with line := .symbol (.control .fill) })) ∧
    (let heard := receive t.clock.octets s.rx (s.lineIn.head?.getD .violation)
     t.rx = (if s.ls.state = .quiet ∨ s.ls.state = .broken then .seek else heard.1) ∧
     t.pending = (if s.hp.pins.released ∧ t.hp.pins.released = false then [.powerOnReset] else []) ++ passed ++ sent ++
       (if s.ls.state = .quiet ∨ s.ls.state = .broken then [] else heard.2.map commandOf) ++ expired) ∧
    (passed ++ expired).Nodup ∧ (∀ c, c ∈ passed ↔ OctetExpiry s t.clock.octets c) ∧
    (∀ c, c ∈ expired ↔ CycleExpiry t t.clock.cycles c) ∧
    sent.Sublist [.elementBegin, .sendEnd t.clock.octets] ∧
    (.elementBegin ∈ sent ↔ ∃ x y rest, t.tx.sending = some x ∧ t.tx.waiting = y :: rest ∧ x.id = y.id) ∧
    (.sendEnd t.clock.octets ∈ sent ↔ ∃ x, t.tx.sending = some x ∧ x.left = [])

/-- Every command takes the machine to a next state, and leaves the commands that wait behind it, what is still to arrive on LOOP-IN
and on the pins, and the clock as they were: time passes on the idle step alone (the model's choice, log entry 6). -/
def Obligations.CommandsLeaveTheQueueAlone : Prop :=
  ∀ (c : Instr) (s : State), ∃ t, exec c s = .next t ∧ t.pending = s.pending ∧ t.lineIn = s.lineIn ∧ t.pinsIn = s.pinsIn ∧
    t.clock = s.clock

/-- The values after reset that the rules state (R2, R11, R17, R25, R49, R63, R100, R118, R136, R144, R147, R157, R164, R175, R177,
R184, R195), with every register reading 0 (R178): among them no element waiting for the transmitter or being sent (R118, R17), and in
the completion unit no record write in progress and no held raise (R157, R177). -/
def Obligations.ResetValues : Prop :=
  State.reset.hp.engine = .off ∧ State.reset.hp.faultCode = .noFault ∧ State.reset.hp.badField = 0 ∧
  State.reset.hp.registerError = .noError ∧ State.reset.hp.config = none ∧ State.reset.hp.configAddress = 0 ∧
  State.reset.hp.powerOnReset = false ∧ State.reset.hp.rate = 0 ∧ State.reset.hp.queue = [] ∧ State.reset.hp.bus = none ∧
  State.reset.ls.state = .quiet ∧ State.reset.ls.transit = [] ∧ State.reset.ls.rawDelay = 0 ∧
  State.reset.ls.probeNumber = 0 ∧ State.reset.ls.probeTimer = none ∧ State.reset.ls.settleTimer = none ∧
  State.reset.rx = .seek ∧ State.reset.tx.line = .symbol (.control .fill) ∧
  State.reset.tx.waiting = [] ∧ State.reset.tx.sending = none ∧ State.reset.tx.abortNext = false ∧
  (∀ a, station State.reset a =
    { state := .vacant, position := none, commandToggle := false, reportToggle := none, groups := 0, weight := 1,
      outstanding := none, failures := 0 }) ∧
  State.reset.st.loopMap = [] ∧
  State.reset.ru.cache = [] ∧ State.reset.ru.head = 0 ∧ (∀ a : Addr, State.reset.ru.acks[a] = none) ∧
  State.reset.ru.sweep = none ∧
  stationNumber State.reset.sc.cursor = 1 ∧ (∀ a : Addr, State.reset.sc.turns[a] = 0) ∧
  State.reset.sc.sweepTimer = none ∧ State.reset.sc.sweepDue = false ∧ State.reset.sc.callTimer = none ∧
  State.reset.sc.callDue = false ∧ (∀ a, headTimer State.reset a = .stopped) ∧
  State.reset.ri = { head := 0, tail := 0, held := none, reading := false } ∧
  (∀ p, entry State.reset p = none) ∧ (∀ l, listOf State.reset l = []) ∧
  State.reset.ru.reports = [] ∧ State.reset.ru.writing = false ∧ State.reset.ru.reading = false ∧ State.reset.hp.bufferTail = 0 ∧
  State.reset.cu.write = none ∧ State.reset.cu.heldRaises = [] ∧
  State.reset.cu.queue = [] ∧ State.reset.cu.reserved = 0 ∧ State.reset.cu.tail = 0 ∧ State.reset.cu.phase = true ∧
  State.reset.cu.occupancy = 0 ∧ State.reset.cu.head = 0 ∧
  State.reset.cu.pendingCauses = { completion := false, engine := false, regError := false } ∧
  State.reset.cu.enabled = { completion := false, engine := false, regError := false } ∧
  (∀ r, readRegister r State.reset = 0)

/-- The state after reset has every invariant that a step is stated to keep. -/
def Obligations.ResetHasTheInvariants : Prop :=
  LoopInv State.reset ∧ RingInv State.reset ∧ PoolOk State.reset ∧ StationsOk State.reset ∧ NoticesOk State.reset ∧
  BusOk State.reset ∧ SlotInv State.reset

/-! ## Invariants that every step keeps -/

/-- What the transit list holds in each loop state, the in-flight limit, and the place of a closing element (spec 02, section 2.1;
R32). -/
def Obligations.StepKeepsLoopInv : Prop := ∀ s t : State, LoopInv s → step s = .next t → LoopInv t

/-- Every ring index lies in its ring, the occupancy never exceeds the ring size (R164), and OFF and STARTING make no access but the
configuration read (R197). -/
def Obligations.StepKeepsRingInv : Prop := ∀ s t : State, RingInv s → step s = .next t → RingInv t

/-- Pool and lists agree (R144, R147). -/
def Obligations.StepKeepsPool : Prop := ∀ s t : State, PoolOk s → step s = .next t → PoolOk t

/-- The ranges of the station table, the loop map and the positions, the turn counts and the raw loop delay (R25, R49, R59,
R118). -/
def Obligations.StepKeepsStations : Prop := ∀ s t : State, StationsOk s → step s = .next t → StationsOk t

/-- R158 and R159. The holding queue never holds more than one unposted notice of each kind. The general slots, occupied and reserved,
never exceed 13; this stands on the slot invariant, which every step keeps with it: each element in transit carries the slots it may
use, what the work under way needs is reserved, and each request that was sent or taken up stands at the head of its list. Notices
and general slots together, occupied and reserved, are then at most 16. -/
def Obligations.StepKeepsNotices : Prop :=
  (∀ s t : State, NoticesOk s → step s = .next t → NoticesOk t) ∧
  (∀ s t : State, SlotInv s → step s = .next t → SlotInv t) ∧
  (∀ s : State, NoticesOk s → SlotInv s → s.cu.queue.length + s.cu.reserved ≤ 16)

/-- The bus does not stand free while an access waits that may begin (R195, R197). -/
def Obligations.StepKeepsBus : Prop := ∀ s t : State, BusOk s → step s = .next t → BusOk t

/-! ## What no command does -/

/-- While the engine is OFF or FAULTED, no command but START begins a master access: whatever is on the bus afterwards was begun
before (R191, R197, R198). -/
def Obligations.NoAccessBegunInOffOrFaulted : Prop :=
  ∀ (c : Instr) (s t : State), s.hp.engine = .off ∨ s.hp.engine = .faulted → c ≠ .start → exec c s = .next t →
    ∀ b, t.hp.bus = some b → ∃ b', s.hp.bus = some b' ∧ b'.begunAt = b.begunAt ∧ b'.access.kind = b.access.kind

/-- While the engine is not RUNNING, no command hands an element to the transmitter, but a START and the end of a configuration
read, which enter RUNNING (R26, R119, R135). -/
def Obligations.NoHandOverOutsideRunning : Prop :=
  ∀ (c : Instr) (s t : State), EngineLoopOk s → s.hp.engine ≠ .running → c ≠ .start →
    (∀ octets, c ≠ .configurationReadComplete octets) → exec c s = .next t →
    ∀ x ∈ t.tx.waiting, x ∈ s.tx.waiting

/-! ## The line -/

/-- What a frame is on the line, and what the receiver makes of it, delivered at its return end with its return span (R3 to R7, R19 to
R21, R23, R24, R202; spec 10, section 10.8). A head frame is OPEN, address, kind (01h DATA to 05h REST), toggle, length, payload, the
check over these, high octet first, CLOSE, and a trailer 00h, 00h; a drop frame ends at its CLOSE. The check is the CRC of generator
8005h and preset FFFFh, most significant bit first; four octets 00h have the check 00h 24h. A head frame with a correct check comes with every field, and with the outcome and copy count its trailer returns,
of 0 to 32; a RESPONSE or REPORT with source, toggle and payload. A frame is delivered damaged at its end with a wrong check, an
outcome octet above 4 or a copy count above 32; and at the octet that carries an unknown kind, a control octet above 1 or a length
above 240, at a CLOSE before the frame is complete or in its trailer, at a data octet where CLOSE is due, and at a FILL, ABORT,
coding violation, OPEN or marker symbol, where OPEN and the marker symbols begin a new item. In SEEK nothing else begins one. -/
def Obligations.FramesAreReadAsSent : Prop :=
  frameCheck [0x00, 0x00, 0x00, 0x00] = [0x00, 0x24] ∧
  (∀ (now : Nat) (kind : HeadFrame) (address : Octet) (toggle : Toggle) (payload : List Octet), payload.length ≤ 240 →
    let sent := headFrameSymbols address kind toggle payload
    let covered := [address, headKindOctet kind, toggleBit toggle, BitVec.ofNat 8 payload.length] ++ payload
    let check := checkOf covered
    sent = [Symbol.control .opening] ++ (covered ++ [highOctet check, lowOctet check]).map Symbol.data ++
      [Symbol.control .closing, Symbol.data 0x00, Symbol.data 0x00] ∧
    let returned := fun (a b : Octet) => (sent.take (payload.length + 8) ++ [Symbol.data a, Symbol.data b]).map LineInput.symbol
    let span : ReturnSpan := { start := now, stop := now + payload.length + 9 }
    receiveAll now .seek (sent.map .symbol) = (.seek, [{ item := .headFrame kind address toggle payload .noMatch 0, span := span }]) ∧
    (∀ (outcome : TrailerOutcome) (copies : Nat), copies ≤ 32 →
      receiveAll now .seek (returned (BitVec.ofNat 8 (lastOutcomeNumber (lastOutcomeOf outcome))) (BitVec.ofNat 8 copies)) =
        (.seek, [{ item := .headFrame kind address toggle payload outcome copies, span := span }])) ∧
    (∀ a b : Octet, 4 < a.toNat ∨ 32 < b.toNat →
      receiveAll now .seek (returned a b) = (.seek, [{ item := .damagedFrame, span := span }])) ∧
    (∀ (check trailer : List Octet), check.length = 2 → trailer.length = 2 →
      check.map Symbol.data ≠ (sent.drop (payload.length + 5)).take 2 →
      receiveAll now .seek ((sent.take (payload.length + 5) ++ check.map Symbol.data ++ [Symbol.control .closing] ++
        trailer.map Symbol.data).map .symbol) = (.seek, [{ item := .damagedFrame, span := span }]))) ∧
  (∀ (now : Nat) (source kind : Octet) (toggle : Toggle) (payload : List Octet), payload.length ≤ 240 → kind = 0x08 ∨ kind = 0x09 →
    let sent := frameSymbols [source, kind, toggleOctet toggle, octetOf payload.length] payload
    let covered := [source, kind, toggleBit toggle, BitVec.ofNat 8 payload.length] ++ payload
    let check := checkOf covered
    sent = [Symbol.control .opening] ++ (covered ++ [highOctet check, lowOctet check]).map Symbol.data ++ [Symbol.control .closing] ∧
    let span : ReturnSpan := { start := now, stop := now + payload.length + 7 }
    receiveAll now .seek (sent.map .symbol) =
      (.seek, [{ item := if kind = 0x08 then .response source toggle payload else .report source toggle payload, span := span }]) ∧
    (∀ check : List Octet, check.length = 2 → check.map Symbol.data ≠ (sent.drop (payload.length + 5)).take 2 →
      receiveAll now .seek ((sent.take (payload.length + 5) ++ check.map Symbol.data ++ [Symbol.control .closing]).map .symbol) =
        (.seek, [{ item := .damagedFrame, span := span }]))) ∧
  (∀ (now start : Nat) (octets : List Octet) (closed : Bool) (trailer : List Octet),
    let damaged : List Delivery := [{ item := .damagedFrame, span := { start := start, stop := now } }]
    let here := Receiver.frame start octets closed trailer
    (∀ o : Octet, closed = false →
      (octets.length = 1 ∧ o.toNat ∉ [1, 2, 3, 4, 5, 8, 9] ∨ octets.length = 2 ∧ 1 < o.toNat ∨
       octets.length = 3 ∧ 240 < o.toNat ∨ 4 ≤ octets.length ∧ octets.length = 6 + (octets.getD 3 0).toNat) →
      receive now here (.symbol (.data o)) = (.seek, damaged)) ∧
    (closed = true ∨ octets.length < 4 ∨ octets.length ≠ 6 + (octets.getD 3 0).toNat →
      receive now here (.symbol (.control .closing)) = (.seek, damaged)) ∧
    receive now here (.symbol (.control .fill)) = (.seek, damaged) ∧
    receive now here (.symbol (.control .abort)) = (.seek, damaged) ∧ receive now here .violation = (.seek, damaged) ∧
    receive now here (.symbol (.control .opening)) = (.frame now [] false [], damaged) ∧
    receive now here (.symbol (.control .turn)) = (.marker now .turn [], damaged) ∧
    receive now here (.symbol (.control .sweep)) = (.marker now .sweep [], damaged) ∧
    receive now here (.symbol (.control .call)) = (.marker now .call [], damaged) ∧
    receive now here (.symbol (.control .probe)) = (.marker now .probe [], damaged)) ∧
  (∀ (now : Nat) (i : LineInput), (∀ k, k = .opening ∨ k = .turn ∨ k = .sweep ∨ k = .call ∨ k = .probe → i ≠ .symbol (.control k)) →
    receive now .seek i = (.seek, []))

/-- What a marker is on the line, and what the receiver makes of it, delivered at the octet time of its check octet with its return span
(R8 to R11, R14, R19, R22 to R24; spec 10, section 10.9). It is its control symbol, its content, and the low octet of R4's CRC over the
content: TURN with check FFh; SWEEP with budget, pair count, and the address and toggle of each pair; CALL as sent with the count 00h;
PROBE with its echo. Delivered are TURN, SWEEP with budget and pairs, CALL with its entries, PROBE with its echo; with a wrong check octet
the marker is damaged, of its kind. It is damaged at the octet that carries a budget above 8, a pair count or entry count above 32, a
pair's address outside 1 to 32 or a pair's toggle above 1, and at any control symbol or coding violation, where OPEN and the marker
symbols begin a new item. -/
def Obligations.MarkersAreReadAsSent : Prop :=
  (let marker := fun (c : Control) (content : List Octet) =>
     Symbol.control c :: (content.map Symbol.data ++ [Symbol.data (lowOctet (checkOf content))])
   markerSymbols .turn [] = [Symbol.control .turn, Symbol.data 0xFF] ∧ callSymbols = marker .call [0x00] ∧
   (∀ echo, probeSymbols echo = marker .probe [echo]) ∧
   (∀ (budget : Nat) (acks : List AckPair), sweepSymbols budget acks = marker .sweep
     (BitVec.ofNat 8 budget :: BitVec.ofNat 8 acks.length ::
       acks.flatMap (fun x => [BitVec.ofNat 8 (x.address.val + 1), toggleBit x.toggle]))) ∧
   (∀ c content, markerSymbols c content = marker c content)) ∧
  (∀ (now : Nat) (kind : MarkerKind) (sent : List Symbol) (item : Item),
    (kind = .turn ∧ sent = markerSymbols .turn [] ∧ item = .turnMarker ∨
     (∃ (budget : Nat) (acks : List AckPair), budget ≤ 8 ∧ acks.length ≤ 32 ∧ kind = .sweep ∧ sent = sweepSymbols budget acks ∧
       item = .sweepMarker budget acks) ∨
     (∃ entries : List Octet, entries.length ≤ 32 ∧ kind = .call ∧ sent = markerSymbols .call (octetOf entries.length :: entries) ∧
       item = .callMarker (entries.map (fun o => { address := o.setWidth 7, join := o.getLsbD 7 }))) ∨
     ∃ echo : Octet, kind = .probe ∧ sent = probeSymbols echo ∧ item = .probeMarker echo) →
    let span : ReturnSpan := { start := now, stop := now + sent.length - 1 }
    receiveAll now .seek (sent.map .symbol) = (.seek, [{ item := item, span := span }]) ∧
    (∀ check : Octet, sent.getLast? ≠ some (.data check) →
      receiveAll now .seek ((sent.dropLast ++ [Symbol.data check]).map .symbol) =
        (.seek, [{ item := .damagedMarker kind, span := span }]))) ∧
  (∀ (now start : Nat) (kind : MarkerKind) (octets : List Octet),
    let damaged : List Delivery := [{ item := .damagedMarker kind, span := { start := start, stop := now } }]
    let here := Receiver.marker start kind octets
    (∀ o : Octet,
      (kind = .sweep ∧
        (octets.length = 0 ∧ 8 < o.toNat ∨ octets.length = 1 ∧ 32 < o.toNat ∨
         2 ≤ octets.length ∧ octets.length < 2 + 2 * (octets.getD 1 0).toNat ∧
          (octets.length % 2 = 0 ∧ (o.toNat = 0 ∨ 32 < o.toNat) ∨ octets.length % 2 = 1 ∧ 1 < o.toNat)) ∨
       kind = .call ∧ octets.length = 0 ∧ 32 < o.toNat) →
      receive now here (.symbol (.data o)) = (.seek, damaged)) ∧
    (∀ i, i = .violation ∨ i = .symbol (.control .fill) ∨ i = .symbol (.control .abort) ∨ i = .symbol (.control .closing) →
      receive now here i = (.seek, damaged)) ∧
    receive now here (.symbol (.control .opening)) = (.frame now [] false [], damaged) ∧
    receive now here (.symbol (.control .turn)) = (.marker now .turn [], damaged) ∧
    receive now here (.symbol (.control .sweep)) = (.marker now .sweep [], damaged) ∧
    receive now here (.symbol (.control .call)) = (.marker now .call [], damaged) ∧
    receive now here (.symbol (.control .probe)) = (.marker now .probe [], damaged))

/-! ## Commands and registers -/

/-- R179. A word written to CONTROL is START, STOP or RESET by its code, 1, 2 or 3, and BAD_COMMAND by any other. START is taken in OFF
and STOPPED and STOP in RUNNING; in the other states they are refused with WRONG-COMMAND, all other state as it was; RESET is taken in
every state; any other code raises BAD-COMMAND; a read of CONTROL returns the engine state. -/
def Obligations.CommandsByEngineState : Prop :=
  (controlCommand 1 = .start ∧ controlCommand 2 = .stop ∧ controlCommand 3 = .reset ∧
    ∀ word : HostWord, word ≠ 1 → word ≠ 2 → word ≠ 3 → controlCommand word = .badCommand word) ∧
  ∀ s : State, s.hp.powerOnReset = false →
    (s.hp.engine = .off → ∃ t, exec .start s = .next t ∧ t.hp.engine = .starting ∧ t.cu = s.cu) ∧
    (s.hp.engine = .stopped → ∃ t, exec .start s = .next t ∧ t.hp.engine = .running ∧ t.cu = s.cu) ∧
    (s.hp.engine ≠ .off → s.hp.engine ≠ .stopped → exec .start s = .next (afterRegisterError .wrongCommand s)) ∧
    (s.hp.engine = .running → ∃ t, exec .stop s = .next t ∧ (t.hp.engine = .stopping ∨ t.hp.engine = .stopped)) ∧
    (s.hp.engine ≠ .running → exec .stop s = .next (afterRegisterError .wrongCommand s)) ∧
    (∃ t, exec .reset s = .next t ∧ t.hp.engine = .off) ∧
    (∀ word : HostWord, word ≠ 1 → word ≠ 2 → word ≠ 3 →
      exec (.badCommand word) s = .next (afterRegisterError .badCommand s)) ∧
    readRegister .control s = BitVec.ofNat 32 (engineNumber s.hp.engine)

/-- START taken in OFF clears fault code and field, enters STARTING, and asks for one read of the 64 octets at CONFIG ADDRESS; nothing
else changes (R185). START taken in STOPPED enters RUNNING without reading the block (R190): the loop goes to PROBING with the next
probe number (R26) and the sweep timer starts with its full interval (R135). A PAUSED request whose fetch delay has expired is READY
(R91); a held deadline expiry of a head is acted on (R93); a head whose payload was not asked for starts to get it (R75, R148); the
record read and the descriptor read are asked for where their units' conditions hold (R138, R101). Nothing else is asked of the bus,
and the configuration, the rate, the ring indices, the holding queue, the interrupt causes, the stations, every list and the due marks
are kept. The model's readings: the expiry acted on of a head IN-TRANSIT is spent, its timer stopped (log entry 27); an expired PAUSED
head is READY, and an expired head still starts its payload read (log entry 16); a head of payload length 0 waited QUEUED for RUNNING
(log entry 29). -/
def Obligations.StartReadsOrResumes : Prop :=
  (∀ s : State, s.hp.powerOnReset = false → s.hp.engine = .off → ∃ t, exec .start s = .next t ∧
     t = { s with hp := { s.hp with engine := .starting, faultCode := .noFault, badField := 0, bus := t.hp.bus,
                                    queue := t.hp.queue } } ∧
     accesses t = accesses s ++
       [{ kind := .configuration, address := s.hp.configAddress, length := 64, data := [], discarded := false }]) ∧
  (∀ (s : State) (c : Configuration), s.hp.powerOnReset = false → s.hp.engine = .stopped → s.hp.config = some c →
     ∃ t, exec .start s = .next t ∧
     t.hp = { s.hp with engine := .running, bus := t.hp.bus, queue := t.hp.queue } ∧
     t.ls = probeHandedOver s.ls s.tx.nextId ∧ t.tx = withWaiting s.tx (probeSymbols (s.ls.probeNumber + 1)) ∧ t.rx = s.rx ∧
     t.sc = { s.sc with sweepTimer := freshSweepTimer s c, headTimers := t.sc.headTimers } ∧
     t.ri = { s.ri with reading := t.ri.reading } ∧ (∀ l, listOf t l = listOf s l) ∧
     t.ru = { s.ru with reading := t.ru.reading } ∧ t.st = s.st ∧ t.cu = s.cu ∧ OutsideKept s t ∧
     (PoolOk s →
       let readsRecord := s.ri.head ≠ s.ri.tail ∧ s.ri.held = none ∧ s.ri.reading = false
       let readsDescriptor := s.ru.cache.length < 8 ∧ s.ru.head ≠ s.hp.bufferTail ∧ s.ru.reading = false
       (∀ p, entry s p = none → entry t p = none) ∧
       (∀ p q, entry s p = some q → (∀ l, (listOf s l).head? ≠ some p) → entry t p = some (released q)) ∧
       (∀ l p q, IsHead s l p q →
         (payloadStarts .running (resumedHead s l q) → entry t p = some (payloadStarted (resumedHead s l q))) ∧
         (¬payloadStarts .running (resumedHead s l q) → entry t p = some (resumedHead s l q))) ∧
       (∀ a p q, IsHead s (.station a) p q →
         headTimer t a = if headTimer s a = .expired ∧ (released q).phase = .inTransit then .stopped else headTimer s a) ∧
       (∀ a, listOf s (.station a) = [] → headTimer t a = headTimer s a) ∧
       (t.ri.reading = true ↔ s.ri.reading = true ∨ readsRecord) ∧ (t.ru.reading = true ↔ s.ru.reading = true ∨ readsDescriptor) ∧
       ∃ more : List Access, accesses t = accesses s ++ more ∧ more.Nodup ∧
         ∀ x, x ∈ more ↔
           (∃ l p q, IsHead s l p q ∧ payloadStarts .running (resumedHead s l q) ∧ x ∈ payloadReadOf p (resumedHead s l q)) ∨
           readsRecord ∧ x = recordReadAt c s.ri.head ∨ readsDescriptor ∧ x = descriptorReadAt c s.ru.head))

/-- STOP taken in RUNNING: the interval timers stop, and by the loop state and the transit list the loop goes to DRAINING and the
engine to STOPPING, or the loop to QUIET and the engine at once to STOPPED with the ENGINE cause; nothing else changes (R189, R46,
R135). -/
def Obligations.StopDrainsOrStops : Prop :=
  ∀ s : State, s.hp.powerOnReset = false → s.hp.engine = .running → EngineLoopOk s → ∃ t, exec .stop s = .next t ∧
    accesses t = accesses s ∧ t.sc = { s.sc with sweepTimer := none, callTimer := none } ∧
    t.ri = s.ri ∧ t.rp = s.rp ∧ t.st = s.st ∧ t.tx = s.tx ∧ t.ru = s.ru ∧ OutsideKept s t ∧
    (s.ls.state ≠ .broken ∧ s.ls.transit ≠ [] →
      t.hp = { s.hp with engine := .stopping, bus := t.hp.bus, queue := t.hp.queue } ∧
      t.ls = { s.ls with state := .draining } ∧ t.cu = s.cu ∧ t.rx = s.rx) ∧
    (s.ls.state = .broken ∨ s.ls.transit = [] →
      t.hp = { s.hp with engine := .stopped, bus := t.hp.bus, queue := t.hp.queue } ∧
      t.ls = { s.ls with state := .quiet, transit := [], probeTimer := none, settleTimer := none } ∧
      t.cu = { s.cu with pendingCauses := withEngineCause s.cu.pendingCauses } ∧ t.rx = .seek)

/-- A controller reset, in every engine state: every block at its reset values and CONFIG ADDRESS kept; the access on the bus is left
over with its result discarded, and an element being sent is cut short, so that the next octet time carries ABORT, and FILL where none was
(R192, R198, R16, R48); in an octet time in which RESET# or VDD begins to hold the part LOOP-OUT is quiet in its place (R207; log entry 25). That ABORT follows even where the element's last symbol is on the line already is the model's choice (log entry 23). -/
def Obligations.ResetReturnsEveryBlock : Prop :=
  ∀ s : State, s.hp.powerOnReset = false → ∃ t, exec .reset s = .next t ∧
    t.hp = { State.reset.hp with configAddress := s.hp.configAddress,
                                 bus := s.hp.bus.map (fun b => { b with access := { b.access with discarded := true } }) } ∧
    t.ri = State.reset.ri ∧ t.rp = State.reset.rp ∧ t.st = State.reset.st ∧ t.sc = State.reset.sc ∧ t.ls = State.reset.ls ∧
    t.rx = State.reset.rx ∧ t.ru = State.reset.ru ∧ t.cu = State.reset.cu ∧
    t.tx.sending = none ∧ t.tx.waiting = [] ∧
    ((s.pinsIn.head?.getD s.hp.pins).released = true →
      (s.tx.sending ≠ none → (tick t).tx.line = .symbol (.control .abort)) ∧
      (s.tx.sending = none → s.tx.abortNext = false → (tick t).tx.line = .symbol (.control .fill))) ∧
    ((s.pinsIn.head?.getD s.hp.pins).released = false → (tick t).tx.line = .quiet) ∧ OutsideKept s t

/-- Power-on reset leaves the state of a controller reset, with CONFIG ADDRESS 0, no bus cycle and LOOP-OUT at the quiet level, and
RESET# or VDD holds the part in it; while it lasts registers read 0, the interrupt line is deasserted and register writes change nothing. It
does not end, and its 1 ms does not run, in an octet time in which RESET# is low or VDD below its range, whatever the time; the 1 ms, 16000
cycles of the 16 MHz REFCLK, begins in the octet time in which both let go, and when it has passed the transmitter sends FILL and the engine
is as it was left, OFF (R193, R207, R17). That the levels are taken once an octet time is the model's choice (log entry 25), and that an
end ahead of the 1 ms changes nothing its reading (log entry 2). -/
def Obligations.PowerOnReset : Prop :=
  (∀ s : State, ∃ t, exec .powerOnReset s = .next t ∧
    t.hp = { State.reset.hp with pins := t.hp.pins } ∧ t.hp.powerOnReset = true ∧ t.hp.pins.released = false ∧
    t.hp.pins.vddInRange = s.hp.pins.vddInRange ∧ (s.hp.pins.released = false → t.hp.pins = s.hp.pins) ∧
    t.ri = State.reset.ri ∧ t.rp = State.reset.rp ∧
    t.st = State.reset.st ∧ t.sc = State.reset.sc ∧ t.ls = State.reset.ls ∧ t.rx = .seek ∧ t.ru = State.reset.ru ∧
    t.cu = State.reset.cu ∧ t.tx = { State.reset.tx with line := .quiet } ∧ OutsideKept s t) ∧
  (∀ s : State, s.hp.powerOnReset = true →
    (∀ r, readRegister r s = 0) ∧ interruptLine s = false ∧
    (∀ c ∈ [Instr.start, .stop, .reset], exec c s = .next s) ∧
    (∀ word : HostWord, exec (.badCommand word) s = .next s ∧ exec (.configAddressWrite word) s = .next s ∧
      exec (.requestTailWrite word) s = .next s ∧ exec (.bufferTailWrite word) s = .next s ∧
      exec (.completionHeadWrite word) s = .next s ∧ exec (.interruptAcknowledge word) s = .next s ∧
      exec (.interruptEnable word) s = .next s) ∧
    (∀ r bits, exec (.registerWrite r bits) s = .next s)) ∧
  (∀ s : State, (s.pinsIn.head?.getD s.hp.pins).released = false →
    (tick s).hp.powerOnReset = true ∧ (tick s).hp.resetHold = none ∧ (tick s).tx.line = .quiet ∧
    .powerOnResetEnd ∉ (tick s).pending ∧ exec .powerOnResetEnd (tick s) = .next (tick s)) ∧
  (∀ s : State, s.hp.pins.released = false → (s.pinsIn.head?.getD s.hp.pins).released = true →
    (tick s).hp.powerOnReset = true ∧ (tick s).hp.resetHold = some ((tick s).clock.cycles + 16000)) ∧
  (∀ (s : State) (due : Nat), s.hp.pins.released = true → s.hp.resetHold = some due →
    (due ≤ s.clock.cycles → ∃ t, exec .powerOnResetEnd s = .next t ∧ t.hp.powerOnReset = false ∧
      t = { s with hp := { s.hp with resetHold := none }, tx := { s.tx with line := .symbol (.control .fill) } }) ∧
    (s.clock.cycles < due → exec .powerOnResetEnd s = .next s)) ∧
  (∀ s : State, s.hp.powerOnReset = false ∨ s.hp.pins.released = false → exec .powerOnResetEnd s = .next s)

/-- CONFIG ADDRESS takes a multiple of 8 in every engine state but STARTING; any other value is ignored with CONFIG-ALIGN, and any
value in STARTING with CONFIG-BUSY (R181, R183); that a value that is no multiple of 8 raises CONFIG-BUSY there, and not CONFIG-ALIGN, is the model's
choice (log entry 33). The value taken is the address that the next START taken in OFF reads, and has no other effect; a START
in STOPPED asks for no configuration read. It is 0 after power-on reset and keeps its value through a controller reset. -/
def Obligations.ConfigAddressWrites : Prop :=
  (∀ (s : State) (v : HostWord), s.hp.powerOnReset = false →
    (s.hp.engine = .starting → exec (.configAddressWrite v) s = .next (afterRegisterError .configBusy s)) ∧
    (s.hp.engine ≠ .starting → v.toNat % 8 ≠ 0 → exec (.configAddressWrite v) s = .next (afterRegisterError .configAlign s)) ∧
    (s.hp.engine ≠ .starting → v.toNat % 8 = 0 →
      exec (.configAddressWrite v) s = .next { s with hp := { s.hp with configAddress := v } }) ∧
    (s.hp.engine = .off → ∃ t, exec .start s = .next t ∧ ∃ x, accesses t = accesses s ++ [x] ∧ x.kind = .configuration ∧
      x.address = s.hp.configAddress) ∧
    (s.hp.engine = .stopped → ∃ t, exec .start s = .next t ∧ t.hp.configAddress = s.hp.configAddress ∧
      ∀ x ∈ accesses t, x.kind = .configuration → x ∈ accesses s) ∧
    (∃ t, exec .reset s = .next t ∧ t.hp.configAddress = s.hp.configAddress)) ∧
  (∀ s : State, ∃ t, exec .powerOnReset s = .next t ∧ t.hp.configAddress = 0)

/-- REQUEST TAIL and BUFFER TAIL: refused with RINGS-UNSET in OFF and STARTING and with the register's range error from the ring size
on; otherwise the value is taken whole, and a record or descriptor read is asked for at once where the unit's conditions hold together
(R137, R138, R182, R101, R200). A write of fewer than 32 bits to any register is ignored with PARTIAL-WRITE, and a whole word to STATUS or
REQUEST HEAD with READ-ONLY (that a partial write raises no other error is the model's choice, log entry 33); a register error changes nothing but the code and the REG-ERROR cause (R178, R183). Reads: STATUS holds
engine state, loop state, fault code, register-error code and first bad field, by their numbers, in bits 3-0, 7-4, 11-8, 15-12 and
20-16, and 0 above; CONFIG ADDRESS, the two tails and REQUEST HEAD hold the address and the indices (R180, R199, R200; spec 10, 10.2).
The eight registers stand at their offsets in the window: a whole word written there is the register's command, fewer bits a partial
write of it, and a read returns its octets (R178; spec 09, 9.1); that its first octet is the least significant one, that a read past
its end returns those alone, and that nothing answers from offset 20h on, is the model's choice (log entry 32). That a write to INTERRUPT is two commands, the acknowledge
and then the enable, is the model's reading (log entry 8). -/
def Obligations.RingTailAndRefusedWrites : Prop :=
  (∀ (s : State) (v : HostWord), s.hp.powerOnReset = false →
     (s.hp.engine = .off ∨ s.hp.engine = .starting →
       exec (.requestTailWrite v) s = .next (afterRegisterError .ringsUnset s) ∧
       exec (.bufferTailWrite v) s = .next (afterRegisterError .ringsUnset s)) ∧
     (s.hp.engine ≠ .off → s.hp.engine ≠ .starting → ∀ c, s.hp.config = some c →
       (c.requestSize ≤ v.toNat → exec (.requestTailWrite v) s = .next (afterRegisterError .requestTailRange s)) ∧
       (c.bufferSize ≤ v.toNat → exec (.bufferTailWrite v) s = .next (afterRegisterError .bufferTailRange s)) ∧
       (v.toNat < c.requestSize → ∃ t, exec (.requestTailWrite v) s = .next t ∧
         let reads := s.hp.engine = .running ∧ s.ri.head ≠ v.toNat ∧ s.ri.held = none ∧ s.ri.reading = false
         t = { s with ri := { s.ri with tail := v.toNat, reading := t.ri.reading }
                      hp := { s.hp with bus := t.hp.bus, queue := t.hp.queue } } ∧
         (reads → t.ri.reading = true ∧ accesses t = accesses s ++ [recordReadAt c s.ri.head]) ∧
         (¬reads → t.ri.reading = s.ri.reading ∧ accesses t = accesses s)) ∧
       (v.toNat < c.bufferSize → ∃ t, exec (.bufferTailWrite v) s = .next t ∧
         let reads := s.hp.engine = .running ∧ s.ru.cache.length < 8 ∧ s.ru.head ≠ v.toNat ∧ s.ru.reading = false
         t = { s with ru := { s.ru with reading := t.ru.reading }
                      hp := { s.hp with bufferTail := v.toNat, bus := t.hp.bus, queue := t.hp.queue } } ∧
         (reads → t.ru.reading = true ∧ accesses t = accesses s ++ [descriptorReadAt c s.ru.head]) ∧
         (¬reads → t.ru.reading = s.ru.reading ∧ accesses t = accesses s)))) ∧
  (∀ s : State, s.hp.powerOnReset = false →
     (∀ r bits, 1 ≤ bits → bits < 32 → exec (.registerWrite r bits) s = .next (afterRegisterError .partialWrite s)) ∧
     exec (.registerWrite .status 32) s = .next (afterRegisterError .readOnly s) ∧
     exec (.registerWrite .requestHead 32) s = .next (afterRegisterError .readOnly s)) ∧
  (∀ s : State, s.hp.powerOnReset = false →
     (s.hp.badField ≤ 18 →
       let status := (readRegister .status s).toNat
       status % 16 = engineNumber s.hp.engine ∧ status / 16 % 16 = loopNumber s.ls.state ∧
       status / 256 % 16 = faultNumber s.hp.faultCode ∧ status / 4096 % 16 = registerErrorNumber s.hp.registerError ∧
       status / 65536 = s.hp.badField) ∧
     readRegister .configAddress s = s.hp.configAddress ∧ readRegister .requestTail s = BitVec.ofNat 32 s.ri.tail ∧
     readRegister .requestHead s = BitVec.ofNat 32 s.ri.head ∧ readRegister .bufferTail s = BitVec.ofNat 32 s.hp.bufferTail) ∧
  (∀ (r : Register) (offset : Nat),
     r = .control ∧ offset = 0x00 ∨ r = .status ∧ offset = 0x04 ∨ r = .configAddress ∧ offset = 0x08 ∨
     r = .requestTail ∧ offset = 0x0C ∨ r = .requestHead ∧ offset = 0x10 ∨ r = .bufferTail ∧ offset = 0x14 ∨
     r = .completionHead ∧ offset = 0x18 ∨ r = .interrupt ∧ offset = 0x1C →
     (∀ word, windowWrite offset 32 word = registerCommands r word) ∧
     (∀ i bits word, i < 4 → 1 ≤ bits → bits < 32 → windowWrite (offset + i) bits word = [.registerWrite r bits]) ∧
     (∀ i n s, i < 4 → readWindow (offset + i) n s =
       (List.range (min n (4 - i))).map (fun j => BitVec.ofNat 8 ((readRegister r s).toNat / 256 ^ (i + j))))) ∧
  (∀ word : HostWord, registerCommands .configAddress word = [.configAddressWrite word] ∧
     registerCommands .requestTail word = [.requestTailWrite word] ∧ registerCommands .bufferTail word = [.bufferTailWrite word] ∧
     registerCommands .completionHead word = [.completionHeadWrite word] ∧ registerCommands .control word = [controlCommand word] ∧
     registerCommands .interrupt word = [.interruptAcknowledge word, .interruptEnable word] ∧
     (∀ r, r = .status ∨ r = .requestHead → registerCommands r word = [.registerWrite r 32])) ∧
  (∀ offset n word s, 32 ≤ offset → windowWrite offset n word = [] ∧ readWindow offset n s = [])

/-- R168. A COMPLETION HEAD write releases the difference modulo the ring size: from 1 to the occupancy is released and the value taken;
an unchanged value releases the whole ring when it is full and nothing otherwise; a larger release, and a value of the ring size or more, are
ignored with a register error; in OFF and STARTING the write is refused. In FAULTED a release is taken and posting does not restart; the
register reads back the last value taken. -/
def Obligations.CompletionHeadWrites : Prop :=
  ∀ (s : State) (v : HostWord), s.hp.powerOnReset = false →
    readRegister .completionHead s = BitVec.ofNat 32 s.cu.head ∧
    (s.hp.engine = .faulted → exec .post s = .next s) ∧
    (s.hp.engine = .off ∨ s.hp.engine = .starting →
      exec (.completionHeadWrite v) s = .next (afterRegisterError .ringsUnset s)) ∧
    (s.hp.engine ≠ .off → s.hp.engine ≠ .starting → ∀ c, s.hp.config = some c →
      (c.completionSize ≤ v.toNat → exec (.completionHeadWrite v) s = .next (afterRegisterError .completionHeadRange s)) ∧
      (v.toNat < c.completionSize → s.cu.head < c.completionSize → ∀ n : Nat,
        (n : Int) = ((v.toNat : Int) - s.cu.head) % c.completionSize →
        (1 ≤ n → n ≤ s.cu.occupancy → exec (.completionHeadWrite v) s =
          .next { s with cu := { s.cu with occupancy := s.cu.occupancy - n, head := v.toNat } }) ∧
        (n = 0 → s.cu.occupancy = c.completionSize → exec (.completionHeadWrite v) s =
          .next { s with cu := { s.cu with occupancy := 0 } }) ∧
        (n = 0 → s.cu.occupancy < c.completionSize → exec (.completionHeadWrite v) s = .next s) ∧
        (s.cu.occupancy < n → exec (.completionHeadWrite v) s = .next (afterRegisterError .overRelease s))))

/-- R174. An INTERRUPT write clears each pending cause named in bits 2–0 and replaces the enable set with bits 10–8; a read returns both
sets; the line is asserted while a cause is both pending and enabled. -/
def Obligations.InterruptWrites : Prop :=
  ∀ (s : State) (w : HostWord), s.hp.powerOnReset = false →
    exec (.interruptAcknowledge w) s = .next { s with cu := { s.cu with pendingCauses :=
      { completion := s.cu.pendingCauses.completion && !w.getLsbD 0, engine := s.cu.pendingCauses.engine && !w.getLsbD 1,
        regError := s.cu.pendingCauses.regError && !w.getLsbD 2 } } } ∧
    exec (.interruptEnable w) s = .next { s with cu := { s.cu with enabled :=
      { completion := w.getLsbD 8, engine := w.getLsbD 9, regError := w.getLsbD 10 } } } ∧
    (∀ i, (readRegister .interrupt s).getLsbD i =
      (match i with
       | 0 => s.cu.pendingCauses.completion | 1 => s.cu.pendingCauses.engine | 2 => s.cu.pendingCauses.regError
       | 8 => s.cu.enabled.completion | 9 => s.cu.enabled.engine | 10 => s.cu.enabled.regError
       | _ => false)) ∧
    (interruptLine s = true ↔
      (s.cu.pendingCauses.completion = true ∧ s.cu.enabled.completion = true) ∨
      (s.cu.pendingCauses.engine = true ∧ s.cu.enabled.engine = true) ∨
      (s.cu.pendingCauses.regError = true ∧ s.cu.enabled.regError = true))

/-! ## The configuration block -/

/-- R186. A configuration read that completes is judged by its eighteen fields, at their offsets (spec 10, section 10.3): the first, in
field-number order, whose value is not accepted decides, and the start fails with its number; with every field accepted the values are taken. -/
def Obligations.ConfigurationJudged : Prop :=
  (∀ c : Configuration,
    (∀ n, badConfigurationField c = some n ↔
      1 ≤ n ∧ n ≤ 18 ∧ ¬fieldAccepted c n ∧ ∀ m, 1 ≤ m → m < n → fieldAccepted c m) ∧
    (badConfigurationField c = none ↔ ∀ m, 1 ≤ m → m ≤ 18 → fieldAccepted c m)) ∧
  (∀ o : List Octet, configurationOf o =
    { requestBase := leWord o 0x00, requestSize := leHalf o 0x0C, completionBase := leWord o 0x04,
      completionSize := leHalf o 0x0E, bufferBase := leWord o 0x08, bufferSize := leHalf o 0x10,
      rateCode := (o.getD 0x12 0).toNat, inFlightLimit := (o.getD 0x13 0).toNat, attemptLimit := (o.getD 0x14 0).toNat,
      waitLimit := (o.getD 0x15 0).toNat, fetchDelay := (o.getD 0x16 0).toNat, silentThreshold := (o.getD 0x17 0).toNat,
      sweepInterval := leHalf o 0x18, sweepBudget := (o.getD 0x1A 0).toNat, callInterval := leHalf o 0x1C,
      returnMargin := leHalf o 0x1E, settleTime := (o.getD 0x20 0).toNat, probeLimit := leHalf o 0x22 }) ∧
  (∀ (s : State) (octets : List Octet), s.hp.engine = .starting → OnBus s .configuration → octets.length = 64 →
    (∀ b, s.hp.bus = some b → b.access.length = 64) → ∃ t, exec (.configurationReadComplete octets) s = .next t ∧
    (∀ n, badConfigurationField (configurationOf octets) = some n → t.hp.faultCode = .configRange ∧ t.hp.badField = n) ∧
    (badConfigurationField (configurationOf octets) = none → t.hp.config = some (configurationOf octets)))

/-- The configuration read completes in STARTING. With every field accepted the engine enters RUNNING, the eighteen values are loaded, the
rate takes effect, every ring index is 0 and the phase 1, the sweep timer starts, and the first PROBE is handed over; with a field that
fails the engine returns to OFF with CONFIG-RANGE and the field's number, and with a faulted read with CONFIG-READ and 0, the ENGINE cause
pending and nothing else changed (R187, R188). -/
def Obligations.ConfigurationReadEnds : Prop :=
  ∀ s : State, s.hp.engine = .starting → OnBus s .configuration →
    (∀ octets, (∀ b, s.hp.bus = some b → octets.length = b.access.length) →
      (badConfigurationField (configurationOf octets) = none →
        ∃ t, exec (.configurationReadComplete octets) s = .next t ∧
        let c := configurationOf octets
        t.hp = { s.hp with engine := .running, config := some c, rate := c.rateCode, bufferTail := 0, bus := t.hp.bus,
                           queue := t.hp.queue } ∧
        accesses t = s.hp.queue ∧
        t.ri = { s.ri with head := 0, tail := 0 } ∧ t.ru = { s.ru with head := 0 } ∧
        t.cu = { s.cu with tail := 0, phase := true, occupancy := 0, head := 0 } ∧
        t.sc = { s.sc with sweepTimer := freshSweepTimer s c } ∧
        t.ls = probeHandedOver s.ls s.tx.nextId ∧ t.tx = withWaiting s.tx (probeSymbols (s.ls.probeNumber + 1)) ∧
        t.rp = s.rp ∧ t.st = s.st ∧ t.rx = s.rx ∧ OutsideKept s t) ∧
      (∀ n, badConfigurationField (configurationOf octets) = some n →
        exec (.configurationReadComplete octets) s =
          .next { s with hp := { s.hp with engine := .off, faultCode := .configRange, badField := n, bus := none }
                         cu := { s.cu with pendingCauses := withEngineCause s.cu.pendingCauses } })) ∧
    exec .configurationReadFault s =
      .next { s with hp := { s.hp with engine := .off, faultCode := .configRead, badField := 0, bus := none }
                     cu := { s.cu with pendingCauses := withEngineCause s.cu.pendingCauses } }

/-! ## Request intake -/

/-- R141. The judgment of a held record is the first of the five tests, in order, that fails: flags, kind, address, payload length,
attempt limit; a record that passes them all is valid, of its kind. A record is judged so when its read delivers it. -/
def Obligations.RecordsJudgedInOrder : Prop :=
  (∀ r : RequestRecord,
    (r.flags ≠ 0 → judgeRecord r = .refused .badRequest) ∧
    (r.flags = 0 → kindNamed r.kind = none → judgeRecord r = .refused .badRequest) ∧
    (∀ k, r.flags = 0 → kindNamed r.kind = some k →
      (¬addressOk k r.address.toNat → judgeRecord r = .refused .badAddress) ∧
      (addressOk k r.address.toNat → 240 < r.payloadLength → judgeRecord r = .refused .badLength) ∧
      (addressOk k r.address.toNat → r.payloadLength ≤ 240 → 15 < r.attemptLimit → judgeRecord r = .refused .badLength) ∧
      (addressOk k r.address.toNat → r.payloadLength ≤ 240 → r.attemptLimit ≤ 15 → judgeRecord r = .valid k))) ∧
  (∀ (s : State) (octets : List Octet), OnBus s .requestRecord → (∀ b, s.hp.bus = some b → octets.length = b.access.length) →
    ∃ t r, exec (.requestRecordReadComplete octets) s = .next t ∧
      t.ri.held = some { record := r, judgment := judgeRecord r })

/-- Reads delivered. A request record becomes the held record, with its fields where the format puts them and its judgment made at once,
and the intake head stays. A descriptor joins the cache with the index it was read from, a capacity above 4096 taken as 4096, and the
buffer ring head advances; the next descriptor is asked for when the cache and the ring allow it. Nothing else changes (R138, R140, R101,
R102; spec 10, sections 10.4 and 10.5). -/
def Obligations.RingReadsDelivered : Prop :=
  ∀ (s : State) (octets : List Octet), (∀ b, s.hp.bus = some b → octets.length = b.access.length) →
    (OnBus s .requestRecord → ∃ t r, exec (.requestRecordReadComplete octets) s = .next t ∧
      t = { s with hp := { s.hp with bus := t.hp.bus, queue := t.hp.queue }
                   ri := { s.ri with reading := false, held := some { record := r, judgment := judgeRecord r } } } ∧
      accesses t = s.hp.queue ∧
      r.kind = octets.getD 0x00 0 ∧ r.address = octets.getD 0x01 0 ∧ r.attemptLimit = (octets.getD 0x02 0).toNat ∧
      r.flags = octets.getD 0x03 0 ∧ r.tag = leWord octets 0x04 ∧ r.payloadAddress = leWord octets 0x08 ∧
      r.payloadLength = leHalf octets 0x0C ∧ r.responseCapacity = leHalf octets 0x0E ∧
      r.responseAddress = leWord octets 0x10 ∧ r.deadline = leHalf octets 0x14 ∧
      r.weight = (octets.getD 0x16 0).toNat ∧ r.groups = octets.getD 0x17 0) ∧
    (∀ c, OnBus s .descriptor → s.hp.config = some c → s.ru.head < c.bufferSize →
      ∃ t, exec (.descriptorReadComplete octets) s = .next t ∧
      let next := (s.ru.head + 1) % c.bufferSize
      let reads := s.hp.engine = .running ∧ s.ru.cache.length < 7 ∧ next ≠ s.hp.bufferTail
      t = { s with hp := { s.hp with bus := t.hp.bus, queue := t.hp.queue }
                   ru := { s.ru with reading := t.ru.reading, head := next, cache := s.ru.cache ++
                     [{ index := s.ru.head, address := leWord octets 0x00, capacity := min 4096 (leHalf octets 0x04) }] } } ∧
      (reads → t.ru.reading = true ∧ accesses t = s.hp.queue ++
        [{ kind := .descriptor, address := c.bufferBase + BitVec.ofNat 32 (16 * next), length := 16, data := [],
           discarded := false }]) ∧
      (¬reads → t.ru.reading = false ∧ accesses t = s.hp.queue))

/-- A valid held record other than a FLUSH is placed when the engine is RUNNING and an entry is free: the entry holds the fields its kind
uses and the starting values, it stands at the tail of its list, the record is no longer held, the intake head advances by 1 with the
wrap, and no other request changes. In an empty list it becomes head: its payload read is asked for, or with no payload octet, or being
of another kind, it is READY, and its head deadline timer is armed; behind others it is QUEUED and nothing is asked for it. With all 64
entries allocated nothing happens (R145, R142, R146 to R150, R75, R140). The placement of a FLUSH marks the requests of its station's
list that carry no cancel mark and are not the outstanding request, counts them into the FLUSH, and appends the FLUSH at the tail
(R152, R70). Which free entry is taken, and the address 0 held for a QUERY, SWEEP-NOW or CALL-NOW, are the model's choices (log entries 4
and 11). A head whose deadline has expired still starts its payload read, and a head of payload length 0 under a cancel mark stays QUEUED:
the model's readings (log entries 16 and 29). -/
def Obligations.PlacementFillsAnEntry : Prop :=
  (∀ (s : State) (named : PoolIx) (r : RequestRecord) (k : RequestKind) (c : Configuration),
     s.hp.engine = .running → s.hp.config = some c → s.ri.head < c.requestSize →
     s.ri.held = some { record := r, judgment := .valid k } →
     let placed := placedEntry k r c s.clock.cycles
     let l := listFor k placed.address
     let next := (s.ri.head + 1) % c.requestSize
     let reads := next ≠ s.ri.tail ∧ s.ri.reading = false
     ((∀ p, entry s p ≠ none) → exec (.placement named) s = .next s) ∧
     (k ≠ .flush → (∃ p, entry s p = none) → ∃ t p more acc, exec (.placement named) s = .next t ∧
       entry s p = none ∧ (entry s named = none → p = named) ∧
       listOf t l = listOf s l ++ [p] ∧ (∀ m, m ≠ l → listOf t m = listOf s m) ∧ (∀ q, q ≠ p → entry t q = entry s q) ∧
       (listOf s l = [] → BecomesHead s t l p placed more) ∧
       (listOf s l ≠ [] → entry t p = some placed ∧ more = [] ∧ t.sc = s.sc) ∧
       (∀ a, .station a ≠ l → headTimer t a = headTimer s a) ∧
       accesses t = accesses s ++ acc ∧ (reads → acc.Perm (more ++ [recordReadAt c next])) ∧ (¬reads → acc = more) ∧
       t.ri = { s.ri with held := none, head := next, reading := t.ri.reading } ∧
       (t.ri.reading = true ↔ s.ri.reading = true ∨ reads) ∧
       HostKept s t ∧ t.st = s.st ∧ t.sc = { s.sc with headTimers := t.sc.headTimers } ∧
       t.ls = s.ls ∧ LineKept s t ∧ t.ru = s.ru ∧ t.cu = s.cu ∧ OutsideKept s t)) ∧
  (∀ (s : State) (named : PoolIx) (r : RequestRecord) (a : Addr) (c : Configuration),
     s.hp.engine = .running → s.hp.config = some c → s.ri.head < c.requestSize →
     s.ri.held = some { record := r, judgment := .valid .flush } → r.address.toNat = a.val + 1 → (∃ p, entry s p = none) →
     let next := (s.ri.head + 1) % c.requestSize
     let marked := fun q => q ∈ listOf s (.station a) ∧ (station s a).outstanding ≠ some q ∧
       ∃ x, entry s q = some x ∧ x.cancelMark = false
     ∃ t p count, exec (.placement named) s = .next t ∧ entry s p = none ∧ (entry s named = none → p = named) ∧
       (∃ marks : List PoolIx, marks.Sublist (listOf s (.station a)) ∧ (∀ q, q ∈ marks ↔ marked q) ∧ count = marks.length) ∧
       (let placed := { placedEntry .flush r c s.clock.cycles with cancelledCount := count }
        (listOf s (.station a) = [] → BecomesHead s t (.station a) p placed []) ∧
        (listOf s (.station a) ≠ [] → entry t p = some placed ∧ t.sc = s.sc)) ∧
       (∀ b, b ≠ a → headTimer t b = headTimer s b) ∧
       (∀ q x, q ≠ p → entry s q = some x → marked q → entry t q = some { x with cancelMark := true }) ∧
       (∀ q, q ≠ p → ¬marked q → entry t q = entry s q) ∧
       listOf t (.station a) = listOf s (.station a) ++ [p] ∧ (∀ l, l ≠ .station a → listOf t l = listOf s l) ∧
       t.ri = { s.ri with held := none, head := next, reading := t.ri.reading } ∧
       (next ≠ s.ri.tail ∧ s.ri.reading = false → t.ri.reading = true ∧ accesses t = accesses s ++ [recordReadAt c next]) ∧
       (¬(next ≠ s.ri.tail ∧ s.ri.reading = false) → t.ri.reading = s.ri.reading ∧ accesses t = accesses s) ∧
       HostKept s t ∧ t.st = s.st ∧ t.sc = { s.sc with headTimers := t.sc.headTimers } ∧ t.ls = s.ls ∧ LineKept s t ∧
       t.ru = s.ru ∧ t.cu = s.cu ∧ OutsideKept s t)

/-- A refused held record is answered when the engine is RUNNING and a slot can be claimed: its record enters the holding queue at the
tail, it is no longer held, and the intake head advances; without a slot nothing happens (R143, R140, R159). -/
def Obligations.RefusalAnswersTheRecord : Prop :=
  ∀ (s : State) (r : RequestRecord) (status : Status) (c : Configuration),
    s.hp.engine = .running → s.hp.config = some c → s.ri.head < c.requestSize →
    s.ri.held = some { record := r, judgment := .refused status } →
    let occupied := (s.cu.queue.filter (fun x => !isNotice x)).length
    (13 ≤ occupied + s.cu.reserved → exec .refusal s = .next s) ∧
    (occupied + s.cu.reserved < 13 → ∃ t, exec .refusal s = .next t ∧
      let next := (s.ri.head + 1) % c.requestSize
      let reads := next ≠ s.ri.tail ∧ s.ri.reading = false
      t = { s with
        hp := { s.hp with bus := t.hp.bus, queue := t.hp.queue }
        ri := { s.ri with held := none, head := next, reading := t.ri.reading }
        cu := { s.cu with queue := s.cu.queue ++
          [{ kind := .done, status := status, address := r.address, attempts := 0, waits := 0, tag := r.tag, length := 0,
             count := 0, stationState := none, lastOutcome := none, last := none }] } } ∧
      (reads → t.ri.reading = true ∧ accesses t = accesses s ++
        [{ kind := .requestRecord, address := c.requestBase + BitVec.ofNat 32 (32 * next), length := 32, data := [],
           discarded := false }]) ∧
      (¬reads → t.ri.reading = s.ri.reading ∧ accesses t = accesses s))

/-! ## Faults of master accesses -/

/-- A request record read, a descriptor read or either part of a record write that faults sends the engine to FAULTED with its fault code
and the ENGINE cause: the list of accesses is dropped and none is on the bus, the interval timers stop, the loop drains or goes to QUIET,
and no ring index, held record, descriptor or ring value changes (R139, R102, R167, R191, R196, R46, R135). A record write that faulted
lets the held raises in, in their order: they update the notice that stayed in the queue (R162); and behind them the held record of a
CALL-NOW (the model's choice, log entries 30 and 31). -/
def Obligations.RingFaultsEnterFaulted : Prop :=
  ∀ (s : State) (k : AccessKind) (code : FaultCode), OnBus s k →
    (k = .requestRecord ∧ code = .requestRead ∨ k = .descriptor ∧ code = .bufferRead ∨
     (k = .recordBody ∨ k = .recordPhase) ∧ code = .completionWrite) →
    ∃ t, exec (faultCommand k) s = .next t ∧
      t.hp = { s.hp with engine := .faulted, faultCode := code, bus := none, queue := [] } ∧
      t.ls.state = drainedTo s.ls.state s.ls.transit.isEmpty ∧
      (t.ls.state = .draining → t.ls.transit = s.ls.transit) ∧ (t.ls.state = .quiet → s.ls.state ≠ .quiet → t.ls.transit = []) ∧
      t.sc.sweepTimer = none ∧ t.sc.callTimer = none ∧ t.sc.sweepDue = s.sc.sweepDue ∧ t.sc.callDue = s.sc.callDue ∧
      t.sc.cursor = s.sc.cursor ∧ t.sc.turns = s.sc.turns ∧
      t.ri.head = s.ri.head ∧ t.ri.tail = s.ri.tail ∧ t.ri.held = s.ri.held ∧ t.ru.head = s.ru.head ∧ t.ru.cache = s.ru.cache ∧
      t.cu.tail = s.cu.tail ∧ t.cu.phase = s.cu.phase ∧ t.cu.occupancy = s.cu.occupancy ∧ t.cu.head = s.cu.head ∧
      t.cu.pendingCauses = withEngineCause s.cu.pendingCauses ∧ t.cu.enabled = s.cu.enabled ∧
      (∀ r ∈ s.cu.queue, isNotice r = false → r ∈ t.cu.queue) ∧
      (k = .recordBody ∨ k = .recordPhase → s.cu.callAnswer = none → s.hp.queue = [] →
        t.cu.queue = queueAfterRaises s.cu.heldRaises s.cu.queue ∧ t.cu.heldRaises = [] ∧ t.cu.write = none) ∧
      (∀ n p q, k = .recordBody ∨ k = .recordPhase → s.cu.callAnswer = some n → s.hp.queue = [] → IsHead s .control p q →
        q.kind = .callNow → t.cu.queue = queueAfterRaises s.cu.heldRaises s.cu.queue ++ [controlRecord q .ok 0 n] ∧
        t.cu.heldRaises = [] ∧ t.cu.callAnswer = none ∧ t.cu.write = none ∧ entry t p = none) ∧
      t.st.loopMap = s.st.loopMap ∧ t.tx = s.tx ∧ OutsideKept s t

/-- What the owners do about the accesses dropped at the entry to FAULTED (R197). A dropped payload read leaves its request where it is, a
dropped response write completes its request HOST-FAULT with the full length, a dropped snapshot write completes its QUERY HOST-FAULT
with length 296, and a dropped record write leaves its record at the head of the queue. A dropped record or descriptor read is no longer
under way, and nothing else follows from it. With a dropped report write every accepted report completes, in order of acceptance,
HOST-FAULT, or by its capacity where it had no octet to write; a SWEEP-NOW that waited for the first of them completes right behind
those (R197, R86, R112, R113, R132, R138, R101, R167, R205, R162). That a report with no octet to write completes OK or TRUNCATED in
FAULTED is the model's reading (log entry 15). A request that becomes head then is as the model reads R75 (log entries 16 and 29).
The last clause is about a list of any length, under any of the four causes: every access is dropped and its owner told. That the owners
act in one order, the access that faulted first and then the list's, oldest first, so that their records enter the queue in that order, is
the model's choice (log entry 30), as is that the record of a CALL-NOW held behind the record write enters when that has ended (log entry
31). -/
def Obligations.FaultedTellsOwnersOfDroppedAccesses : Prop :=
  (∀ (s : State) (k : AccessKind) (x : Access), k = .requestRecord ∨ k = .descriptor → OnBus s k → s.hp.queue = [x] →
    x.discarded = false → ∃ t, exec (faultCommand k) s = .next t ∧ t.hp.engine = .faulted ∧ t.hp.bus = none ∧ t.hp.queue = [] ∧
    (∀ p, x.kind = .payload p → t.cu.queue = s.cu.queue ∧ t.rp = s.rp) ∧
    (∀ p e n a, x.kind = .response p → entry s p = some e → e.response = some n → requestStation e = some a →
      entry t p = none ∧ t.cu.queue = s.cu.queue ++
        [{ kind := .done, status := .hostFault, address := e.address, attempts := e.attempts, waits := waitsField e,
           tag := e.tag, length := n, count := 0, stationState := some (station s a).state, lastOutcome := e.lastOutcome,
           last := e.expectedCount.map octetOf }]) ∧
    (∀ p e, x.kind = .snapshot p → entry s p = some e → e.kind = .query → entry t p = none ∧ t.cu.queue = s.cu.queue ++
        [controlRecord e .hostFault 296 0]) ∧
    (x.kind = .recordBody → s.cu.callAnswer = none →
      t.cu.queue = queueAfterRaises s.cu.heldRaises s.cu.queue ∧ t.cu.heldRaises = [] ∧ t.cu.write = none ∧ t.cu.tail = s.cu.tail ∧ t.cu.occupancy = s.cu.occupancy) ∧
    (x.kind = .requestRecord ∨ x.kind = .descriptor → t.cu.queue = s.cu.queue ∧ t.cu.reserved = s.cu.reserved ∧ t.rp = s.rp ∧
      t.ri = { s.ri with reading := if k = .requestRecord ∨ x.kind = .requestRecord then false else s.ri.reading } ∧
      t.ru = { s.ru with reading := if k = .descriptor ∨ x.kind = .descriptor then false else s.ru.reading }) ∧
    (x.kind = .report →
      let records := s.ru.reports.map (fun r => reportDone s r (faultedStatus r))
      t.ru.reports = [] ∧ t.ru.writing = false ∧ t.ru.cache = s.ru.cache ∧
      (s.ru.decision = none → t.cu.queue = s.cu.queue ++ records ∧ t.cu.reserved = s.cu.reserved - records.length ∧ t.rp = s.rp) ∧
      (∀ d p e, s.ru.decision = some d → 1 ≤ d.after → d.after ≤ records.length → IsHead s .control p e → e.kind = .sweepNow →
        t.cu.queue = s.cu.queue ++ records.take d.after ++ [controlRecord e d.status 0 d.count] ++ records.drop d.after ∧
        entry t p = none ∧ t.ru.decision = none ∧ t.cu.reserved = s.cu.reserved - records.length - 1))) ∧
  (∀ (s : State) (k : AccessKind), k = .requestRecord ∨ k = .descriptor ∨ k = .recordBody ∨ k = .recordPhase → OnBus s k →
    ((accesses s).map (fun x => x.kind)).Nodup → ((accesses s).filter (fun x => isRecordWrite x.kind)).length ≤ 1 →
    (∀ x ∈ accesses s, x.discarded = false → OwnerStands s x) →
    ∃ t, exec (faultCommand k) s = .next t ∧ t.hp.engine = .faulted ∧ t.hp.bus = none ∧ t.hp.queue = [] ∧
    t.cu.queue = (accesses s).foldl (queueAfterDropped s) s.cu.queue ∧
    t.cu.reserved = s.cu.reserved - ((accesses s).flatMap (droppedRecords s)).length ∧
    t.ri = { s.ri with reading := s.ri.reading && !awaitsAccess s .requestRecord } ∧
    t.ru.reading = (s.ru.reading && !awaitsAccess s .descriptor) ∧ t.ru.cache = s.ru.cache ∧ t.ru.head = s.ru.head ∧
    t.ru.reports = (if awaitsAccess s .report then [] else s.ru.reports) ∧
    t.ru.writing = (s.ru.writing && !awaitsAccess s .report) ∧
    (∀ p, awaitsAccess s (.response p) = true ∨ awaitsAccess s (.snapshot p) = true → entry t p = none) ∧
    (awaitsAccess s .recordBody = true ∨ awaitsAccess s .recordPhase = true →
      t.cu.write = none ∧ t.cu.heldRaises = [] ∧ t.cu.callAnswer = none))

/-- An access that has not ended 2 ms after it was begun, 32000 cycles of the 16 MHz reference clock, is ended then, with the effect of
its fault; before that instant nothing happens (R196). An access whose result is discarded, left over from a reset or serving a request
that is gone, ends with no effect but that the bus is freed and the oldest waiting access may begin; and the end of an access that is not
on the bus is no event: nothing changes (R198, R76, R131; that last clause and "before that instant" are the model's reading, log
entry 2). -/
def Obligations.TimeoutsAndDiscardedResults : Prop :=
  (∀ (s : State) (b : BusAccess), s.hp.bus = some b →
     (b.begunAt + 32000 ≤ s.clock.cycles → ∃ t, exec .accessTimeout s = .next t ∧ exec (faultCommand b.access.kind) s = .next t) ∧
     (s.clock.cycles < b.begunAt + 32000 → exec .accessTimeout s = .next s)) ∧
  (∀ (s : State) (c : Instr),
     (∀ b, s.hp.bus = some b → endsKind c b.access.kind = true → b.access.discarded = true →
       (∀ octets, deliveredOctets c = some octets → octets.length = b.access.length) → ∃ t, exec c s = .next t ∧
       t = { s with hp := { s.hp with bus := t.hp.bus, queue := t.hp.queue } } ∧ accesses t = s.hp.queue) ∧
     ((∃ k, endsKind c k = true) → (∀ b, s.hp.bus = some b → endsKind c b.access.kind = false) → exec c s = .next s))

/-! ## Payloads, responses, reports and snapshots -/

/-- A payload read that completes stores its octets and makes the head request READY; one that faults leaves the request waiting for its
HOST-FAULT, the engine state unchanged; neither changes anything else. A request with a cancel mark keeps no payload and stays where it is (R75,
R76, R93, R196). That a request whose head deadline has expired, the engine RUNNING, keeps none either and stays QUEUED, its TIMEOUT not yet
taken, is the model's reading of R76 and R93 (log entry 16). -/
def Obligations.PayloadReadEnds : Prop :=
  ∀ (s : State) (p : PoolIx) (e : PoolEntry) (octets : List Octet), OnBus s (.payload p) → entry s p = some e →
    e.phase = .queued → (∀ b, s.hp.bus = some b → octets.length = b.access.length) →
    (e.cancelMark = false → (∀ a, requestStation e = some a → s.hp.engine = .running → headTimer s a ≠ .expired) →
      ∃ t, exec (.payloadReadComplete octets) s = .next t ∧
      entry t p = some { e with payload := octets, phase := .ready } ∧ PoolKeptBut p s t ∧
      t = { s with hp := { s.hp with bus := t.hp.bus, queue := t.hp.queue }, rp := t.rp } ∧ accesses t = s.hp.queue) ∧
    (e.cancelMark = true ∨ (∃ a, requestStation e = some a ∧ s.hp.engine = .running ∧ headTimer s a = .expired) →
      ∃ t, exec (.payloadReadComplete octets) s = .next t ∧
      t = { s with hp := { s.hp with bus := t.hp.bus, queue := t.hp.queue } } ∧ accesses t = s.hp.queue) ∧
    (e.cancelMark = false → ∃ t, exec .payloadReadFault s = .next t ∧
      entry t p = some { e with readFaulted := true } ∧ PoolKeptBut p s t ∧
      t = { s with hp := { s.hp with bus := t.hp.bus, queue := t.hp.queue }, rp := t.rp } ∧ accesses t = s.hp.queue)

/-- The end of a response write completes the EXCHANGE with the full length of its response: OK when the capacity held it, TRUNCATED when it
did not, HOST-FAULT when the write faulted; the slot reserved for it is used, the station's outstanding link cleared, and the station
otherwise, the loop and the engine state unchanged (R85, R86). The next request becomes head as the model reads R75 (log entries 16 and
29). -/
def Obligations.ResponseWriteEnds : Prop :=
  ∀ (s : State) (p : PoolIx) (e : PoolEntry) (n : Nat) (a : Addr), OnBus s (.response p) → entry s p = some e →
    e.kind = .exchange → requestStation e = some a → e.response = some n → e.expectedCount = none →
    ∀ (c : Instr) (status : Status),
      (c = .responseWriteComplete ∧ n ≤ e.responseCapacity ∧ status = .ok ∨
       c = .responseWriteComplete ∧ e.responseCapacity < n ∧ status = .truncated ∨
       c = .responseWriteFault ∧ status = .hostFault) →
      ∃ t, exec c s = .next t ∧
        Resolves s t (listWithout p s.hp.queue) p e (workRecord e status e.attempts e.waits n (station s a).state e.lastOutcome) ∧
        t.cu.reserved = s.cu.reserved - 1 ∧ t.ls = s.ls ∧ StationsKeptBut a s t ∧
        station t a = { station s a with outstanding := outstandingWithout p (station s a) }

/-- The end of a report write puts the REPORT record of the oldest accepted report into the holding queue: OK or TRUNCATED by the capacity
of its buffer, HOST-FAULT when the write faulted, with the full length, the index of its buffer and its station's state. The reports
accepted after it go on in order: those with no octet to write complete at once, and the write of the first that has one is asked for; in
FAULTED none is made, and they complete HOST-FAULT, but OK or TRUNCATED where they had no octet to write (the model's reading, log entry
15). Each record uses a reserved slot. A SWEEP-NOW decided at the end of the sweep that brought
them completes right after the last record of its sweep, and waits while records of it are still to come (R111 to R113, R205). -/
def Obligations.ReportWriteEnds : Prop :=
  ∀ (s : State) (r : PendingReport) (now later : List PendingReport), OnBus s .report → s.ru.reports = r :: (now ++ later) →
    (s.hp.engine ≠ .faulted ∧ (∀ x ∈ now, nothingToWrite x) ∧ (∀ x more, later = x :: more → ¬nothingToWrite x) ∨
     s.hp.engine = .faulted ∧ later = []) →
    ∀ (c : Instr) (status : Status),
      (c = .reportWriteComplete ∧ status = fitStatus r ∨ c = .reportWriteFault ∧ status = .hostFault) →
      let records := reportDone s r status ::
        now.map (fun x => reportDone s x (if s.hp.engine = .faulted then faultedStatus x else fitStatus x))
      let written := (later.take 1).map reportWrite
      ∃ t, exec c s = .next t ∧
        t.ru.cache = s.ru.cache ∧ t.ru.reports = later ∧ (t.ru.writing = true ↔ later ≠ []) ∧ t.st = s.st ∧ t.ls = s.ls ∧
        t.ri = s.ri ∧ HostKept s t ∧ LineKept s t ∧ OutsideKept s t ∧ (∀ x ∈ written, x ∈ accesses t) ∧
        (s.ru.decision = none → t.ru.decision = none ∧ accesses t = s.hp.queue ++ written ∧
          t = { s with hp := { s.hp with bus := t.hp.bus, queue := t.hp.queue }, ru := t.ru
                       cu := { s.cu with queue := s.cu.queue ++ records, reserved := s.cu.reserved - records.length } }) ∧
        (∀ d, s.ru.decision = some d → records.length < d.after → accesses t = s.hp.queue ++ written ∧
          t.ru.decision = some { d with after := d.after - records.length } ∧
          t = { s with hp := { s.hp with bus := t.hp.bus, queue := t.hp.queue }, ru := t.ru
                       cu := { s.cu with queue := s.cu.queue ++ records, reserved := s.cu.reserved - records.length } }) ∧
        (∀ d p e, s.ru.decision = some d → 1 ≤ d.after → d.after ≤ records.length → IsHead s .control p e → e.kind = .sweepNow →
          t.cu.queue = s.cu.queue ++ records.take d.after ++ [controlRecord e d.status 0 d.count] ++ records.drop d.after ∧
          entry t p = none ∧ listOf t .control = (listOf s .control).erase p ∧ (∀ l, l ≠ .control → listOf t l = listOf s l) ∧
          t.cu.reserved = s.cu.reserved - records.length - 1 ∧ t.ru.decision = none ∧ t.sc = s.sc)

/-- QUERY. Taken up when it is the control head, the engine is RUNNING and a slot can be claimed: with a capacity below 296 it completes
SHORT-BUFFER with length 296; otherwise the snapshot of this moment is asked to be written, 296 octets at the response address, a slot is
reserved, and it stays at the head until the write ends, OK or HOST-FAULT with length 296 (R71, R130, R132). The snapshot holds loop
state, map length, engine state and raw loop delay, the summary of each station, and the loop map, at their offsets and by their numbers
(R71, R199; spec 10, section 10.7). The next request becomes head as the model reads R75 (log entries 16 and 29). -/
def Obligations.QueryTakesASnapshot : Prop :=
  (∀ (s : State) (p : PoolIx) (e : PoolEntry), s.hp.engine = .running → IsHead s .control p e → e.kind = .query →
    e.takenUp = false → 1 ≤ reservable s →
    (e.responseCapacity < 296 → ∃ t, exec .query s = .next t ∧
      Resolves s t (accessesWithout p s) p e (controlRecord e .shortBuffer 296 0) ∧
      t.cu.reserved = s.cu.reserved ∧ t.ls = s.ls ∧ t.st = s.st) ∧
    (296 ≤ e.responseCapacity → ∃ t, exec .query s = .next t ∧
      t = { s with hp := { s.hp with bus := t.hp.bus, queue := t.hp.queue }, rp := t.rp
                   cu := { s.cu with reserved := s.cu.reserved + 1 } } ∧
      entry t p = some { e with takenUp := true } ∧ PoolKeptBut p s t ∧
      accesses t = accesses s ++
        [{ kind := .snapshot p, address := e.responseAddress, length := 296, data := snapshotOf s, discarded := false }])) ∧
  (∀ s : State,
    let o := snapshotOf s
    o.length = 296 ∧ o[0x00]? = some (BitVec.ofNat 8 (loopNumber s.ls.state)) ∧
    o[0x01]? = some (BitVec.ofNat 8 s.st.loopMap.length) ∧ o[0x02]? = some (BitVec.ofNat 8 (engineNumber s.hp.engine)) ∧
    o[0x03]? = some 0 ∧ (s.ls.rawDelay ≤ 65535 → leHalf o 0x04 = s.ls.rawDelay) ∧ o[0x06]? = some 0 ∧ o[0x07]? = some 0 ∧
    (∀ a : Addr,
      let at' := 0x08 + 8 * a.val
      o[at']? = some (BitVec.ofNat 8 (stationStateNumber (station s a).state)) ∧
      o[at' + 1]? = some (match (station s a).position with | some n => BitVec.ofNat 8 n | none => 0xFF) ∧
      o[at' + 2]? = some (toggleNumber (some (station s a).commandToggle)) ∧
      o[at' + 3]? = some (toggleNumber (station s a).reportToggle) ∧ o[at' + 4]? = some (station s a).groups ∧
      o[at' + 5]? = some (BitVec.ofNat 8 (station s a).weight) ∧ o[at' + 6]? = some (BitVec.ofNat 8 (station s a).failures) ∧
      o[at' + 7]? = some (BitVec.ofNat 8 (listOf s (.station a)).length)) ∧
    (∀ i, i < 32 → o[0x108 + i]? = some (match s.st.loopMap[i]? with | some a => BitVec.ofNat 8 (a.val + 1) | none => 0))) ∧
  (∀ (s : State) (p : PoolIx) (e : PoolEntry) (c : Instr) (status : Status), OnBus s (.snapshot p) → entry s p = some e →
    e.kind = .query → (c = .snapshotWriteComplete ∧ status = .ok ∨ c = .snapshotWriteFault ∧ status = .hostFault) →
    ∃ t, exec c s = .next t ∧
      Resolves s t (listWithout p s.hp.queue) p e (controlRecord e status 296 0) ∧
      t.cu.reserved = s.cu.reserved - 1 ∧ t.ls = s.ls ∧ t.st = s.st)

/-! ## The completion ring -/

/-- The record write. POST begins it when a record waits, the engine is RUNNING, STOPPING or STOPPED, the ring has room and no record write is
in progress: it asks for the 15 octets of the body at the tail's entry. With a record write in progress, which is the only one made at a time,
with no record waiting, with the ring full, and in OFF and STARTING it changes nothing. When they are accepted, the octet with the phase follows directly, ahead
of the list. When that is accepted the record is posted: it leaves the queue, the occupancy rises by 1, the tail advances with the wrap, the phase
changes at the wrap, and COMPLETION becomes pending; the raises held during the write are then applied in their order, each filling its kind's
free slot as a new notice at the tail or updating the notice that fills it (R165, R166, R195, R161, R162, R173), and behind them the record of
the CALL-NOW that a held roll call answered enters (R123; that it waited is the model's inference, log entry 31). -/
def Obligations.RecordIsWrittenAndPosted : Prop :=
  (∀ (s : State) (c : Configuration) (r : CompletionRecord) (rest : List CompletionRecord), s.hp.config = some c →
     s.hp.engine = .running ∨ s.hp.engine = .stopping ∨ s.hp.engine = .stopped → s.cu.queue = r :: rest →
     let here := c.completionBase + BitVec.ofNat 32 (16 * s.cu.tail)
     (s.cu.occupancy < c.completionSize → s.cu.write = none → ∃ t, exec .post s = .next t ∧
       t = { s with hp := { s.hp with bus := t.hp.bus, queue := t.hp.queue }, cu := { s.cu with write := some .body } } ∧
       accesses t = accesses s ++
         [{ kind := .recordBody, address := here, length := 15, data := recordBody r, discarded := false }]) ∧
     (c.completionSize ≤ s.cu.occupancy ∨ s.cu.write ≠ none → exec .post s = .next s) ∧
     (OnBus s .recordBody → s.cu.write = some .body → exec .recordWriteFirstPartComplete s =
       let second : Access :=
         { kind := .recordPhase, address := here + 15, length := 1, data := [recordPhaseOctet r.kind s.cu.phase],
           discarded := false }
       .next { s with cu := { s.cu with write := some .phase }
                      hp := { s.hp with bus := some { access := second, begunAt := s.clock.cycles } } })) ∧
  (∀ s : State, s.cu.write ≠ none ∨ s.cu.queue = [] ∨ s.hp.engine = .off ∨ s.hp.engine = .starting → exec .post s = .next s) ∧
  (∀ (s : State) (c : Configuration) (r : CompletionRecord) (rest : List CompletionRecord), s.hp.config = some c →
     s.cu.tail < c.completionSize → OnBus s .recordPhase → s.cu.queue = r :: rest → s.cu.write = some .phase →
     let posted := fun t : State =>
       t.cu.write = none ∧ t.cu.heldRaises = [] ∧ t.cu.callAnswer = none ∧ t.cu.occupancy = s.cu.occupancy + 1 ∧
       t.cu.tail = (s.cu.tail + 1) % c.completionSize ∧
       t.cu.phase = (if s.cu.tail + 1 = c.completionSize then !s.cu.phase else s.cu.phase) ∧
       t.cu.pendingCauses = { s.cu.pendingCauses with completion := true } ∧ t.cu.head = s.cu.head ∧ t.cu.enabled = s.cu.enabled
     (s.cu.callAnswer = none → ∃ t, exec .recordWriteSecondPartComplete s = .next t ∧ posted t ∧ accesses t = s.hp.queue ∧
       t = { s with hp := { s.hp with bus := t.hp.bus, queue := t.hp.queue }, cu := t.cu } ∧ t.cu.reserved = s.cu.reserved ∧
       t.cu.queue = queueAfterRaises s.cu.heldRaises rest) ∧
     (∀ n p q, s.cu.callAnswer = some n → IsHead s .control p q → q.kind = .callNow →
       ∃ t, exec .recordWriteSecondPartComplete s = .next t ∧ posted t ∧
         t.cu.queue = queueAfterRaises s.cu.heldRaises rest ++ [controlRecord q .ok 0 n] ∧ entry t p = none ∧
         t.cu.reserved = s.cu.reserved - 1 ∧ t.ls = s.ls ∧ t.st = s.st ∧ t.ru = s.ru))

/-- The completion record in host memory (R170, R199, R201; spec 10, section 10.6): the 15 octets of the first part, field by field, with the
numbers of the status, station state and last outcome, and the octet at 0Fh with record kind, notice kind and phase. -/
def Obligations.RecordLayout : Prop :=
  (∀ r : CompletionRecord, (recordBody r).length = 15 ∧
    (recordBody r)[0]? = some (BitVec.ofNat 8 (statusNumber r.status)) ∧ (recordBody r)[1]? = some r.address ∧
    (r.attempts < 256 → ((recordBody r).getD 2 0).toNat = r.attempts) ∧
    (r.waits < 256 → ((recordBody r).getD 3 0).toNat = r.waits) ∧
    leWord (recordBody r) 4 = r.tag ∧
    (r.length < 65536 → leHalf (recordBody r) 8 = r.length) ∧ (r.count < 65536 → leHalf (recordBody r) 10 = r.count) ∧
    (recordBody r)[12]? = some (match r.stationState with | some x => BitVec.ofNat 8 (stationStateNumber x) | none => 0xFF) ∧
    (recordBody r)[13]? = some (match r.lastOutcome with | some x => BitVec.ofNat 8 (lastOutcomeNumber x) | none => 0xFF) ∧
    (recordBody r)[14]? = some (r.last.getD 0xFF)) ∧
  recordPhaseOctet .done true = 0x81 ∧ recordPhaseOctet .done false = 0x01 ∧
  recordPhaseOctet .report true = 0x82 ∧ recordPhaseOctet .report false = 0x02 ∧
  recordPhaseOctet (.notice .loopState) true = 0x93 ∧ recordPhaseOctet (.notice .loopState) false = 0x13 ∧
  recordPhaseOctet (.notice .stationChange) true = 0xA3 ∧ recordPhaseOctet (.notice .stationChange) false = 0x23 ∧
  recordPhaseOctet (.notice .buffersLow) true = 0xB3 ∧ recordPhaseOctet (.notice .buffersLow) false = 0x33

/-! ## Sending and returning elements -/

/-- R15 and R34 for one element. ELEMENT_BEGIN falls when the first symbol of the waiting element has left, and the waiting hand-over becomes
none. SEND_END falls in the octet time in which the last symbol of the element being sent leaves: its transit entry receives its return
deadline by its kind, or, for a PROBE, the probe timer starts (R27); after a break the settle timer starts at the send end of the last element
(R44). Nothing else changes, and where the event has not fallen, with symbols still to leave or in another octet time, nothing happens at
all (the last is the model's reading, log entries 2 and 6). -/
def Obligations.ElementBeginsAndEnds : Prop :=
  (∀ (s : State) (x : Sending) (y : Element) (rest : List Element), s.tx.sending = some x → s.tx.waiting = y :: rest →
    (x.id = y.id → exec .elementBegin s = .next { s with tx := { s.tx with waiting := rest } }) ∧
    (x.id ≠ y.id → exec .elementBegin s = .next s)) ∧
  (∀ (s : State) (n : Nat), s.tx.sending = none ∨ n ≠ s.clock.octets ∨ (∃ x, s.tx.sending = some x ∧ x.left ≠ []) →
    exec (.sendEnd n) s = .next s) ∧
  (∀ (s : State) (x : Sending) (n : Nat) (c : Configuration), s.tx.sending = some x → x.left = [] → n = s.clock.octets →
    s.hp.config = some c → ∃ t,
    exec (.sendEnd n) s = .next t ∧ t = { s with tx := { s.tx with sending := none }, ls := t.ls } ∧
    t.ls = { s.ls with transit := t.ls.transit, probeTimer := t.ls.probeTimer, settleTimer := t.ls.settleTimer } ∧
    t.ls.transit = s.ls.transit.map (fun e =>
      if e.id = x.id then
        { e with
          deadline := match e.element with
            | .probe => none
            | .sweep => some (n + s.ls.rawDelay + c.returnMargin + 256 * e.length)
            | .call => some (n + s.ls.rawDelay + c.returnMargin + 40)
            | .exch | .post | .group | .rest => some (n + s.ls.rawDelay + c.returnMargin)
          sendEnd := if e.element = .probe then some n else none }
      else e) ∧
    ((∃ e ∈ s.ls.transit, e.id = x.id ∧ e.element = .probe) → t.ls.probeTimer = some (n + c.probeLimit)) ∧
    ((∀ e ∈ s.ls.transit, e.id = x.id → e.element ≠ .probe) → t.ls.probeTimer = s.ls.probeTimer) ∧
    (s.ls.state = .broken → s.ls.settleTimer = none → s.tx.waiting = [] →
      t.ls.settleTimer = some (s.clock.cycles + c.settleTime * 16000)) ∧
    (s.ls.state ≠ .broken ∨ s.ls.settleTimer ≠ none ∨ s.tx.waiting ≠ [] → t.ls.settleTimer = s.ls.settleTimer))

/-- The head frame of the oldest entry comes back: intact with the entry's four fields, or damaged. Of an EXCH the outcome is written into the
request and the entry awaits its turn, with nothing else changed (R37, R80). Of a POST with TAKEN or REPEAT the command toggle flips, the
failure count returns to 0, and the POST completes OK through its slot, its entry gone (R81). With BUSY, DAMAGED, NONE, or damaged in transit
its attempt failed: the failure count returns to 0, stays, or rises by 1 up to 15, and the POST completes or is PAUSED (R52, R82, R89 to R91,
R94). Where NONE brings a PRESENT station's failure count to the silent threshold, the station enters SILENT, a STATION-CHANGE notice of count 1
is raised, and the POST completes NOT-PRESENT, or TIMEOUT under its expiry mark, behind it (R52, R56): an unposted notice is updated where it
stands (R161), and behind the record write of one the raise is held (R162). The next request becomes head as the model reads R75 (log entries
16 and 29). -/
def Obligations.HeadFramesOfExchangesAndPosts : Prop :=
  ∀ (s : State) (e : TransitEntry) (rest : List TransitEntry) (p : PoolIx) (q : PoolEntry) (a : Addr) (cmd : Instr)
    (o : LastOutcome), ServesStation s e p q a → ArrivesNow s cmd → awaits e cmd = true → headOutcome cmd = some o →
    (OldestIs s e rest → e.element = .exch → e.progress = .awaitingHead → ∃ t, exec cmd s = .next t ∧
      entry t p = some { q with lastOutcome := some o } ∧ PoolKeptBut p s t ∧
      t = { s with rp := t.rp, hp := { s.hp with bus := t.hp.bus, queue := t.hp.queue }
                   ls := { s.ls with transit := { e with progress := .awaitingTurn } :: rest } } ∧
      accesses t = accesses s) ∧
    (OldestAwaited s e rest → e.element = .post → q.kind = .post → q.expectedCount = none →
      (o = .taken ∨ o = .repeated → ∃ t, exec cmd s = .next t ∧
        Resolves s t (accessesWithout p s) p q (workRecord q .ok q.attempts 0 0 (station s a).state (some o)) ∧
        t.cu.reserved = s.cu.reserved - 1 ∧ t.ls = { s.ls with transit := rest } ∧ StationsKeptBut a s t ∧
        station t a = { station s a with
          commandToggle := !(station s a).commandToggle, failures := 0, outstanding := outstandingWithout p (station s a) }) ∧
      (∀ c, s.hp.config = some c → o = .busy ∨ o = .damaged ∨ o = .damagedInTransit ∨ o = .noMatch →
        (¬(o = .noMatch ∧ reachesSilence s c a) → ∃ t, exec cmd s = .next t ∧
          AttemptFailed s t c a p q o q.nextFrame (q.attempts + 1) q.waits ∧ t.cu.reserved = s.cu.reserved - 1 ∧
          t.ls = { s.ls with transit := rest } ∧ StationsKeptBut a s t ∧
          station t a = { station s a with
            failures := failuresAfter o (station s a).failures, outstanding := (station t a).outstanding }) ∧
        (o = .noMatch → reachesSilence s c a → ∃ t, exec cmd s = .next t ∧ AttemptSilences s t c a p q ∧
          t.ls = { s.ls with transit := rest } ∧ StationsKeptBut a s t)))

/-- A returned GROUP frame completes the GROUP-POST OK when the copy count is not below the expected count and PARTIAL when it is, with the copy
count, and a damaged one LOOP-FAULT with count 0 (R95); a returned REST frame completes the EXPEL OK with its outcome, damaged in transit or
not, and TAKEN takes 2 off the raw loop delay, down to 0 (R68, R29). The next request becomes head as the model reads R75 (log entries 16 and
29). -/
def Obligations.GroupAndRestReturns : Prop :=
  ∀ (s : State) (e : TransitEntry) (rest : List TransitEntry) (p : PoolIx) (q : PoolEntry) (cmd : Instr) (o : LastOutcome),
    OldestAwaited s e rest → e.pool = some p → entry s p = some q → ArrivesNow s cmd → awaits e cmd = true →
    headOutcome cmd = some o →
    (∀ expected status count, e.element = .group → q.kind = .groupPost → q.expectedCount = some expected →
      ((∃ kind address toggle payload outcome span, cmd = .headFrameReturn kind address toggle payload outcome count span) ∧
        status = (if expected ≤ count then .ok else .partialCopy) ∨
       (∃ span, cmd = .damagedFrame span) ∧ status = .loopFault ∧ count = 0) →
      ∃ t, exec cmd s = .next t ∧
        Resolves s t (accessesWithout p s) p q
          { kind := .done, status := status, address := q.address, attempts := q.attempts, waits := 0, tag := q.tag, length := 0,
            count := count, stationState := none, lastOutcome := some o, last := some (BitVec.ofNat 8 expected) } ∧
        t.cu.reserved = s.cu.reserved - 1 ∧ t.ls = { s.ls with transit := rest } ∧ t.st = s.st) ∧
    (∀ a, e.element = .rest → q.kind = .expel → requestStation q = some a → q.expectedCount = none →
      (station s a).outstanding = none → ∃ t, exec cmd s = .next t ∧
      Resolves s t (accessesWithout p s) p q (workRecord q .ok q.attempts 0 0 (station s a).state (some o)) ∧
      t.cu.reserved = s.cu.reserved - 1 ∧ t.st = s.st ∧
      t.ls = { s.ls with transit := rest, rawDelay := if o = .taken then s.ls.rawDelay - 2 else s.ls.rawDelay })

/-! ## Exchanges -/

/-- A valid RESPONSE in the turn's place, after TAKEN or REPEAT: the entry leaves, the command toggle flips and the failure count returns to 0;
the response is asked to be written, up to the capacity, and the request keeps its phase, its slot and its outstanding link until the write has
ended; where no octet is to be written it completes at once, OK or TRUNCATED, and where the engine is FAULTED, so that the loop drains, no
write is made and it completes HOST-FAULT (R83 to R86, R47). That a capacity of 0 gives TRUNCATED in FAULTED too is the model's reading (log
entry 15). The next request becomes head as the model reads R75 (log entries 16 and 29). -/
def Obligations.ValidResponseCompletesTheExchange : Prop :=
  ∀ (s : State) (e : TransitEntry) (rest : List TransitEntry) (p : PoolIx) (q : PoolEntry) (a : Addr) (payload : List Octet)
    (toggle : Toggle) (span : ReturnSpan), OldestAwaited s e rest → ServesStation s e p q a → e.element = .exch →
    e.progress = .awaitingTurn → q.lastOutcome = some .taken ∨ q.lastOutcome = some .repeated → q.kind = .exchange →
    q.expectedCount = none → 1 ≤ payload.length → q.toggleUsed = some toggle →
    ArrivesNow s (.responseReturn q.address toggle payload span) →
    (1 ≤ q.responseCapacity → s.hp.engine ≠ .faulted → ∃ t, exec (.responseReturn q.address toggle payload span) s = .next t ∧
      entry t p = some { q with response := some payload.length } ∧ PoolKeptBut p s t ∧ StationsKeptBut a s t ∧
      station t a = { station s a with commandToggle := !(station s a).commandToggle, failures := 0 } ∧
      t = { s with hp := { s.hp with bus := t.hp.bus, queue := t.hp.queue }, rp := t.rp, st := t.st
                   ls := { s.ls with transit := rest } } ∧
      accesses t = accesses s ++
        [{ kind := .response p, address := q.responseAddress, length := min q.responseCapacity payload.length,
           data := payload.take q.responseCapacity, discarded := false }]) ∧
    (∀ status, (q.responseCapacity = 0 ∧ status = .truncated ∨
        1 ≤ q.responseCapacity ∧ s.hp.engine = .faulted ∧ s.ls.state = .draining ∧ status = .hostFault) →
      ∃ t, exec (.responseReturn q.address toggle payload span) s = .next t ∧
        Resolves s t (accessesWithout p s) p q
          (workRecord q status q.attempts q.waits payload.length (station s a).state q.lastOutcome) ∧
        t.cu.reserved = s.cu.reserved - 1 ∧ t.ls = { s.ls with transit := rest } ∧ StationsKeptBut a s t ∧
        station t a = { station s a with
          commandToggle := !(station s a).commandToggle, failures := 0, outstanding := outstandingWithout p (station s a) })

/-- R90. When attempts used reaches the attempt limit, the final status follows from the last outcome. -/
def Obligations.FinalStatusFollowsTheLastOutcome : Prop :=
  ∀ (s : State) (p : PoolIx) (q : PoolEntry) (a : Addr), entry s p = some q → requestStation q = some a →
    isWork q.kind = true → q.expiryMark = false → (station s a).state = .present → q.attempts + 1 = q.attemptLimit →
    q.expectedCount = none → ∀ o, q.lastOutcome = some o →
    ∀ status, (o = .busy ∧ status = .refused ∨ o = .noMatch ∧ status = .unreached ∨
      (o = .damaged ∨ o = .damagedInTransit ∨ o = .responseDamaged ∨ o = .responseInvalid ∨ o = .lostToBreak) ∧
        status = .loopFault) →
    ∃ more, (failedAttempt a p true s).cu.queue = s.cu.queue ++ more ∧ entry (failedAttempt a p true s) p = none ∧
      more = [workRecord q status q.attemptLimit (waitsField q) 0 .present (some o)]

/-- A failed attempt of an EXCHANGE, after the turn item that ends it: a response that is invalid or damaged after TAKEN or REPEAT makes the next
frame FETCH; any turn item after another head-frame outcome, BUSY, DAMAGED, damaged in transit or NONE, leaves the next frame; a TURN that
returns unchanged after TAKEN or REPEAT counts a wait and no attempt, makes the next frame FETCH, and beyond the wait limit completes
NO-RESPONSE, or TIMEOUT under its expiry mark. In each case the entry leaves, the failure count returns to 0, stays or rises by the outcome,
and the request completes TIMEOUT, NOT-PRESENT or with its final status, or is PAUSED with its fetch-delay timer started and gives its slot
back (R52, R80, R83, R87 to R91, R94). Where NONE brings a PRESENT station to the silent threshold, it enters SILENT, a STATION-CHANGE notice
of count 1 is raised, and the EXCHANGE completes behind it (R56): an unposted notice is updated where it stands (R161), and behind the record
write of one the raise is held (R162). The next request becomes head as the model reads R75 (log entries 16 and 29). -/
def Obligations.FailedAttemptsOfExchanges : Prop :=
  ∀ (s : State) (e : TransitEntry) (rest : List TransitEntry) (p : PoolIx) (q : PoolEntry) (a : Addr) (c : Configuration)
    (turn : Instr), OldestAwaited s e rest → ServesStation s e p q a → e.element = .exch → e.progress = .awaitingTurn →
    q.kind = .exchange → q.expectedCount = none → s.hp.config = some c → ArrivesNow s turn → isTurnItem turn = true →
    let accepted := q.lastOutcome = some .taken ∨ q.lastOutcome = some .repeated
    (∀ (o : LastOutcome) (next : Option HeadFrame) (attempts waits : Nat),
      -- a response that is damaged, or invalid, after TAKEN or REPEAT
      (accepted ∧
          (((∃ x, turn = .damagedFrame x) ∨ ∃ k x, turn = .damagedMarker k x) ∧ o = .responseDamaged ∨
           (∃ source toggle payload x, turn = .responseReturn source toggle payload x ∧
              (source ≠ q.address ∨ q.toggleUsed ≠ some toggle ∨ payload = [])) ∧ o = .responseInvalid) ∧
          next = some .fetch ∧ attempts = q.attempts + 1 ∧ waits = q.waits ∨
       -- any turn item after a failed head-frame outcome
       q.lastOutcome = some o ∧ (o = .busy ∨ o = .damaged ∨ o = .damagedInTransit ∨ o = .noMatch ∧ ¬reachesSilence s c a) ∧
          next = q.nextFrame ∧ attempts = q.attempts + 1 ∧ waits = q.waits ∨
       -- a TURN returned unchanged after TAKEN or REPEAT
       accepted ∧ (∃ x, turn = .turnReturn x) ∧ o = .notReady ∧ next = some .fetch ∧ attempts = q.attempts ∧
          waits = q.waits + 1) →
      ∃ t, exec turn s = .next t ∧ t.ls = { s.ls with transit := rest } ∧ t.cu.reserved = s.cu.reserved - 1 ∧
        StationsKeptBut a s t ∧
        station t a = { station s a with
          failures := failuresAfter o (station s a).failures, outstanding := (station t a).outstanding } ∧
        (¬(o = .notReady ∧ c.waitLimit < waits) → AttemptFailed s t c a p q o next attempts waits) ∧
        (o = .notReady → c.waitLimit < waits →
          Resolves s t (accessesWithout p s) p q
            (workRecord q (if q.expiryMark then .timeout else .noResponse) attempts waits 0 (station s a).state (some o)) ∧
          (station t a).outstanding = outstandingWithout p (station s a))) ∧
    (q.lastOutcome = some .noMatch → reachesSilence s c a → ∃ t, exec turn s = .next t ∧ AttemptSilences s t c a p q ∧
        t.ls = { s.ls with transit := rest } ∧ StationsKeptBut a s t)

/-! ## Sweeps -/

/-- A REPORT ahead of the SWEEP marker is counted, then judged by the tests of R108 in order: beyond the budget, from no station or from a station
that is not PRESENT it is discarded; with the station's report toggle it is a duplicate, acknowledged again and discarded; otherwise it is
accepted: it takes the oldest reserved descriptor out of the cache, sets the station's report toggle and its ack entry with the carried mark
clear, is counted in the sweep record, and uses one of the sweep's slots for its completion. Its write is asked for when no earlier report's is
being made; with no octet to write it completes at once, OK or TRUNCATED, in FAULTED too (the model's reading, log entry 15), and with octets
to write in FAULTED HOST-FAULT. The descriptor taken makes room for the
next descriptor read. A damaged frame is counted and discarded (R101, R108 to R112, R114, R47). -/
def Obligations.ReportsAreJudged : Prop :=
  ∀ (s : State) (e : TransitEntry) (rest : List TransitEntry) (w : SweepRecord), OldestIs s e rest → e.element = .sweep →
    s.ru.sweep = some w →
    let counted : SweepRecord := { w with items := w.items + 1 }
    (∀ span, ArrivesNow s (.damagedFrame span) → ∃ t, exec (.damagedFrame span) s = .next t ∧ accesses t = accesses s ∧
      t = { s with hp := { s.hp with bus := t.hp.bus, queue := t.hp.queue }, ru := { s.ru with sweep := some counted } }) ∧
    (∀ (source : Octet) (toggle : Toggle) (payload : List Octet) (span : ReturnSpan),
      ArrivesNow s (.reportReturn source toggle payload span) →
      (w.budget < w.items + 1 ∨ source.toNat = 0 ∨ 32 < source.toNat ∨
          (∃ a : Addr, source.toNat = a.val + 1 ∧ (station s a).state ≠ .present) →
        ∃ t, exec (.reportReturn source toggle payload span) s = .next t ∧ accesses t = accesses s ∧
          t = { s with hp := { s.hp with bus := t.hp.bus, queue := t.hp.queue }, ru := { s.ru with sweep := some counted } }) ∧
      (∀ a : Addr, source.toNat = a.val + 1 → w.items + 1 ≤ w.budget → (station s a).state = .present →
        ((station s a).reportToggle = some toggle → ∃ t, exec (.reportReturn source toggle payload span) s = .next t ∧
          accesses t = accesses s ∧ t.ru.acks[a] = some { toggle := toggle, carried := false } ∧
          (∀ b : Addr, b ≠ a → t.ru.acks[b] = s.ru.acks[b]) ∧
          t = { s with hp := { s.hp with bus := t.hp.bus, queue := t.hp.queue }
                       ru := { s.ru with sweep := some counted, acks := t.ru.acks } }) ∧
        ((station s a).reportToggle ≠ some toggle → ∀ d cache c, s.ru.cache = d :: cache → s.hp.config = some c →
          let r : PendingReport := { source := a, descriptor := d, payload := payload }
          let reads := s.hp.engine = .running ∧ cache.length < 8 ∧ s.ru.head ≠ s.hp.bufferTail ∧ s.ru.reading = false
          let accepted := fun (t : State) (reports : List PendingReport) (writing : Bool) (asked : List Access)
              (records : List CompletionRecord) =>
            StationsKeptBut a s t ∧ station t a = { station s a with reportToggle := some toggle } ∧
            t.ru.acks[a] = some { toggle := toggle, carried := false } ∧ (∀ b : Addr, b ≠ a → t.ru.acks[b] = s.ru.acks[b]) ∧
            (t.ru.reading = true ↔ s.ru.reading = true ∨ reads) ∧
            t.ru = { s.ru with
              cache := cache, acks := t.ru.acks, reading := t.ru.reading,
              sweep := some { counted with reserved := w.reserved - 1, accepted := w.accepted + 1 },
              reports := reports, writing := writing } ∧
            t = { s with hp := { s.hp with bus := t.hp.bus, queue := t.hp.queue }, ru := t.ru, st := t.st, choices := t.choices
                         ls := { s.ls with transit := { e with slots := e.slots - 1 } :: rest }
                         cu := { s.cu with queue := s.cu.queue ++ records, reserved := s.cu.reserved - records.length } } ∧
            ∃ acc : List Access, accesses t = accesses s ++ acc ∧
              (reads → acc.Perm (asked ++ [descriptorReadAt c s.ru.head])) ∧ (¬reads → acc = asked)
          (s.ru.writing = true → ∃ t, exec (.reportReturn source toggle payload span) s = .next t ∧
            accepted t (s.ru.reports ++ [r]) true [] []) ∧
          (s.ru.writing = false → s.ru.reports = [] → ¬nothingToWrite r → s.hp.engine ≠ .faulted →
            ∃ t, exec (.reportReturn source toggle payload span) s = .next t ∧ accepted t [r] true [reportWrite r] []) ∧
          (∀ status, s.ru.writing = false → s.ru.reports = [] → s.ru.decision = none →
            (nothingToWrite r ∧ status = fitStatus r ∨
             ¬nothingToWrite r ∧ s.hp.engine = .faulted ∧ s.ls.state = .draining ∧ status = .hostFault) →
            ∃ t, exec (.reportReturn source toggle payload span) s = .next t ∧
              accepted t [] false [] [reportDone s r status]))))

/-- The SWEEP marker returns. With the pairs that were sent it closes the sweep intact: every ack entry still carried is removed and the others
stay with their mark clear; with other pairs, or damaged, it removes none and clears every mark. In both cases the entry leaves, the sweep record
is emptied, the slots no acceptance used are given back but a SWEEP-NOW's own, and a SWEEP-NOW it served completes, OK or LOOP-FAULT, with the count
of reports accepted: at once when it accepted none or none of their records is still to come, and otherwise behind the last of them; reports of an
earlier sweep do not hold it back (R113, R115, R116, R39, R205; that it waits so is the model's reading, log entry 21). The next request becomes
head as the model reads R75 (log entries 16 and 29). -/
def Obligations.SweepMarkerClosesTheSweep : Prop :=
  ∀ (s : State) (e : TransitEntry) (rest : List TransitEntry) (w : SweepRecord) (cmd : Instr), OldestAwaited s e rest →
    e.element = .sweep → s.ru.sweep = some w → ArrivesNow s cmd →
    (∃ budget acks span, cmd = .sweepMarkerReturn budget acks span) ∨ (∃ k span, cmd = .damagedMarker k span) →
    ∀ intact : Bool, (intact = true ↔ ∃ budget span, cmd = .sweepMarkerReturn budget e.acks span) →
    let status : Status := if intact then .ok else .loopFault
    ∃ t, exec cmd s = .next t ∧
      (∀ a : Addr, t.ru.acks[a] =
        (match s.ru.acks[a] with
         | some x => if x.carried = true ∧ intact = true then none else some { x with carried := false }
         | none => none)) ∧
      t.ru = { s.ru with sweep := none, acks := t.ru.acks, decision := t.ru.decision } ∧
      t.ls = { s.ls with transit := rest } ∧ t.st = s.st ∧ t.ri = s.ri ∧ HostKept s t ∧ LineKept s t ∧ OutsideKept s t ∧
      (e.demand = false → accesses t = accesses s ∧ t.ru.decision = s.ru.decision ∧
        t = { s with hp := { s.hp with bus := t.hp.bus, queue := t.hp.queue }, ls := t.ls, ru := t.ru
                     cu := { s.cu with reserved := s.cu.reserved - e.slots } }) ∧
      (∀ p q, e.demand = true → w.accepted = 0 ∨ s.ru.reports = [] → IsHead s .control p q → q.kind = .sweepNow → 1 ≤ e.slots →
        Resolves { s with ru := t.ru } t (accessesWithout p s) p q (controlRecord q status 0 w.accepted) ∧
        t.cu.reserved = s.cu.reserved - e.slots ∧ t.ru.decision = s.ru.decision) ∧
      (e.demand = true → w.accepted ≠ 0 → s.ru.reports ≠ [] → accesses t = accesses s ∧
        t.ru.decision = some { status := status, count := w.accepted, after := s.ru.reports.length } ∧
        t = { s with hp := { s.hp with bus := t.hp.bus, queue := t.hp.queue }, ls := t.ls, ru := t.ru
                     cu := { s.cu with reserved := s.cu.reserved - (e.slots - 1) } })

/-! ## Roll calls -/

/-- An accepted roll call, of a CALL in OPEN or DRAINING, with the demand mark or without, or of the CALL of CALLING (R57 to R60, R62, R29, R31, R52,
R55). For every station, from the number of its entries:
the new state (R58's table), the position in the new map, the failure count, 0 on a change into PRESENT, and the toggles, reset when one of its
entries carries the JOIN mark. The new map holds the addresses shown, each at its first position. The raw loop delay grows by 2 for each JOIN entry,
up to 65535. An outstanding request whose station leaves PRESENT passes from PAUSED to READY (R54), a JOIN reset makes an EXCHANGE's next frame DATA
(R55), and no other request changes, but for those of the control list when the CALL served a CALL-NOW. -/
def Obligations.RollCallReconciles : Prop :=
  ∀ (s : State) (e : TransitEntry) (rest : List TransitEntry) (entries : List CallEntry) (span : ReturnSpan),
    OldestAwaited s e rest ∨ s.ls.state = .calling ∧ s.ls.transit = e :: rest → e.element = .call →
    ArrivesNow s (.callMarkerReturn entries span) →
    rollAccepted entries → ∃ t, exec (.callMarkerReturn entries span) s = .next t ∧
      let answers := e.demand = true ∧ s.ls.state ≠ .calling
      let shown := fun (a : Addr) => entries.filter (fun x => x.address.toNat = a.val + 1)
      let joins := fun (a : Addr) => ∃ x ∈ shown a, x.join = true
      (∀ a, (station t a).state =
        (match (station s a).state, (shown a).length with
         | .vacant, _ => .vacant
         | .barred, _ => .barred
         | .expected, 0 => .expected
         | .present, 0 => .silent
         | .silent, 0 => .silent
         | .conflict, 0 => .silent
         | _, 1 => .present
         | _, _ => .conflict)) ∧
      (∀ a, joins a → (station t a).commandToggle = false ∧ (station t a).reportToggle = none ∧ t.ru.acks[a] = none) ∧
      (∀ a, ¬joins a → (station t a).commandToggle = (station s a).commandToggle ∧
        (station t a).reportToggle = (station s a).reportToggle ∧ t.ru.acks[a] = s.ru.acks[a]) ∧
      (∀ a, (station t a).failures =
        if (station t a).state = .present ∧ (station s a).state ≠ .present then 0 else (station s a).failures) ∧
      (∀ a, (station t a).weight = (station s a).weight ∧ (station t a).groups = (station s a).groups ∧
        (station t a).outstanding = (station s a).outstanding) ∧
      (∀ a, a ∈ t.st.loopMap ↔ shown a ≠ []) ∧
      t.st.loopMap.Pairwise (fun a b =>
        entries.findIdx (fun x => x.address.toNat = a.val + 1) < entries.findIdx (fun x => x.address.toNat = b.val + 1)) ∧
      (∀ a, (station t a).position = t.st.loopMap.idxOf? a) ∧
      t.ls = { s.ls with
        state := if s.ls.state = .calling then .opened else s.ls.state, transit := rest,
        rawDelay := min 65535 (s.ls.rawDelay + 2 * (entries.filter (fun x => x.join)).length) } ∧
      (∀ p, (answers → p ∉ listOf s .control) → (∀ a, (station s a).outstanding ≠ some p) → entry t p = entry s p) ∧
      (∀ a p q, (station s a).outstanding = some p → (∀ b, (station s b).outstanding = some p → b = a) →
        entry s p = some q → (answers → p ∉ listOf s .control) →
        let q' := if q.phase = .paused ∧ (station s a).state = .present ∧ (station t a).state ≠ .present
          then { q with phase := .ready, fetchTimer := .stopped } else q
        (joins a → entry t p = some { q' with
          joinReset := true, nextFrame := if q.kind = .exchange then some .data else q.nextFrame }) ∧
        (¬joins a → entry t p = some q')) ∧
      (∀ l, (answers → l ≠ .control) → listOf t l = listOf s l) ∧ HostKept s t ∧ LineKept s t ∧ OutsideKept s t

/-- The change count of an accepted roll call in OPEN or DRAINING: 1 for each station whose state changes, that rejoined, or that is VACANT and new in
the map, and 1 when the map differs. When it is above 0 a STATION-CHANGE notice of that count is raised: an unposted one is updated where it stands,
and behind the record write of one the raise is held (R161, R162). A CALL-NOW that the CALL served completes OK with the count, behind the notice
(R60, R123); where the raise is held, the CALL-NOW's record is held with it (R162, R160; that the record waits is the model's inference, log entry
31). -/
def Obligations.RollCallCountsChanges : Prop :=
  ∀ (s : State) (e : TransitEntry) (rest : List TransitEntry) (entries : List CallEntry) (span : ReturnSpan),
    OldestAwaited s e rest → e.element = .call → ArrivesNow s (.callMarkerReturn entries span) → rollAccepted entries →
    ∃ t n, exec (.callMarkerReturn entries span) s = .next t ∧ n = rollChanges s t entries ∧
      (e.demand = false → t.cu = afterRollCall n s.cu) ∧
      (∀ p q, e.demand = true → n = 0 ∨ ¬raiseIsHeld .stationChange s.cu → IsHead s .control p q → q.kind = .callNow →
        t.cu = { withRecords [controlRecord q .ok 0 n] (afterRollCall n s.cu) with reserved := s.cu.reserved - 1 } ∧
        entry t p = none ∧ listOf t .control = (listOf s .control).erase p) ∧
      (e.demand = true → n ≠ 0 → raiseIsHeld .stationChange s.cu →
        t.cu = { afterRollCall n s.cu with callAnswer := some n } ∧
        (∀ l, listOf t l = listOf s l) ∧ ∀ p, (∀ a, (station s a).outstanding ≠ some p) → entry t p = entry s p)

/-- A CALL whose marker is damaged, or lists an address outside 1–32, in OPEN: its entry leaves, its result is discarded and call due is set
again, the loop staying OPEN; a CALL-NOW it served gives its slot back and stands at the head in READY (R40, R57, R122, R123). -/
def Obligations.DamagedRollCallStaysDue : Prop :=
  ∀ (s : State) (e : TransitEntry) (rest : List TransitEntry) (cmd : Instr), s.ls.state = .opened → s.ls.transit = e :: rest →
    e.element = .call → ArrivesNow s cmd → failsRollCall cmd →
    (e.demand = false → ∃ t, exec cmd s = .next t ∧ accesses t = accesses s ∧
      t = { s with hp := { s.hp with bus := t.hp.bus, queue := t.hp.queue }
                   ls := { s.ls with transit := rest }, sc := { s.sc with callDue := true } }) ∧
    (∀ p q, e.demand = true → IsHead s .control p q → q.kind = .callNow → ∃ t, exec cmd s = .next t ∧
      entry t p = some { q with phase := .ready } ∧ PoolKeptBut p s t ∧ accesses t = accesses s ∧
      t = { s with hp := { s.hp with bus := t.hp.bus, queue := t.hp.queue }, rp := t.rp
                   ls := { s.ls with transit := rest }, sc := { s.sc with callDue := true }
                   cu := { s.cu with reserved := s.cu.reserved - e.slots } })

/-! ## The loop coming up, breaking and draining -/

/-- The loop comes up. In PROBING the PROBE returns with the number sent and within the probe limit of its send end: the raw loop delay is measured,
and the loop is CALLING, its CALL waiting at the transmitter and the call timer restarted. In CALLING an accepted CALL marker opens the loop, and
LOOP-STATE is raised with OPEN, behind the STATION-CHANGE of the roll call: unposted notices are updated where they stand, and raises behind the
record write of their kind are held (R27, R30, R31, R45, R57, R60, R62, R122, R161, R162). -/
def Obligations.LoopComesUp : Prop :=
  ∀ (s : State) (e : TransitEntry) (c : Configuration), s.ls.transit = [e] → s.hp.config = some c →
    (∀ (sent : Nat) (span : ReturnSpan), s.ls.state = .probing → e.element = .probe → e.sendEnd = some sent →
      span.stop ≤ sent + c.probeLimit → ArrivesNow s (.probeReturn s.ls.probeNumber span.start span.stop) →
      ∃ t, exec (.probeReturn s.ls.probeNumber span.start span.stop) s = .next t ∧ accesses t = accesses s ∧
      t = { s with
        hp := { s.hp with bus := t.hp.bus, queue := t.hp.queue }
        ls := { s.ls with state := .calling, transit := [plainEntry s.tx.nextId .call], probeTimer := none,
                          rawDelay := min 65535 (span.start - sent) }
        tx := withWaiting s.tx callSymbols
        sc := { s.sc with callTimer := some (s.clock.cycles + c.callInterval * 16000), callDue := false } }) ∧
    (∀ (entries : List CallEntry) (span : ReturnSpan), s.ls.state = .calling → e.element = .call →
      ArrivesNow s (.callMarkerReturn entries span) → rollAccepted entries →
      ∃ t, exec (.callMarkerReturn entries span) s = .next t ∧
      t.ls = { s.ls with
        state := .opened, transit := [],
        rawDelay := min 65535 (s.ls.rawDelay + 2 * (entries.filter (fun x => x.join)).length) } ∧
      t.cu = afterRaise (loopRaise .opened) (afterRollCall (rollChanges s t entries) s.cu) ∧
      (∀ a : Addr, a ∈ t.st.loopMap ↔ ∃ x ∈ entries, x.address.toNat = a.val + 1) ∧ HostKept s t ∧ t.sc = s.sc ∧
      LineKept s t ∧ OutsideKept s t)

/-- A break: the last octet time of the return limit has ended in OPEN or CALLING, that of the probe limit in PROBING; the item that comes back in
PROBING is not the PROBE with the number last sent, within the probe limit; in OPEN or CALLING an item comes back that the oldest entry does not
await, among them a head frame that differs in kind, address, toggle or length; or the CALL of CALLING comes back damaged or rejected. The loop
is BROKEN with nothing in transit and its timers stopped, the receiver is held in SEEK, LOOP-STATE is raised with BROKEN after the resolutions,
and the settle timer runs from this moment when no element is being sent and none waits; what was handed over stays at the transmitter (R27, R28,
R31, R35, R37 to R42, R44, R45); an unposted LOOP-STATE is updated where it stands, and behind the record write of one the raise is held (R161,
R162). -/
def Obligations.BreaksEnterBroken : Prop :=
  ∀ (s : State) (c : Configuration) (cmd : Instr), s.hp.config = some c → BreaksLoop s c cmd →
    ∃ t, exec cmd s = .next t ∧
      t.ls = { s.ls with
        state := .broken, transit := [], probeTimer := none,
        settleTimer := if s.tx.sending = none ∧ s.tx.waiting = [] then some (s.clock.cycles + c.settleTime * 16000)
                       else none } ∧
      t.rx = .seek ∧ t.tx = s.tx ∧ (∃ records : List CompletionRecord, (∀ r ∈ records, r.kind = .done) ∧
        t.cu = { afterRaise (loopRaise .broken) (withRecords records s.cu) with reserved := t.cu.reserved }) ∧
      t.st.loopMap = s.st.loopMap ∧ t.ri = s.ri ∧ HostKept s t ∧ OutsideKept s t

/-- What a break, of any of its causes, does for its transit entries, by the kind of element (R41, R43, R89, R94, R68, R95, R117, R123): an EXCHANGE
or POST has a failed attempt with last outcome LOST-TO-BREAK, and completes TIMEOUT under its expiry mark, NOT-PRESENT when its station is not
PRESENT, LOOP-FAULT with its attempts used up, and is PAUSED and stays outstanding otherwise; a GROUP-POST completes LOOP-FAULT; an EXPEL completes OK
with UNKNOWN; a sweep gives back its slots and keeps every acknowledgment, its marks cleared, and a SWEEP-NOW it served completes LOOP-FAULT with the
count of reports accepted, at once or behind their records (R205; log entry 21); a CALL-NOW completes LOOP-FAULT; a PROBE and a CALL without demand
enter nothing. Several entries are resolved oldest first, and their records enter in that order (R42), each through its slot, the other reserved
slots of the entries given back; the LOOP-STATE notice follows, which updates an unposted one or is held behind the write of one (R45, R161, R162).
Under the slot invariant the lists lose the requests that completed, a request behind one becomes head as the model reads R75 (log entries 16 and
29), and no other request changes. No toggle, failure count or station state changes. -/
def Obligations.BreakResolvesEachElement : Prop :=
  ∀ (s : State) (c : Configuration) (cmd : Instr), s.hp.config = some c → BreaksLoop s c cmd →
    ∃ t, exec cmd s = .next t ∧ GivenUp s t c (afterRaise (loopRaise .broken))

/-- The drain. In DRAINING a returned item that the oldest entry awaits does what it does in OPEN, to requests, stations, sweep, roll call, holding
queue and accesses; the loop stays DRAINING while entries are left. When the last entry leaves, the loop goes to QUIET with its timers stopped and
the receiver held in SEEK, and the engine passes from STOPPING to STOPPED with the ENGINE cause; FAULTED stays FAULTED. That it does so at once even
where the record of the CALL-NOW that the last entry served is held behind the write of a STATION-CHANGE is the model's choice, against R176's
sentence that every record of the drain is then in the holding queue (log entry 31). A PROBE with the number
last sent, within the probe limit, measures the delay, and the loop does not go to CALLING; that one back before its send end measures 0 is the
model's inference (log entry 14). A mismatch, a return-limit or probe-timer expiry, or a
PROBE that fails, resolves every remaining entry as a break does, oldest first, its records, slots and requests the same (R43; log entries 21, 16
and 29), and sends the loop straight to QUIET with nothing in transit. No LOOP-STATE notice is raised (R35, R37 to R41, R45, R47, R189). A CALL
damaged or rejected in DRAINING sets call due again, as in OPEN: R40 and R122 leave it due, and that DRAINING sets the mark is the model's inference
(log entry 17). -/
def Obligations.DrainEnds : Prop :=
  ∀ (s : State) (e : TransitEntry) (rest : List TransitEntry) (c : Configuration) (cmd : Instr), s.ls.state = .draining →
    s.ls.transit = e :: rest → s.hp.config = some c →
    let quiet := fun u : State =>
      { u with
        ls := { u.ls with state := .quiet, transit := [], probeTimer := none, settleTimer := none }, rx := .seek
        hp := { u.hp with engine := if s.hp.engine = .stopping then .stopped else s.hp.engine }
        cu := { u.cu with
          pendingCauses := if s.hp.engine = .stopping then withEngineCause u.cu.pendingCauses else u.cu.pendingCauses } }
    (ArrivesNow s cmd → awaits e cmd = true → ∃ t u, exec cmd s = .next t ∧
      exec cmd { s with ls := { s.ls with state := .opened } } = .next u ∧ u.ls.state = .opened ∧
      (u.ls.transit ≠ [] → t = { u with ls := { u.ls with state := .draining } }) ∧ (u.ls.transit = [] → t = quiet u)) ∧
    (∀ span : ReturnSpan, cmd = .probeReturn s.ls.probeNumber span.start span.stop → ArrivesNow s cmd → probeSucceeds s c e cmd → ∃ t, exec cmd s = .next t ∧
      let measured := match e.sendEnd with | some sent => min 65535 (span.start - sent) | none => 0
      let u := { s with hp := { s.hp with bus := t.hp.bus, queue := t.hp.queue }
                        ls := { s.ls with transit := rest, probeTimer := none, rawDelay := measured } }
      accesses t = accesses s ∧ (rest ≠ [] → t = u) ∧ (rest = [] → t = quiet u)) ∧
    (failsRollCall cmd → ArrivesNow s cmd → rest = [] → e.element = .call → e.demand = false → ∃ t, exec cmd s = .next t ∧
      accesses t = accesses s ∧
      t = quiet { s with hp := { s.hp with bus := t.hp.bus, queue := t.hp.queue }, sc := { s.sc with callDue := true } }) ∧
    (cmd = .returnLimitExpiry ∧ (∃ d, e.deadline = some d ∧ d < s.clock.octets) ∨
     cmd = .probeTimerExpiry ∧ (∃ d, s.ls.probeTimer = some d ∧ d < s.clock.octets) ∨
     ArrivesNow s cmd ∧ awaits e cmd = false ∧ ¬probeSucceeds s c e cmd →
      ∃ t, exec cmd s = .next t ∧ t.rx = .seek ∧ t.tx = s.tx ∧ t.ri = s.ri ∧ t.st.loopMap = s.st.loopMap ∧ OutsideKept s t ∧
      t.hp.engine = (if s.hp.engine = .stopping then .stopped else s.hp.engine) ∧
      t.cu.pendingCauses = (if s.hp.engine = .stopping then withEngineCause s.cu.pendingCauses else s.cu.pendingCauses) ∧
      (∀ r ∈ t.cu.queue, r.kind = .notice .loopState → r ∈ s.cu.queue) ∧
      GivenUp s t c (fun cu => { cu with
        pendingCauses := if s.hp.engine = .stopping then withEngineCause cu.pendingCauses else cu.pendingCauses }) ∧
      t.ls = { s.ls with state := .quiet, transit := [], probeTimer := none, settleTimer := none })

/-- The timers. The settle timer ends the hold of BROKEN: a PROBE with the next number is handed over (R44). A fetch delay makes its PAUSED request
READY with the engine RUNNING, and is held otherwise (R91). A head deadline is held, and with the engine RUNNING marks a head IN-TRANSIT, cancels the
fetch delay of a PAUSED one, which is then READY, and leaves any other where it is (R93, R129). The sweep and call timers set their due marks (R124, R122).
Nothing else changes, the clock included, and before its instant no timer expires. That the mark on a head IN-TRANSIT spends the expiry, so that
its timer is stopped, is the model's inference (log entry 27); that a PAUSED head whose deadline expires is READY is its reading of R93 (log
entry 16); that an expiry command ahead of its instant changes nothing is its reading (log
entries 2 and 6). -/
def Obligations.TimersExpire : Prop :=
  ∀ (s : State) (due : Nat),
    (s.ls.settleTimer = some due → s.ls.state = .broken → s.hp.engine = .running →
      (due ≤ s.clock.cycles → exec .settleTimerExpiry s =
        .next { s with ls := probeHandedOver s.ls s.tx.nextId, tx := withWaiting s.tx (probeSymbols (s.ls.probeNumber + 1)) }) ∧
      (s.clock.cycles < due → exec .settleTimerExpiry s = .next s)) ∧
    (∀ p e, entry s p = some e → e.fetchTimer = .running due → e.phase = .paused →
      (due ≤ s.clock.cycles → ∃ t, exec (.fetchDelayExpiry p) s = .next t ∧ t = { s with rp := t.rp } ∧ PoolKeptBut p s t ∧
        entry t p = (if s.hp.engine = .running then some { e with phase := .ready, fetchTimer := .stopped }
                     else some { e with fetchTimer := .expired })) ∧
      (s.clock.cycles < due → exec (.fetchDelayExpiry p) s = .next s)) ∧
    (∀ a p e, headTimer s a = .running due → IsHead s (.station a) p e →
      (due ≤ s.clock.cycles → ∃ t, exec (.headDeadlineExpiry a) s = .next t ∧
        t = { s with rp := t.rp, sc := { s.sc with headTimers := t.sc.headTimers } } ∧
        (∀ b, b ≠ a → headTimer t b = headTimer s b) ∧ PoolKeptBut p s t ∧
        headTimer t a = (if s.hp.engine = .running ∧ e.phase = .inTransit then .stopped else .expired) ∧
        entry t p = some (if s.hp.engine = .running then deadlineActedOn e else e)) ∧
      (s.clock.cycles < due → exec (.headDeadlineExpiry a) s = .next s)) ∧
    (s.sc.sweepTimer = some due →
      (due ≤ s.clock.cycles → exec .sweepTimerExpiry s = .next { s with sc := { s.sc with sweepTimer := none, sweepDue := true } }) ∧
      (s.clock.cycles < due → exec .sweepTimerExpiry s = .next s)) ∧
    (s.sc.callTimer = some due →
      (due ≤ s.clock.cycles → exec .callTimerExpiry s = .next { s with sc := { s.sc with callTimer := none, callDue := true } }) ∧
      (s.clock.cycles < due → exec .callTimerExpiry s = .next s))

/-! ## The scheduler -/

/-- A due CALL and a due sweep, at an opportunity (R119). A CALL-NOW at the head of the control list in READY goes with a CALL that carries its demand
mark and a slot, when the slot can be reserved; where it cannot, or no CALL-NOW stands there, a CALL goes with neither when call due is set, and none
goes when it is clear; the call timer restarts and call due is cleared (R122, R120). A sweep, with no CALL to hand over, carries the whole ack set in
address order and reserves its budget's slots and, for a SWEEP-NOW in READY, one more; the budget is the least of the configured budget, the cached
descriptors and the slots that can still be reserved, less the SWEEP-NOW's own (R104); sweep due is cleared and the sweep timer restarts (R105 to
R107, R124). A SWEEP-NOW whose slot cannot be reserved is passed over: a sweep due is decided as for the timer alone, and with sweep due clear none
is sent (R206). A sweep due for the timer alone with budget 0 and nothing to acknowledge
is skipped (R105). A sweep decided, sent or skipped, with the cache empty raises BUFFERS-LOW: an unposted one is updated where it stands, and behind the
record write of one the raise is held (R106, R161, R162). That no element reserves a slot while the waiting claims and it are more than the slots, a due
sweep that needs one waiting for the claims, is the model's reading of R133 (log entry 12). -/
def Obligations.CallsAndSweepsHandedOver : Prop :=
  ∀ (s : State) (c : Configuration), MayHandOver s c →
    let interval := some (s.clock.cycles + c.callInterval * 16000)
    let noSlot := reservable s ≤ (claims s).length
    let passedOver := fun kind : RequestKind => ∀ p q, IsHead s .control p q → q.kind = kind → q.phase = .ready → noSlot
    let decided := fun cu : CompletionUnit => if s.ru.cache = [] then afterRaise buffersLowRaise cu else cu
    (∀ p q, IsHead s .control p q → q.kind = .callNow → q.phase = .ready → ¬noSlot →
      ∃ t, exec .dueCall s = .next t ∧ entry t p = some { q with phase := .inTransit } ∧ PoolKeptBut p s t ∧
      t = { s with
        rp := t.rp
        cu := { s.cu with reserved := s.cu.reserved + 1 }
        sc := { s.sc with callTimer := interval, callDue := false }
        tx := withWaiting s.tx callSymbols
        ls := { s.ls with transit := s.ls.transit ++ [{ plainEntry s.tx.nextId .call with demand := true, slots := 1 }] } }) ∧
    (passedOver .callNow →
      (s.sc.callDue = true → exec .dueCall s = .next { s with
        sc := { s.sc with callTimer := interval, callDue := false }
        tx := withWaiting s.tx callSymbols
        ls := { s.ls with transit := s.ls.transit ++ [plainEntry s.tx.nextId .call] } }) ∧
      (s.sc.callDue = false → exec .dueCall s = .next s)) ∧
    (∀ (demand : Bool) (budget : Nat), s.sc.callDue = false →
      (demand = true ∧ (∃ p q, IsHead s .control p q ∧ q.kind = .sweepNow ∧ q.phase = .ready) ∧ ¬noSlot ∧
        budget = min c.sweepBudget (min s.ru.cache.length (reservable s - 1)) ∨
       demand = false ∧ s.sc.sweepDue = true ∧ passedOver .callNow ∧ passedOver .sweepNow ∧
        budget = min c.sweepBudget (min s.ru.cache.length (reservable s)) ∧
        (1 ≤ budget ∧ ¬noSlot ∨ budget = 0 ∧ ∃ a : Addr, s.ru.acks[a] ≠ none)) →
      ∃ t pairs, exec .dueSweep s = .next t ∧
      (∀ a toggle, ({ address := a, toggle := toggle } : AckPair) ∈ pairs ↔
        ∃ x, s.ru.acks[a] = some x ∧ x.toggle = toggle) ∧
      pairs.Pairwise (fun x y => x.address < y.address) ∧
      t.tx = withWaiting s.tx (sweepSymbols budget pairs) ∧
      t.ls = { s.ls with transit := s.ls.transit ++
        [{ plainEntry s.tx.nextId .sweep with
             demand := demand, slots := if demand then budget + 1 else budget, length := budget, buffers := budget,
             acks := pairs }] } ∧
      t.ru = { s.ru with acks := t.ru.acks,
                         sweep := some { budget := budget, reserved := budget, items := 0, accepted := 0 } } ∧
      (∀ a : Addr, t.ru.acks[a] = (s.ru.acks[a]).map (fun x => { x with carried := true })) ∧
      t.sc = { s.sc with sweepDue := false, sweepTimer := freshSweepTimer s c } ∧
      t.cu = { decided s.cu with reserved := s.cu.reserved + (if demand then budget + 1 else budget) } ∧ t.hp = s.hp ∧
      t.st = s.st ∧ (demand = false → t.rp = s.rp) ∧
      (∀ p q, IsHead s .control p q → PoolKeptBut p s t ∧
        entry t p = some (if demand then { q with phase := .inTransit } else q))) ∧
    (s.sc.callDue = false → s.sc.sweepDue = true → passedOver .callNow → passedOver .sweepNow →
      (∀ a : Addr, s.ru.acks[a] = none) → c.sweepBudget = 0 ∨ s.ru.cache = [] ∨ reservable s = 0 → exec .dueSweep s =
        .next { s with sc := { s.sc with sweepDue := false, sweepTimer := freshSweepTimer s c }, cu := decided s.cu }) ∧
    (s.sc.callDue = false → s.sc.sweepDue = true → passedOver .callNow → passedOver .sweepNow →
      noSlot → 1 ≤ c.sweepBudget → s.ru.cache ≠ [] → 1 ≤ reservable s → exec .dueSweep s = .next s) ∧
    (s.sc.sweepDue = false → passedOver .sweepNow → exec .dueSweep s = .next s)

/-- A GROUP-POST and a REST, at an opportunity with no CALL and no sweep due. The GROUP-POST at the head of the control list in READY goes with its
payload, its expected count, the PRESENT stations of its group, taken now, and a slot (R125, R79, R64). The REST of an EXPEL that was taken up goes
with the slot it holds (R128, R67, R13). -/
def Obligations.GroupPostAndRestHandedOver : Prop :=
  ∀ (s : State) (c : Configuration), MayHandOver s c → s.sc.callDue = false → s.sc.sweepDue = false →
    (∀ p q, IsHead s .control p q → q.kind = .groupPost → q.phase = .ready → (claims s).length + 1 ≤ reservable s →
      ∃ t, exec .groupPost s = .next t ∧
      entry t p = some { q with
        phase := .inTransit, attempts := 1,
        expectedCount := some ((List.finRange 32).filter (fun a =>
          (station s a).state = .present ∧
          (q.address.toNat = 63 ∨ 48 ≤ q.address.toNat ∧ q.address.toNat ≤ 55 ∧
            (station s a).groups.getLsbD (q.address.toNat - 48) = true))).length } ∧
      PoolKeptBut p s t ∧
      t = { s with
        rp := t.rp
        cu := { s.cu with reserved := s.cu.reserved + 1 }
        tx := withWaiting s.tx (headFrameSymbols q.address .group false q.payload)
        ls := { s.ls with transit := s.ls.transit ++
          [{ plainEntry s.tx.nextId .group with
               frame := some .group, target := some q.address, length := q.payloadLength, pool := some p, slots := 1 }] } }) ∧
    (∀ a p q, (∀ p' q', IsHead s .control p' q' → q'.phase ≠ .ready) → IsHead s (.station a) p q → q.kind = .expel →
      q.takenUp = true → q.phase = .ready → q.cancelMark = false → headTimer s a ≠ .expired →
      (∀ b p' q', b ≠ a → IsHead s (.station b) p' q' → q'.takenUp = false) →
      ∃ t, exec .rest s = .next t ∧ entry t p = some { q with phase := .inTransit, attempts := 1 } ∧ PoolKeptBut p s t ∧
      t = { s with
        rp := t.rp
        tx := withWaiting s.tx (headFrameSymbols (BitVec.ofNat 8 (a.val + 1)) .rest false [] ++ [.control .fill, .control .fill])
        ls := { s.ls with transit := s.ls.transit ++
          [{ plainEntry s.tx.nextId .rest with
               frame := some .rest, target := some (BitVec.ofNat 8 (a.val + 1)), pool := some p, slots := 1 }] } })

/-- The station round, at an opportunity that nothing earlier in the order of choice takes. The station granted is the first, from the cursor upward
with the wrap, that is eligible and whose turn count is below its weight; when every eligible station has used its weight, every turn count returns to
0 first. Its turn count rises by 1, the cursor stays on it while the count is below its weight and moves to the next address otherwise. Its head goes
with its next frame, a slot, the toggle it was first sent under, or the station's command toggle on a first sending or after a JOIN reset, and becomes
the station's outstanding request (R126, R127, R77, R78, R50). -/
def Obligations.StationGranted : Prop :=
  ∀ (s : State) (c : Configuration) (a : Addr) (p : PoolIx) (q : PoolEntry) (frame : HeadFrame) (turns : Addr → Nat),
    MayHandOver s c → NothingEarlier s → (claims s).length + 1 ≤ reservable s → Eligible s a p q →
    q.nextFrame = some frame → (frame = .data ∨ frame = .fetch ∨ frame = .post) → (∀ b, 1 ≤ (station s b).weight) →
    ((∀ b : Addr, turns b = s.sc.turns[b]) ∧ turns a < (station s a).weight ∧
        (∀ b p' q', (b - s.sc.cursor).val < (a - s.sc.cursor).val → Eligible s b p' q' → (station s b).weight ≤ turns b) ∨
     (∀ b, turns b = 0) ∧ (∀ (b : Addr) p' q', Eligible s b p' q' → (station s b).weight ≤ s.sc.turns[b]) ∧
        (∀ b p' q', (b - s.sc.cursor).val < (a - s.sc.cursor).val → ¬Eligible s b p' q')) →
    ∃ t, exec .stationGrant s = .next t ∧
      let toggle := if q.joinReset then (station s a).commandToggle else q.toggleUsed.getD (station s a).commandToggle
      let payload := if frame = .fetch then [] else q.payload
      let sent := headFrameSymbols (BitVec.ofNat 8 (a.val + 1)) frame toggle payload
      t.sc = { s.sc with turns := t.sc.turns, cursor := if turns a + 1 < (station s a).weight then a else a + 1 } ∧
      (∀ b : Addr, t.sc.turns[b] = if b = a then turns a + 1 else turns b) ∧
      entry t p = some { q with phase := .inTransit, toggleUsed := some toggle, joinReset := false } ∧ PoolKeptBut p s t ∧
      station t a = { station s a with outstanding := some p } ∧ StationsKeptBut a s t ∧
      t = { s with
        rp := t.rp, st := t.st, sc := t.sc
        cu := { s.cu with reserved := s.cu.reserved + 1 }
        tx := withWaiting s.tx (if frame = .post then sent
          else sent ++ markerSymbols .turn [] ++ List.replicate 248 (.control .fill))
        ls := { s.ls with transit := s.ls.transit ++
          [{ plainEntry s.tx.nextId (if frame = .post then .post else .exch) with
               frame := some frame, target := some (BitVec.ofNat 8 (a.val + 1)), toggle := toggle,
               length := if frame = .fetch then 0 else q.payloadLength, pool := some p, slots := 1 }] } }

/-- Resolutions without loop traffic, with the engine RUNNING and the head's claim among those the reservable slots serve. When there are fewer slots
than claims, the claims are served in their order: the control list's, then the station lists' from the round cursor upward with the wrap (R133), and
a claim that is not served waits. The head of a station list is resolved by the first case that applies: CANCELLED with its cancel mark, TIMEOUT with its deadline expired, both but IN-TRANSIT; HOST-FAULT when its payload read
faulted; NOT-PRESENT for an EXCHANGE or POST, QUEUED or READY, whose station is not PRESENT. A GROUP-POST whose read faulted completes HOST-FAULT. An
EXPEL that waits for its REST is cancelled or timed out through the slot it holds (R130 to R133, R67). That a payload read of the request not yet
begun leaves the list of accesses is the model's reading (log entry 22), and the next request becomes head as it reads R75 (log entries 16 and
29). -/
def Obligations.ResolutionsWithoutLoopTraffic : Prop :=
  ∀ (s : State) (p : PoolIx) (q : PoolEntry), s.hp.engine = .running →
    (∀ l, l ∈ claims s ↔ Claims s l) ∧ (claims s).Pairwise (fun l m => claimPlace s l < claimPlace s m) ∧
    (∀ (a : Addr) (status : Status), IsHead s (.station a) p q → requestStation q = some a → q.expectedCount = none →
      (q.cancelMark = true ∧ q.phase ≠ .inTransit ∧ status = .cancelled ∨
       q.cancelMark = false ∧ headTimer s a = .expired ∧ q.phase ≠ .inTransit ∧ status = .timeout ∨
       q.cancelMark = false ∧ headTimer s a ≠ .expired ∧ q.phase ≠ .inTransit ∧ q.readFaulted = true ∧
         status = .hostFault ∨
       q.cancelMark = false ∧ headTimer s a ≠ .expired ∧ q.readFaulted = false ∧ isWork q.kind = true ∧
         (q.phase = .queued ∨ q.phase = .ready) ∧ (station s a).state ≠ .present ∧ status = .notPresent) →
      let resolved := fun t : State =>
        Resolves s t (accessesWithout p s) p q
          (workRecord q status q.attempts (waitsField q) 0 (station s a).state q.lastOutcome) ∧
        t.ls = s.ls ∧ StationsKeptBut a s t ∧ station t a = { station s a with
          outstanding := outstandingWithout p (station s a) }
      (q.takenUp = false → ClaimServed s (.station a) → ∃ t,
        exec (.resolutionWithoutLoopTraffic (.station a)) s = .next t ∧ resolved t ∧ t.cu.reserved = s.cu.reserved) ∧
      (q.takenUp = true → ∃ t, exec (.resolutionWithoutLoopTraffic (.station a)) s = .next t ∧ resolved t ∧
        t.cu.reserved = s.cu.reserved - 1) ∧
      (q.takenUp = false → ¬ClaimServed s (.station a) → exec (.resolutionWithoutLoopTraffic (.station a)) s = .next s)) ∧
    (IsHead s .control p q → q.kind = .groupPost → q.phase ≠ .inTransit → q.readFaulted = true →
      (1 ≤ reservable s → ∃ t, exec (.resolutionWithoutLoopTraffic .control) s = .next t ∧
        Resolves s t (accessesWithout p s) p q (controlRecord q .hostFault 0 0) ∧ t.cu.reserved = s.cu.reserved ∧
        t.ls = s.ls ∧ t.st = s.st) ∧
      (reservable s = 0 → exec (.resolutionWithoutLoopTraffic .control) s = .next s))

/-- The take-up of a station control request through a slot it claims, when its claim is among those the reservable slots serve, in the order of R133;
otherwise it waits. ADMIT makes a VACANT or BARRED station EXPECTED with failure count 0, and is
answered WRONG-STATE in any other state (R66). EXPEL bars a station that is not VACANT or BARRED: it completes at once, or, for a PRESENT station with the
loop OPEN, keeps its slot and waits for its REST; otherwise it is answered WRONG-STATE (R67). SET-STATION gives a station that is not VACANT its groups
and weight, 0 leaving the weight and more than 4 taken as 4, and is answered WRONG-STATE for a VACANT one (R69). FLUSH completes OK with the count it
marked (R70). The next request becomes head as the model reads R75 (log entries 16 and 29). -/
def Obligations.StationControlTakenUp : Prop :=
  ∀ (s : State) (a : Addr) (p : PoolIx) (q : PoolEntry), TakesUp s a p q →
    (¬ClaimServed s (.station a) → ∀ c ∈ [Instr.admission a, .expel a, .setStation a, .flush a], exec c s = .next s) ∧
    (ClaimServed s (.station a) →
    let done := fun (t : State) (status : Status) (x : Station) (count : Nat) =>
      Resolves s t (accessesWithout p s) p q
        { workRecord q status q.attempts 0 0 x.state q.lastOutcome with count := count } ∧
      t.cu.reserved = s.cu.reserved ∧ t.ls = s.ls ∧ StationsKeptBut a s t ∧ station t a = x
    let now := station s a
    (q.kind = .admission →
      (now.state = .vacant ∨ now.state = .barred → ∃ t, exec (.admission a) s = .next t ∧
        done t .ok { now with state := .expected, failures := 0 } 0) ∧
      (now.state ≠ .vacant → now.state ≠ .barred → ∃ t, exec (.admission a) s = .next t ∧ done t .wrongState now 0)) ∧
    (q.kind = .expel →
      (now.state = .vacant ∨ now.state = .barred → ∃ t, exec (.expel a) s = .next t ∧ done t .wrongState now 0) ∧
      (now.state = .present → s.ls.state = .opened → ∃ t, exec (.expel a) s = .next t ∧
        entry t p = some { q with takenUp := true } ∧ PoolKeptBut p s t ∧ StationsKeptBut a s t ∧
        station t a = { now with state := .barred } ∧ accesses t = accesses s ∧
        t = { s with hp := { s.hp with bus := t.hp.bus, queue := t.hp.queue }, rp := t.rp, st := t.st
                     cu := { s.cu with reserved := s.cu.reserved + 1 } }) ∧
      (now.state = .expected ∨ now.state = .silent ∨ now.state = .conflict ∨
          now.state = .present ∧ s.ls.state ≠ .opened → ∃ t, exec (.expel a) s = .next t ∧
        done t .ok { now with state := .barred } 0)) ∧
    (q.kind = .setStation →
      (now.state = .vacant → ∃ t, exec (.setStation a) s = .next t ∧ done t .wrongState now 0) ∧
      (now.state ≠ .vacant → ∃ t, exec (.setStation a) s = .next t ∧
        done t .ok { now with groups := q.groups, weight := if q.weight = 0 then now.weight else min 4 q.weight } 0)) ∧
    (q.kind = .flush → ∃ t, exec (.flush a) s = .next t ∧ done t .ok now q.cancelledCount))
end

