-- ==== Sys2Proof/Laws/State.lean ====
section
/-! SUPPORT. One lemma per field and update: what an update of the state does not touch, true by rfl -/

namespace Sys2Proof.Machine

/-! ## putStation -/

@[simp] theorem putStation_hp (a : Addr) (x : Station) (s : State) : (putStation a x s).hp = s.hp := rfl
@[simp] theorem putStation_ri (a : Addr) (x : Station) (s : State) : (putStation a x s).ri = s.ri := rfl
@[simp] theorem putStation_rp (a : Addr) (x : Station) (s : State) : (putStation a x s).rp = s.rp := rfl
@[simp] theorem putStation_sc (a : Addr) (x : Station) (s : State) : (putStation a x s).sc = s.sc := rfl
@[simp] theorem putStation_ls (a : Addr) (x : Station) (s : State) : (putStation a x s).ls = s.ls := rfl
@[simp] theorem putStation_tx (a : Addr) (x : Station) (s : State) : (putStation a x s).tx = s.tx := rfl
@[simp] theorem putStation_rx (a : Addr) (x : Station) (s : State) : (putStation a x s).rx = s.rx := rfl
@[simp] theorem putStation_ru (a : Addr) (x : Station) (s : State) : (putStation a x s).ru = s.ru := rfl
@[simp] theorem putStation_cu (a : Addr) (x : Station) (s : State) : (putStation a x s).cu = s.cu := rfl
@[simp] theorem putStation_clock (a : Addr) (x : Station) (s : State) : (putStation a x s).clock = s.clock := rfl
@[simp] theorem putStation_lineIn (a : Addr) (x : Station) (s : State) : (putStation a x s).lineIn = s.lineIn := rfl
@[simp] theorem putStation_pinsIn (a : Addr) (x : Station) (s : State) : (putStation a x s).pinsIn = s.pinsIn := rfl
@[simp] theorem putStation_choices (a : Addr) (x : Station) (s : State) : (putStation a x s).choices = s.choices := rfl
@[simp] theorem putStation_pending (a : Addr) (x : Station) (s : State) : (putStation a x s).pending = s.pending := rfl

/-! ## putEntry -/

@[simp] theorem putEntry_hp (p : PoolIx) (e : Option PoolEntry) (s : State) : (putEntry p e s).hp = s.hp := rfl
@[simp] theorem putEntry_ri (p : PoolIx) (e : Option PoolEntry) (s : State) : (putEntry p e s).ri = s.ri := rfl
@[simp] theorem putEntry_st (p : PoolIx) (e : Option PoolEntry) (s : State) : (putEntry p e s).st = s.st := rfl
@[simp] theorem putEntry_sc (p : PoolIx) (e : Option PoolEntry) (s : State) : (putEntry p e s).sc = s.sc := rfl
@[simp] theorem putEntry_ls (p : PoolIx) (e : Option PoolEntry) (s : State) : (putEntry p e s).ls = s.ls := rfl
@[simp] theorem putEntry_tx (p : PoolIx) (e : Option PoolEntry) (s : State) : (putEntry p e s).tx = s.tx := rfl
@[simp] theorem putEntry_rx (p : PoolIx) (e : Option PoolEntry) (s : State) : (putEntry p e s).rx = s.rx := rfl
@[simp] theorem putEntry_ru (p : PoolIx) (e : Option PoolEntry) (s : State) : (putEntry p e s).ru = s.ru := rfl
@[simp] theorem putEntry_cu (p : PoolIx) (e : Option PoolEntry) (s : State) : (putEntry p e s).cu = s.cu := rfl
@[simp] theorem putEntry_clock (p : PoolIx) (e : Option PoolEntry) (s : State) : (putEntry p e s).clock = s.clock := rfl
@[simp] theorem putEntry_lineIn (p : PoolIx) (e : Option PoolEntry) (s : State) : (putEntry p e s).lineIn = s.lineIn := rfl
@[simp] theorem putEntry_pinsIn (p : PoolIx) (e : Option PoolEntry) (s : State) : (putEntry p e s).pinsIn = s.pinsIn := rfl
@[simp] theorem putEntry_choices (p : PoolIx) (e : Option PoolEntry) (s : State) : (putEntry p e s).choices = s.choices := rfl
@[simp] theorem putEntry_pending (p : PoolIx) (e : Option PoolEntry) (s : State) : (putEntry p e s).pending = s.pending := rfl

/-! ## putHeadTimer -/

@[simp] theorem putHeadTimer_hp (a : Addr) (x : Timer) (s : State) : (putHeadTimer a x s).hp = s.hp := rfl
@[simp] theorem putHeadTimer_ri (a : Addr) (x : Timer) (s : State) : (putHeadTimer a x s).ri = s.ri := rfl
@[simp] theorem putHeadTimer_rp (a : Addr) (x : Timer) (s : State) : (putHeadTimer a x s).rp = s.rp := rfl
@[simp] theorem putHeadTimer_st (a : Addr) (x : Timer) (s : State) : (putHeadTimer a x s).st = s.st := rfl
@[simp] theorem putHeadTimer_ls (a : Addr) (x : Timer) (s : State) : (putHeadTimer a x s).ls = s.ls := rfl
@[simp] theorem putHeadTimer_tx (a : Addr) (x : Timer) (s : State) : (putHeadTimer a x s).tx = s.tx := rfl
@[simp] theorem putHeadTimer_rx (a : Addr) (x : Timer) (s : State) : (putHeadTimer a x s).rx = s.rx := rfl
@[simp] theorem putHeadTimer_ru (a : Addr) (x : Timer) (s : State) : (putHeadTimer a x s).ru = s.ru := rfl
@[simp] theorem putHeadTimer_cu (a : Addr) (x : Timer) (s : State) : (putHeadTimer a x s).cu = s.cu := rfl
@[simp] theorem putHeadTimer_clock (a : Addr) (x : Timer) (s : State) : (putHeadTimer a x s).clock = s.clock := rfl
@[simp] theorem putHeadTimer_lineIn (a : Addr) (x : Timer) (s : State) : (putHeadTimer a x s).lineIn = s.lineIn := rfl
@[simp] theorem putHeadTimer_pinsIn (a : Addr) (x : Timer) (s : State) : (putHeadTimer a x s).pinsIn = s.pinsIn := rfl
@[simp] theorem putHeadTimer_choices (a : Addr) (x : Timer) (s : State) : (putHeadTimer a x s).choices = s.choices := rfl
@[simp] theorem putHeadTimer_pending (a : Addr) (x : Timer) (s : State) : (putHeadTimer a x s).pending = s.pending := rfl

/-! ## reserveSlots -/

@[simp] theorem reserveSlots_hp (n : Nat) (s : State) : (reserveSlots n s).hp = s.hp := rfl
@[simp] theorem reserveSlots_ri (n : Nat) (s : State) : (reserveSlots n s).ri = s.ri := rfl
@[simp] theorem reserveSlots_rp (n : Nat) (s : State) : (reserveSlots n s).rp = s.rp := rfl
@[simp] theorem reserveSlots_st (n : Nat) (s : State) : (reserveSlots n s).st = s.st := rfl
@[simp] theorem reserveSlots_sc (n : Nat) (s : State) : (reserveSlots n s).sc = s.sc := rfl
@[simp] theorem reserveSlots_ls (n : Nat) (s : State) : (reserveSlots n s).ls = s.ls := rfl
@[simp] theorem reserveSlots_tx (n : Nat) (s : State) : (reserveSlots n s).tx = s.tx := rfl
@[simp] theorem reserveSlots_rx (n : Nat) (s : State) : (reserveSlots n s).rx = s.rx := rfl
@[simp] theorem reserveSlots_ru (n : Nat) (s : State) : (reserveSlots n s).ru = s.ru := rfl
@[simp] theorem reserveSlots_clock (n : Nat) (s : State) : (reserveSlots n s).clock = s.clock := rfl
@[simp] theorem reserveSlots_lineIn (n : Nat) (s : State) : (reserveSlots n s).lineIn = s.lineIn := rfl
@[simp] theorem reserveSlots_pinsIn (n : Nat) (s : State) : (reserveSlots n s).pinsIn = s.pinsIn := rfl
@[simp] theorem reserveSlots_choices (n : Nat) (s : State) : (reserveSlots n s).choices = s.choices := rfl
@[simp] theorem reserveSlots_pending (n : Nat) (s : State) : (reserveSlots n s).pending = s.pending := rfl

/-! ## giveBackSlots -/

@[simp] theorem giveBackSlots_hp (n : Nat) (s : State) : (giveBackSlots n s).hp = s.hp := rfl
@[simp] theorem giveBackSlots_ri (n : Nat) (s : State) : (giveBackSlots n s).ri = s.ri := rfl
@[simp] theorem giveBackSlots_rp (n : Nat) (s : State) : (giveBackSlots n s).rp = s.rp := rfl
@[simp] theorem giveBackSlots_st (n : Nat) (s : State) : (giveBackSlots n s).st = s.st := rfl
@[simp] theorem giveBackSlots_sc (n : Nat) (s : State) : (giveBackSlots n s).sc = s.sc := rfl
@[simp] theorem giveBackSlots_ls (n : Nat) (s : State) : (giveBackSlots n s).ls = s.ls := rfl
@[simp] theorem giveBackSlots_tx (n : Nat) (s : State) : (giveBackSlots n s).tx = s.tx := rfl
@[simp] theorem giveBackSlots_rx (n : Nat) (s : State) : (giveBackSlots n s).rx = s.rx := rfl
@[simp] theorem giveBackSlots_ru (n : Nat) (s : State) : (giveBackSlots n s).ru = s.ru := rfl
@[simp] theorem giveBackSlots_clock (n : Nat) (s : State) : (giveBackSlots n s).clock = s.clock := rfl
@[simp] theorem giveBackSlots_lineIn (n : Nat) (s : State) : (giveBackSlots n s).lineIn = s.lineIn := rfl
@[simp] theorem giveBackSlots_pinsIn (n : Nat) (s : State) : (giveBackSlots n s).pinsIn = s.pinsIn := rfl
@[simp] theorem giveBackSlots_choices (n : Nat) (s : State) : (giveBackSlots n s).choices = s.choices := rfl
@[simp] theorem giveBackSlots_pending (n : Nat) (s : State) : (giveBackSlots n s).pending = s.pending := rfl

/-! ## enterRecord -/

@[simp] theorem enterRecord_hp (r : CompletionRecord) (u : SlotUse) (s : State) : (enterRecord r u s).hp = s.hp := rfl
@[simp] theorem enterRecord_ri (r : CompletionRecord) (u : SlotUse) (s : State) : (enterRecord r u s).ri = s.ri := rfl
@[simp] theorem enterRecord_rp (r : CompletionRecord) (u : SlotUse) (s : State) : (enterRecord r u s).rp = s.rp := rfl
@[simp] theorem enterRecord_st (r : CompletionRecord) (u : SlotUse) (s : State) : (enterRecord r u s).st = s.st := rfl
@[simp] theorem enterRecord_sc (r : CompletionRecord) (u : SlotUse) (s : State) : (enterRecord r u s).sc = s.sc := rfl
@[simp] theorem enterRecord_ls (r : CompletionRecord) (u : SlotUse) (s : State) : (enterRecord r u s).ls = s.ls := rfl
@[simp] theorem enterRecord_tx (r : CompletionRecord) (u : SlotUse) (s : State) : (enterRecord r u s).tx = s.tx := rfl
@[simp] theorem enterRecord_rx (r : CompletionRecord) (u : SlotUse) (s : State) : (enterRecord r u s).rx = s.rx := rfl
@[simp] theorem enterRecord_ru (r : CompletionRecord) (u : SlotUse) (s : State) : (enterRecord r u s).ru = s.ru := rfl
@[simp] theorem enterRecord_clock (r : CompletionRecord) (u : SlotUse) (s : State) : (enterRecord r u s).clock = s.clock := rfl
@[simp] theorem enterRecord_lineIn (r : CompletionRecord) (u : SlotUse) (s : State) : (enterRecord r u s).lineIn = s.lineIn := rfl
@[simp] theorem enterRecord_pinsIn (r : CompletionRecord) (u : SlotUse) (s : State) : (enterRecord r u s).pinsIn = s.pinsIn := rfl
@[simp] theorem enterRecord_choices (r : CompletionRecord) (u : SlotUse) (s : State) : (enterRecord r u s).choices = s.choices := rfl
@[simp] theorem enterRecord_pending (r : CompletionRecord) (u : SlotUse) (s : State) : (enterRecord r u s).pending = s.pending := rfl

/-! ## requestAccess -/

@[simp] theorem requestAccess_ri (x : Access) (s : State) : (requestAccess x s).ri = s.ri := rfl
@[simp] theorem requestAccess_rp (x : Access) (s : State) : (requestAccess x s).rp = s.rp := rfl
@[simp] theorem requestAccess_st (x : Access) (s : State) : (requestAccess x s).st = s.st := rfl
@[simp] theorem requestAccess_sc (x : Access) (s : State) : (requestAccess x s).sc = s.sc := rfl
@[simp] theorem requestAccess_ls (x : Access) (s : State) : (requestAccess x s).ls = s.ls := rfl
@[simp] theorem requestAccess_tx (x : Access) (s : State) : (requestAccess x s).tx = s.tx := rfl
@[simp] theorem requestAccess_rx (x : Access) (s : State) : (requestAccess x s).rx = s.rx := rfl
@[simp] theorem requestAccess_ru (x : Access) (s : State) : (requestAccess x s).ru = s.ru := rfl
@[simp] theorem requestAccess_cu (x : Access) (s : State) : (requestAccess x s).cu = s.cu := rfl
@[simp] theorem requestAccess_clock (x : Access) (s : State) : (requestAccess x s).clock = s.clock := rfl
@[simp] theorem requestAccess_lineIn (x : Access) (s : State) : (requestAccess x s).lineIn = s.lineIn := rfl
@[simp] theorem requestAccess_pinsIn (x : Access) (s : State) : (requestAccess x s).pinsIn = s.pinsIn := rfl
@[simp] theorem requestAccess_choices (x : Access) (s : State) : (requestAccess x s).choices = s.choices := rfl
@[simp] theorem requestAccess_pending (x : Access) (s : State) : (requestAccess x s).pending = s.pending := rfl

/-! ## freeBus -/

@[simp] theorem freeBus_ri (s : State) : (freeBus s).ri = s.ri := rfl
@[simp] theorem freeBus_rp (s : State) : (freeBus s).rp = s.rp := rfl
@[simp] theorem freeBus_st (s : State) : (freeBus s).st = s.st := rfl
@[simp] theorem freeBus_sc (s : State) : (freeBus s).sc = s.sc := rfl
@[simp] theorem freeBus_ls (s : State) : (freeBus s).ls = s.ls := rfl
@[simp] theorem freeBus_tx (s : State) : (freeBus s).tx = s.tx := rfl
@[simp] theorem freeBus_rx (s : State) : (freeBus s).rx = s.rx := rfl
@[simp] theorem freeBus_ru (s : State) : (freeBus s).ru = s.ru := rfl
@[simp] theorem freeBus_cu (s : State) : (freeBus s).cu = s.cu := rfl
@[simp] theorem freeBus_clock (s : State) : (freeBus s).clock = s.clock := rfl
@[simp] theorem freeBus_lineIn (s : State) : (freeBus s).lineIn = s.lineIn := rfl
@[simp] theorem freeBus_pinsIn (s : State) : (freeBus s).pinsIn = s.pinsIn := rfl
@[simp] theorem freeBus_choices (s : State) : (freeBus s).choices = s.choices := rfl
@[simp] theorem freeBus_pending (s : State) : (freeBus s).pending = s.pending := rfl

/-! ## discardAccesses -/

@[simp] theorem discardAccesses_ri (p : PoolIx) (s : State) : (discardAccesses p s).ri = s.ri := rfl
@[simp] theorem discardAccesses_rp (p : PoolIx) (s : State) : (discardAccesses p s).rp = s.rp := rfl
@[simp] theorem discardAccesses_st (p : PoolIx) (s : State) : (discardAccesses p s).st = s.st := rfl
@[simp] theorem discardAccesses_sc (p : PoolIx) (s : State) : (discardAccesses p s).sc = s.sc := rfl
@[simp] theorem discardAccesses_ls (p : PoolIx) (s : State) : (discardAccesses p s).ls = s.ls := rfl
@[simp] theorem discardAccesses_tx (p : PoolIx) (s : State) : (discardAccesses p s).tx = s.tx := rfl
@[simp] theorem discardAccesses_rx (p : PoolIx) (s : State) : (discardAccesses p s).rx = s.rx := rfl
@[simp] theorem discardAccesses_ru (p : PoolIx) (s : State) : (discardAccesses p s).ru = s.ru := rfl
@[simp] theorem discardAccesses_cu (p : PoolIx) (s : State) : (discardAccesses p s).cu = s.cu := rfl
@[simp] theorem discardAccesses_clock (p : PoolIx) (s : State) : (discardAccesses p s).clock = s.clock := rfl
@[simp] theorem discardAccesses_lineIn (p : PoolIx) (s : State) : (discardAccesses p s).lineIn = s.lineIn := rfl
@[simp] theorem discardAccesses_pinsIn (p : PoolIx) (s : State) : (discardAccesses p s).pinsIn = s.pinsIn := rfl
@[simp] theorem discardAccesses_choices (p : PoolIx) (s : State) : (discardAccesses p s).choices = s.choices := rfl
@[simp] theorem discardAccesses_pending (p : PoolIx) (s : State) : (discardAccesses p s).pending = s.pending := rfl

/-! ## joinRequests -/

@[simp] theorem joinRequests_ri (n : Nat) (s : State) : (joinRequests n s).ri = s.ri := rfl
@[simp] theorem joinRequests_rp (n : Nat) (s : State) : (joinRequests n s).rp = s.rp := rfl
@[simp] theorem joinRequests_st (n : Nat) (s : State) : (joinRequests n s).st = s.st := rfl
@[simp] theorem joinRequests_sc (n : Nat) (s : State) : (joinRequests n s).sc = s.sc := rfl
@[simp] theorem joinRequests_ls (n : Nat) (s : State) : (joinRequests n s).ls = s.ls := rfl
@[simp] theorem joinRequests_tx (n : Nat) (s : State) : (joinRequests n s).tx = s.tx := rfl
@[simp] theorem joinRequests_rx (n : Nat) (s : State) : (joinRequests n s).rx = s.rx := rfl
@[simp] theorem joinRequests_ru (n : Nat) (s : State) : (joinRequests n s).ru = s.ru := rfl
@[simp] theorem joinRequests_cu (n : Nat) (s : State) : (joinRequests n s).cu = s.cu := rfl
@[simp] theorem joinRequests_clock (n : Nat) (s : State) : (joinRequests n s).clock = s.clock := rfl
@[simp] theorem joinRequests_lineIn (n : Nat) (s : State) : (joinRequests n s).lineIn = s.lineIn := rfl
@[simp] theorem joinRequests_pinsIn (n : Nat) (s : State) : (joinRequests n s).pinsIn = s.pinsIn := rfl
@[simp] theorem joinRequests_pending (n : Nat) (s : State) : (joinRequests n s).pending = s.pending := rfl

/-! ## setCause -/

@[simp] theorem setCause_hp (c : Cause) (s : State) : (setCause c s).hp = s.hp := rfl
@[simp] theorem setCause_ri (c : Cause) (s : State) : (setCause c s).ri = s.ri := rfl
@[simp] theorem setCause_rp (c : Cause) (s : State) : (setCause c s).rp = s.rp := rfl
@[simp] theorem setCause_st (c : Cause) (s : State) : (setCause c s).st = s.st := rfl
@[simp] theorem setCause_sc (c : Cause) (s : State) : (setCause c s).sc = s.sc := rfl
@[simp] theorem setCause_ls (c : Cause) (s : State) : (setCause c s).ls = s.ls := rfl
@[simp] theorem setCause_tx (c : Cause) (s : State) : (setCause c s).tx = s.tx := rfl
@[simp] theorem setCause_rx (c : Cause) (s : State) : (setCause c s).rx = s.rx := rfl
@[simp] theorem setCause_ru (c : Cause) (s : State) : (setCause c s).ru = s.ru := rfl
@[simp] theorem setCause_clock (c : Cause) (s : State) : (setCause c s).clock = s.clock := rfl
@[simp] theorem setCause_lineIn (c : Cause) (s : State) : (setCause c s).lineIn = s.lineIn := rfl
@[simp] theorem setCause_pinsIn (c : Cause) (s : State) : (setCause c s).pinsIn = s.pinsIn := rfl
@[simp] theorem setCause_choices (c : Cause) (s : State) : (setCause c s).choices = s.choices := rfl
@[simp] theorem setCause_pending (c : Cause) (s : State) : (setCause c s).pending = s.pending := rfl

/-! ## registerError -/

@[simp] theorem registerError_ri (e : RegisterError) (s : State) : (registerError e s).ri = s.ri := rfl
@[simp] theorem registerError_rp (e : RegisterError) (s : State) : (registerError e s).rp = s.rp := rfl
@[simp] theorem registerError_st (e : RegisterError) (s : State) : (registerError e s).st = s.st := rfl
@[simp] theorem registerError_sc (e : RegisterError) (s : State) : (registerError e s).sc = s.sc := rfl
@[simp] theorem registerError_ls (e : RegisterError) (s : State) : (registerError e s).ls = s.ls := rfl
@[simp] theorem registerError_tx (e : RegisterError) (s : State) : (registerError e s).tx = s.tx := rfl
@[simp] theorem registerError_rx (e : RegisterError) (s : State) : (registerError e s).rx = s.rx := rfl
@[simp] theorem registerError_ru (e : RegisterError) (s : State) : (registerError e s).ru = s.ru := rfl
@[simp] theorem registerError_clock (e : RegisterError) (s : State) : (registerError e s).clock = s.clock := rfl
@[simp] theorem registerError_lineIn (e : RegisterError) (s : State) : (registerError e s).lineIn = s.lineIn := rfl
@[simp] theorem registerError_pinsIn (e : RegisterError) (s : State) : (registerError e s).pinsIn = s.pinsIn := rfl
@[simp] theorem registerError_choices (e : RegisterError) (s : State) : (registerError e s).choices = s.choices := rfl
@[simp] theorem registerError_pending (e : RegisterError) (s : State) : (registerError e s).pending = s.pending := rfl

/-! ## putAck -/

@[simp] theorem putAck_hp (a : Addr) (x : Option AckEntry) (s : State) : (putAck a x s).hp = s.hp := rfl
@[simp] theorem putAck_ri (a : Addr) (x : Option AckEntry) (s : State) : (putAck a x s).ri = s.ri := rfl
@[simp] theorem putAck_rp (a : Addr) (x : Option AckEntry) (s : State) : (putAck a x s).rp = s.rp := rfl
@[simp] theorem putAck_st (a : Addr) (x : Option AckEntry) (s : State) : (putAck a x s).st = s.st := rfl
@[simp] theorem putAck_sc (a : Addr) (x : Option AckEntry) (s : State) : (putAck a x s).sc = s.sc := rfl
@[simp] theorem putAck_ls (a : Addr) (x : Option AckEntry) (s : State) : (putAck a x s).ls = s.ls := rfl
@[simp] theorem putAck_tx (a : Addr) (x : Option AckEntry) (s : State) : (putAck a x s).tx = s.tx := rfl
@[simp] theorem putAck_rx (a : Addr) (x : Option AckEntry) (s : State) : (putAck a x s).rx = s.rx := rfl
@[simp] theorem putAck_cu (a : Addr) (x : Option AckEntry) (s : State) : (putAck a x s).cu = s.cu := rfl
@[simp] theorem putAck_clock (a : Addr) (x : Option AckEntry) (s : State) : (putAck a x s).clock = s.clock := rfl
@[simp] theorem putAck_lineIn (a : Addr) (x : Option AckEntry) (s : State) : (putAck a x s).lineIn = s.lineIn := rfl
@[simp] theorem putAck_pinsIn (a : Addr) (x : Option AckEntry) (s : State) : (putAck a x s).pinsIn = s.pinsIn := rfl
@[simp] theorem putAck_choices (a : Addr) (x : Option AckEntry) (s : State) : (putAck a x s).choices = s.choices := rfl
@[simp] theorem putAck_pending (a : Addr) (x : Option AckEntry) (s : State) : (putAck a x s).pending = s.pending := rfl

/-! ## mapAcks -/

@[simp] theorem mapAcks_hp (f : AckEntry → Option AckEntry) (s : State) : (mapAcks f s).hp = s.hp := rfl
@[simp] theorem mapAcks_ri (f : AckEntry → Option AckEntry) (s : State) : (mapAcks f s).ri = s.ri := rfl
@[simp] theorem mapAcks_rp (f : AckEntry → Option AckEntry) (s : State) : (mapAcks f s).rp = s.rp := rfl
@[simp] theorem mapAcks_st (f : AckEntry → Option AckEntry) (s : State) : (mapAcks f s).st = s.st := rfl
@[simp] theorem mapAcks_sc (f : AckEntry → Option AckEntry) (s : State) : (mapAcks f s).sc = s.sc := rfl
@[simp] theorem mapAcks_ls (f : AckEntry → Option AckEntry) (s : State) : (mapAcks f s).ls = s.ls := rfl
@[simp] theorem mapAcks_tx (f : AckEntry → Option AckEntry) (s : State) : (mapAcks f s).tx = s.tx := rfl
@[simp] theorem mapAcks_rx (f : AckEntry → Option AckEntry) (s : State) : (mapAcks f s).rx = s.rx := rfl
@[simp] theorem mapAcks_cu (f : AckEntry → Option AckEntry) (s : State) : (mapAcks f s).cu = s.cu := rfl
@[simp] theorem mapAcks_clock (f : AckEntry → Option AckEntry) (s : State) : (mapAcks f s).clock = s.clock := rfl
@[simp] theorem mapAcks_lineIn (f : AckEntry → Option AckEntry) (s : State) : (mapAcks f s).lineIn = s.lineIn := rfl
@[simp] theorem mapAcks_pinsIn (f : AckEntry → Option AckEntry) (s : State) : (mapAcks f s).pinsIn = s.pinsIn := rfl
@[simp] theorem mapAcks_choices (f : AckEntry → Option AckEntry) (s : State) : (mapAcks f s).choices = s.choices := rfl
@[simp] theorem mapAcks_pending (f : AckEntry → Option AckEntry) (s : State) : (mapAcks f s).pending = s.pending := rfl

/-! ## countReportItem -/

@[simp] theorem countReportItem_hp (s : State) : (countReportItem s).hp = s.hp := rfl
@[simp] theorem countReportItem_ri (s : State) : (countReportItem s).ri = s.ri := rfl
@[simp] theorem countReportItem_rp (s : State) : (countReportItem s).rp = s.rp := rfl
@[simp] theorem countReportItem_st (s : State) : (countReportItem s).st = s.st := rfl
@[simp] theorem countReportItem_sc (s : State) : (countReportItem s).sc = s.sc := rfl
@[simp] theorem countReportItem_ls (s : State) : (countReportItem s).ls = s.ls := rfl
@[simp] theorem countReportItem_tx (s : State) : (countReportItem s).tx = s.tx := rfl
@[simp] theorem countReportItem_rx (s : State) : (countReportItem s).rx = s.rx := rfl
@[simp] theorem countReportItem_cu (s : State) : (countReportItem s).cu = s.cu := rfl
@[simp] theorem countReportItem_clock (s : State) : (countReportItem s).clock = s.clock := rfl
@[simp] theorem countReportItem_lineIn (s : State) : (countReportItem s).lineIn = s.lineIn := rfl
@[simp] theorem countReportItem_pinsIn (s : State) : (countReportItem s).pinsIn = s.pinsIn := rfl
@[simp] theorem countReportItem_choices (s : State) : (countReportItem s).choices = s.choices := rfl
@[simp] theorem countReportItem_pending (s : State) : (countReportItem s).pending = s.pending := rfl

/-! ## popOldest -/

@[simp] theorem popOldest_hp (s : State) : (popOldest s).hp = s.hp := rfl
@[simp] theorem popOldest_ri (s : State) : (popOldest s).ri = s.ri := rfl
@[simp] theorem popOldest_rp (s : State) : (popOldest s).rp = s.rp := rfl
@[simp] theorem popOldest_st (s : State) : (popOldest s).st = s.st := rfl
@[simp] theorem popOldest_sc (s : State) : (popOldest s).sc = s.sc := rfl
@[simp] theorem popOldest_tx (s : State) : (popOldest s).tx = s.tx := rfl
@[simp] theorem popOldest_rx (s : State) : (popOldest s).rx = s.rx := rfl
@[simp] theorem popOldest_ru (s : State) : (popOldest s).ru = s.ru := rfl
@[simp] theorem popOldest_cu (s : State) : (popOldest s).cu = s.cu := rfl
@[simp] theorem popOldest_clock (s : State) : (popOldest s).clock = s.clock := rfl
@[simp] theorem popOldest_lineIn (s : State) : (popOldest s).lineIn = s.lineIn := rfl
@[simp] theorem popOldest_pinsIn (s : State) : (popOldest s).pinsIn = s.pinsIn := rfl
@[simp] theorem popOldest_choices (s : State) : (popOldest s).choices = s.choices := rfl
@[simp] theorem popOldest_pending (s : State) : (popOldest s).pending = s.pending := rfl

/-! ## handOver -/

@[simp] theorem handOver_hp (e : TransitEntry) (run : List Symbol) (s : State) : (handOver e run s).hp = s.hp := rfl
@[simp] theorem handOver_ri (e : TransitEntry) (run : List Symbol) (s : State) : (handOver e run s).ri = s.ri := rfl
@[simp] theorem handOver_rp (e : TransitEntry) (run : List Symbol) (s : State) : (handOver e run s).rp = s.rp := rfl
@[simp] theorem handOver_st (e : TransitEntry) (run : List Symbol) (s : State) : (handOver e run s).st = s.st := rfl
@[simp] theorem handOver_sc (e : TransitEntry) (run : List Symbol) (s : State) : (handOver e run s).sc = s.sc := rfl
@[simp] theorem handOver_rx (e : TransitEntry) (run : List Symbol) (s : State) : (handOver e run s).rx = s.rx := rfl
@[simp] theorem handOver_ru (e : TransitEntry) (run : List Symbol) (s : State) : (handOver e run s).ru = s.ru := rfl
@[simp] theorem handOver_cu (e : TransitEntry) (run : List Symbol) (s : State) : (handOver e run s).cu = s.cu := rfl
@[simp] theorem handOver_clock (e : TransitEntry) (run : List Symbol) (s : State) : (handOver e run s).clock = s.clock := rfl
@[simp] theorem handOver_lineIn (e : TransitEntry) (run : List Symbol) (s : State) : (handOver e run s).lineIn = s.lineIn := rfl
@[simp] theorem handOver_pinsIn (e : TransitEntry) (run : List Symbol) (s : State) : (handOver e run s).pinsIn = s.pinsIn := rfl
@[simp] theorem handOver_choices (e : TransitEntry) (run : List Symbol) (s : State) : (handOver e run s).choices = s.choices := rfl
@[simp] theorem handOver_pending (e : TransitEntry) (run : List Symbol) (s : State) : (handOver e run s).pending = s.pending := rfl

/-! ## restartCallTimer -/

@[simp] theorem restartCallTimer_hp (s : State) : (restartCallTimer s).hp = s.hp := rfl
@[simp] theorem restartCallTimer_ri (s : State) : (restartCallTimer s).ri = s.ri := rfl
@[simp] theorem restartCallTimer_rp (s : State) : (restartCallTimer s).rp = s.rp := rfl
@[simp] theorem restartCallTimer_st (s : State) : (restartCallTimer s).st = s.st := rfl
@[simp] theorem restartCallTimer_ls (s : State) : (restartCallTimer s).ls = s.ls := rfl
@[simp] theorem restartCallTimer_tx (s : State) : (restartCallTimer s).tx = s.tx := rfl
@[simp] theorem restartCallTimer_rx (s : State) : (restartCallTimer s).rx = s.rx := rfl
@[simp] theorem restartCallTimer_ru (s : State) : (restartCallTimer s).ru = s.ru := rfl
@[simp] theorem restartCallTimer_cu (s : State) : (restartCallTimer s).cu = s.cu := rfl
@[simp] theorem restartCallTimer_clock (s : State) : (restartCallTimer s).clock = s.clock := rfl
@[simp] theorem restartCallTimer_lineIn (s : State) : (restartCallTimer s).lineIn = s.lineIn := rfl
@[simp] theorem restartCallTimer_pinsIn (s : State) : (restartCallTimer s).pinsIn = s.pinsIn := rfl
@[simp] theorem restartCallTimer_choices (s : State) : (restartCallTimer s).choices = s.choices := rfl
@[simp] theorem restartCallTimer_pending (s : State) : (restartCallTimer s).pending = s.pending := rfl

/-! ## startSettle -/

@[simp] theorem startSettle_hp (s : State) : (startSettle s).hp = s.hp := rfl
@[simp] theorem startSettle_ri (s : State) : (startSettle s).ri = s.ri := rfl
@[simp] theorem startSettle_rp (s : State) : (startSettle s).rp = s.rp := rfl
@[simp] theorem startSettle_st (s : State) : (startSettle s).st = s.st := rfl
@[simp] theorem startSettle_sc (s : State) : (startSettle s).sc = s.sc := rfl
@[simp] theorem startSettle_tx (s : State) : (startSettle s).tx = s.tx := rfl
@[simp] theorem startSettle_rx (s : State) : (startSettle s).rx = s.rx := rfl
@[simp] theorem startSettle_ru (s : State) : (startSettle s).ru = s.ru := rfl
@[simp] theorem startSettle_cu (s : State) : (startSettle s).cu = s.cu := rfl
@[simp] theorem startSettle_clock (s : State) : (startSettle s).clock = s.clock := rfl
@[simp] theorem startSettle_lineIn (s : State) : (startSettle s).lineIn = s.lineIn := rfl
@[simp] theorem startSettle_pinsIn (s : State) : (startSettle s).pinsIn = s.pinsIn := rfl
@[simp] theorem startSettle_choices (s : State) : (startSettle s).choices = s.choices := rfl
@[simp] theorem startSettle_pending (s : State) : (startSettle s).pending = s.pending := rfl

/-! ## addJoins -/

@[simp] theorem addJoins_hp (r : List (Addr × Bool)) (s : State) : (addJoins r s).hp = s.hp := rfl
@[simp] theorem addJoins_ri (r : List (Addr × Bool)) (s : State) : (addJoins r s).ri = s.ri := rfl
@[simp] theorem addJoins_rp (r : List (Addr × Bool)) (s : State) : (addJoins r s).rp = s.rp := rfl
@[simp] theorem addJoins_st (r : List (Addr × Bool)) (s : State) : (addJoins r s).st = s.st := rfl
@[simp] theorem addJoins_sc (r : List (Addr × Bool)) (s : State) : (addJoins r s).sc = s.sc := rfl
@[simp] theorem addJoins_tx (r : List (Addr × Bool)) (s : State) : (addJoins r s).tx = s.tx := rfl
@[simp] theorem addJoins_rx (r : List (Addr × Bool)) (s : State) : (addJoins r s).rx = s.rx := rfl
@[simp] theorem addJoins_ru (r : List (Addr × Bool)) (s : State) : (addJoins r s).ru = s.ru := rfl
@[simp] theorem addJoins_cu (r : List (Addr × Bool)) (s : State) : (addJoins r s).cu = s.cu := rfl
@[simp] theorem addJoins_clock (r : List (Addr × Bool)) (s : State) : (addJoins r s).clock = s.clock := rfl
@[simp] theorem addJoins_lineIn (r : List (Addr × Bool)) (s : State) : (addJoins r s).lineIn = s.lineIn := rfl
@[simp] theorem addJoins_pinsIn (r : List (Addr × Bool)) (s : State) : (addJoins r s).pinsIn = s.pinsIn := rfl
@[simp] theorem addJoins_choices (r : List (Addr × Bool)) (s : State) : (addJoins r s).choices = s.choices := rfl
@[simp] theorem addJoins_pending (r : List (Addr × Bool)) (s : State) : (addJoins r s).pending = s.pending := rfl

/-! ## flipCommandToggle -/

@[simp] theorem flipCommandToggle_hp (a : Addr) (s : State) : (flipCommandToggle a s).hp = s.hp := rfl
@[simp] theorem flipCommandToggle_ri (a : Addr) (s : State) : (flipCommandToggle a s).ri = s.ri := rfl
@[simp] theorem flipCommandToggle_rp (a : Addr) (s : State) : (flipCommandToggle a s).rp = s.rp := rfl
@[simp] theorem flipCommandToggle_sc (a : Addr) (s : State) : (flipCommandToggle a s).sc = s.sc := rfl
@[simp] theorem flipCommandToggle_ls (a : Addr) (s : State) : (flipCommandToggle a s).ls = s.ls := rfl
@[simp] theorem flipCommandToggle_tx (a : Addr) (s : State) : (flipCommandToggle a s).tx = s.tx := rfl
@[simp] theorem flipCommandToggle_rx (a : Addr) (s : State) : (flipCommandToggle a s).rx = s.rx := rfl
@[simp] theorem flipCommandToggle_ru (a : Addr) (s : State) : (flipCommandToggle a s).ru = s.ru := rfl
@[simp] theorem flipCommandToggle_cu (a : Addr) (s : State) : (flipCommandToggle a s).cu = s.cu := rfl
@[simp] theorem flipCommandToggle_clock (a : Addr) (s : State) : (flipCommandToggle a s).clock = s.clock := rfl
@[simp] theorem flipCommandToggle_lineIn (a : Addr) (s : State) : (flipCommandToggle a s).lineIn = s.lineIn := rfl
@[simp] theorem flipCommandToggle_pinsIn (a : Addr) (s : State) : (flipCommandToggle a s).pinsIn = s.pinsIn := rfl
@[simp] theorem flipCommandToggle_choices (a : Addr) (s : State) : (flipCommandToggle a s).choices = s.choices := rfl
@[simp] theorem flipCommandToggle_pending (a : Addr) (s : State) : (flipCommandToggle a s).pending = s.pending := rfl

/-! ## clearFailures -/

@[simp] theorem clearFailures_hp (a : Addr) (s : State) : (clearFailures a s).hp = s.hp := rfl
@[simp] theorem clearFailures_ri (a : Addr) (s : State) : (clearFailures a s).ri = s.ri := rfl
@[simp] theorem clearFailures_rp (a : Addr) (s : State) : (clearFailures a s).rp = s.rp := rfl
@[simp] theorem clearFailures_sc (a : Addr) (s : State) : (clearFailures a s).sc = s.sc := rfl
@[simp] theorem clearFailures_ls (a : Addr) (s : State) : (clearFailures a s).ls = s.ls := rfl
@[simp] theorem clearFailures_tx (a : Addr) (s : State) : (clearFailures a s).tx = s.tx := rfl
@[simp] theorem clearFailures_rx (a : Addr) (s : State) : (clearFailures a s).rx = s.rx := rfl
@[simp] theorem clearFailures_ru (a : Addr) (s : State) : (clearFailures a s).ru = s.ru := rfl
@[simp] theorem clearFailures_cu (a : Addr) (s : State) : (clearFailures a s).cu = s.cu := rfl
@[simp] theorem clearFailures_clock (a : Addr) (s : State) : (clearFailures a s).clock = s.clock := rfl
@[simp] theorem clearFailures_lineIn (a : Addr) (s : State) : (clearFailures a s).lineIn = s.lineIn := rfl
@[simp] theorem clearFailures_pinsIn (a : Addr) (s : State) : (clearFailures a s).pinsIn = s.pinsIn := rfl
@[simp] theorem clearFailures_choices (a : Addr) (s : State) : (clearFailures a s).choices = s.choices := rfl
@[simp] theorem clearFailures_pending (a : Addr) (s : State) : (clearFailures a s).pending = s.pending := rfl

/-! ## startSweepTimer -/

@[simp] theorem startSweepTimer_hp (s : State) : (startSweepTimer s).hp = s.hp := rfl
@[simp] theorem startSweepTimer_ri (s : State) : (startSweepTimer s).ri = s.ri := rfl
@[simp] theorem startSweepTimer_rp (s : State) : (startSweepTimer s).rp = s.rp := rfl
@[simp] theorem startSweepTimer_st (s : State) : (startSweepTimer s).st = s.st := rfl
@[simp] theorem startSweepTimer_ls (s : State) : (startSweepTimer s).ls = s.ls := rfl
@[simp] theorem startSweepTimer_tx (s : State) : (startSweepTimer s).tx = s.tx := rfl
@[simp] theorem startSweepTimer_rx (s : State) : (startSweepTimer s).rx = s.rx := rfl
@[simp] theorem startSweepTimer_ru (s : State) : (startSweepTimer s).ru = s.ru := rfl
@[simp] theorem startSweepTimer_cu (s : State) : (startSweepTimer s).cu = s.cu := rfl
@[simp] theorem startSweepTimer_clock (s : State) : (startSweepTimer s).clock = s.clock := rfl
@[simp] theorem startSweepTimer_lineIn (s : State) : (startSweepTimer s).lineIn = s.lineIn := rfl
@[simp] theorem startSweepTimer_pinsIn (s : State) : (startSweepTimer s).pinsIn = s.pinsIn := rfl
@[simp] theorem startSweepTimer_choices (s : State) : (startSweepTimer s).choices = s.choices := rfl
@[simp] theorem startSweepTimer_pending (s : State) : (startSweepTimer s).pending = s.pending := rfl

/-! ## stopIntervalTimers -/

@[simp] theorem stopIntervalTimers_hp (s : State) : (stopIntervalTimers s).hp = s.hp := rfl
@[simp] theorem stopIntervalTimers_ri (s : State) : (stopIntervalTimers s).ri = s.ri := rfl
@[simp] theorem stopIntervalTimers_rp (s : State) : (stopIntervalTimers s).rp = s.rp := rfl
@[simp] theorem stopIntervalTimers_st (s : State) : (stopIntervalTimers s).st = s.st := rfl
@[simp] theorem stopIntervalTimers_ls (s : State) : (stopIntervalTimers s).ls = s.ls := rfl
@[simp] theorem stopIntervalTimers_tx (s : State) : (stopIntervalTimers s).tx = s.tx := rfl
@[simp] theorem stopIntervalTimers_rx (s : State) : (stopIntervalTimers s).rx = s.rx := rfl
@[simp] theorem stopIntervalTimers_ru (s : State) : (stopIntervalTimers s).ru = s.ru := rfl
@[simp] theorem stopIntervalTimers_cu (s : State) : (stopIntervalTimers s).cu = s.cu := rfl
@[simp] theorem stopIntervalTimers_clock (s : State) : (stopIntervalTimers s).clock = s.clock := rfl
@[simp] theorem stopIntervalTimers_lineIn (s : State) : (stopIntervalTimers s).lineIn = s.lineIn := rfl
@[simp] theorem stopIntervalTimers_pinsIn (s : State) : (stopIntervalTimers s).pinsIn = s.pinsIn := rfl
@[simp] theorem stopIntervalTimers_choices (s : State) : (stopIntervalTimers s).choices = s.choices := rfl
@[simp] theorem stopIntervalTimers_pending (s : State) : (stopIntervalTimers s).pending = s.pending := rfl

/-! ## advanceRound -/

@[simp] theorem advanceRound_hp (a : Addr) (v : Vector Nat 32) (s : State) : (advanceRound a v s).hp = s.hp := rfl
@[simp] theorem advanceRound_ri (a : Addr) (v : Vector Nat 32) (s : State) : (advanceRound a v s).ri = s.ri := rfl
@[simp] theorem advanceRound_rp (a : Addr) (v : Vector Nat 32) (s : State) : (advanceRound a v s).rp = s.rp := rfl
@[simp] theorem advanceRound_st (a : Addr) (v : Vector Nat 32) (s : State) : (advanceRound a v s).st = s.st := rfl
@[simp] theorem advanceRound_ls (a : Addr) (v : Vector Nat 32) (s : State) : (advanceRound a v s).ls = s.ls := rfl
@[simp] theorem advanceRound_tx (a : Addr) (v : Vector Nat 32) (s : State) : (advanceRound a v s).tx = s.tx := rfl
@[simp] theorem advanceRound_rx (a : Addr) (v : Vector Nat 32) (s : State) : (advanceRound a v s).rx = s.rx := rfl
@[simp] theorem advanceRound_ru (a : Addr) (v : Vector Nat 32) (s : State) : (advanceRound a v s).ru = s.ru := rfl
@[simp] theorem advanceRound_cu (a : Addr) (v : Vector Nat 32) (s : State) : (advanceRound a v s).cu = s.cu := rfl
@[simp] theorem advanceRound_clock (a : Addr) (v : Vector Nat 32) (s : State) : (advanceRound a v s).clock = s.clock := rfl
@[simp] theorem advanceRound_lineIn (a : Addr) (v : Vector Nat 32) (s : State) : (advanceRound a v s).lineIn = s.lineIn := rfl
@[simp] theorem advanceRound_pinsIn (a : Addr) (v : Vector Nat 32) (s : State) : (advanceRound a v s).pinsIn = s.pinsIn := rfl
@[simp] theorem advanceRound_choices (a : Addr) (v : Vector Nat 32) (s : State) : (advanceRound a v s).choices = s.choices := rfl
@[simp] theorem advanceRound_pending (a : Addr) (v : Vector Nat 32) (s : State) : (advanceRound a v s).pending = s.pending := rfl

/-! ## requestAccess, inside its block -/

@[simp] theorem requestAccess_hp_engine (x : Access) (s : State) : (requestAccess x s).hp.engine = s.hp.engine := rfl
@[simp] theorem requestAccess_hp_faultCode (x : Access) (s : State) : (requestAccess x s).hp.faultCode = s.hp.faultCode := rfl
@[simp] theorem requestAccess_hp_badField (x : Access) (s : State) : (requestAccess x s).hp.badField = s.hp.badField := rfl
@[simp] theorem requestAccess_hp_registerError (x : Access) (s : State) : (requestAccess x s).hp.registerError = s.hp.registerError := rfl
@[simp] theorem requestAccess_hp_config (x : Access) (s : State) : (requestAccess x s).hp.config = s.hp.config := rfl
@[simp] theorem requestAccess_hp_configAddress (x : Access) (s : State) : (requestAccess x s).hp.configAddress = s.hp.configAddress := rfl
@[simp] theorem requestAccess_hp_bufferTail (x : Access) (s : State) : (requestAccess x s).hp.bufferTail = s.hp.bufferTail := rfl
@[simp] theorem requestAccess_hp_rate (x : Access) (s : State) : (requestAccess x s).hp.rate = s.hp.rate := rfl
@[simp] theorem requestAccess_hp_bus (x : Access) (s : State) : (requestAccess x s).hp.bus = s.hp.bus := rfl
@[simp] theorem requestAccess_hp_resetHold (x : Access) (s : State) : (requestAccess x s).hp.resetHold = s.hp.resetHold := rfl

/-! ## freeBus, inside its block -/

@[simp] theorem freeBus_hp_engine (s : State) : (freeBus s).hp.engine = s.hp.engine := rfl
@[simp] theorem freeBus_hp_faultCode (s : State) : (freeBus s).hp.faultCode = s.hp.faultCode := rfl
@[simp] theorem freeBus_hp_badField (s : State) : (freeBus s).hp.badField = s.hp.badField := rfl
@[simp] theorem freeBus_hp_registerError (s : State) : (freeBus s).hp.registerError = s.hp.registerError := rfl
@[simp] theorem freeBus_hp_config (s : State) : (freeBus s).hp.config = s.hp.config := rfl
@[simp] theorem freeBus_hp_configAddress (s : State) : (freeBus s).hp.configAddress = s.hp.configAddress := rfl
@[simp] theorem freeBus_hp_bufferTail (s : State) : (freeBus s).hp.bufferTail = s.hp.bufferTail := rfl
@[simp] theorem freeBus_hp_rate (s : State) : (freeBus s).hp.rate = s.hp.rate := rfl
@[simp] theorem freeBus_hp_queue (s : State) : (freeBus s).hp.queue = s.hp.queue := rfl
@[simp] theorem freeBus_hp_resetHold (s : State) : (freeBus s).hp.resetHold = s.hp.resetHold := rfl

/-! ## discardAccesses, inside its block -/

@[simp] theorem discardAccesses_hp_engine (p : PoolIx) (s : State) : (discardAccesses p s).hp.engine = s.hp.engine := rfl
@[simp] theorem discardAccesses_hp_faultCode (p : PoolIx) (s : State) : (discardAccesses p s).hp.faultCode = s.hp.faultCode := rfl
@[simp] theorem discardAccesses_hp_badField (p : PoolIx) (s : State) : (discardAccesses p s).hp.badField = s.hp.badField := rfl
@[simp] theorem discardAccesses_hp_registerError (p : PoolIx) (s : State) : (discardAccesses p s).hp.registerError = s.hp.registerError := rfl
@[simp] theorem discardAccesses_hp_config (p : PoolIx) (s : State) : (discardAccesses p s).hp.config = s.hp.config := rfl
@[simp] theorem discardAccesses_hp_configAddress (p : PoolIx) (s : State) : (discardAccesses p s).hp.configAddress = s.hp.configAddress := rfl
@[simp] theorem discardAccesses_hp_bufferTail (p : PoolIx) (s : State) : (discardAccesses p s).hp.bufferTail = s.hp.bufferTail := rfl
@[simp] theorem discardAccesses_hp_rate (p : PoolIx) (s : State) : (discardAccesses p s).hp.rate = s.hp.rate := rfl
@[simp] theorem discardAccesses_hp_resetHold (p : PoolIx) (s : State) : (discardAccesses p s).hp.resetHold = s.hp.resetHold := rfl

/-! ## joinRequests, inside its block -/

@[simp] theorem joinRequests_hp_engine (n : Nat) (s : State) : (joinRequests n s).hp.engine = s.hp.engine := rfl
@[simp] theorem joinRequests_hp_faultCode (n : Nat) (s : State) : (joinRequests n s).hp.faultCode = s.hp.faultCode := rfl
@[simp] theorem joinRequests_hp_badField (n : Nat) (s : State) : (joinRequests n s).hp.badField = s.hp.badField := rfl
@[simp] theorem joinRequests_hp_registerError (n : Nat) (s : State) : (joinRequests n s).hp.registerError = s.hp.registerError := rfl
@[simp] theorem joinRequests_hp_config (n : Nat) (s : State) : (joinRequests n s).hp.config = s.hp.config := rfl
@[simp] theorem joinRequests_hp_configAddress (n : Nat) (s : State) : (joinRequests n s).hp.configAddress = s.hp.configAddress := rfl
@[simp] theorem joinRequests_hp_bufferTail (n : Nat) (s : State) : (joinRequests n s).hp.bufferTail = s.hp.bufferTail := rfl
@[simp] theorem joinRequests_hp_rate (n : Nat) (s : State) : (joinRequests n s).hp.rate = s.hp.rate := rfl
@[simp] theorem joinRequests_hp_bus (n : Nat) (s : State) : (joinRequests n s).hp.bus = s.hp.bus := rfl
@[simp] theorem joinRequests_hp_resetHold (n : Nat) (s : State) : (joinRequests n s).hp.resetHold = s.hp.resetHold := rfl

/-! ## reserveSlots, inside its block -/

@[simp] theorem reserveSlots_cu_queue (n : Nat) (s : State) : (reserveSlots n s).cu.queue = s.cu.queue := rfl
@[simp] theorem reserveSlots_cu_write (n : Nat) (s : State) : (reserveSlots n s).cu.write = s.cu.write := rfl
@[simp] theorem reserveSlots_cu_heldRaises (n : Nat) (s : State) : (reserveSlots n s).cu.heldRaises = s.cu.heldRaises := rfl
@[simp] theorem reserveSlots_cu_tail (n : Nat) (s : State) : (reserveSlots n s).cu.tail = s.cu.tail := rfl
@[simp] theorem reserveSlots_cu_phase (n : Nat) (s : State) : (reserveSlots n s).cu.phase = s.cu.phase := rfl
@[simp] theorem reserveSlots_cu_occupancy (n : Nat) (s : State) : (reserveSlots n s).cu.occupancy = s.cu.occupancy := rfl
@[simp] theorem reserveSlots_cu_head (n : Nat) (s : State) : (reserveSlots n s).cu.head = s.cu.head := rfl
@[simp] theorem reserveSlots_cu_pendingCauses (n : Nat) (s : State) : (reserveSlots n s).cu.pendingCauses = s.cu.pendingCauses := rfl
@[simp] theorem reserveSlots_cu_enabled (n : Nat) (s : State) : (reserveSlots n s).cu.enabled = s.cu.enabled := rfl
@[simp] theorem reserveSlots_cu_callAnswer (n : Nat) (s : State) : (reserveSlots n s).cu.callAnswer = s.cu.callAnswer := rfl

/-! ## giveBackSlots, inside its block -/

@[simp] theorem giveBackSlots_cu_queue (n : Nat) (s : State) : (giveBackSlots n s).cu.queue = s.cu.queue := rfl
@[simp] theorem giveBackSlots_cu_write (n : Nat) (s : State) : (giveBackSlots n s).cu.write = s.cu.write := rfl
@[simp] theorem giveBackSlots_cu_heldRaises (n : Nat) (s : State) : (giveBackSlots n s).cu.heldRaises = s.cu.heldRaises := rfl
@[simp] theorem giveBackSlots_cu_tail (n : Nat) (s : State) : (giveBackSlots n s).cu.tail = s.cu.tail := rfl
@[simp] theorem giveBackSlots_cu_phase (n : Nat) (s : State) : (giveBackSlots n s).cu.phase = s.cu.phase := rfl
@[simp] theorem giveBackSlots_cu_occupancy (n : Nat) (s : State) : (giveBackSlots n s).cu.occupancy = s.cu.occupancy := rfl
@[simp] theorem giveBackSlots_cu_head (n : Nat) (s : State) : (giveBackSlots n s).cu.head = s.cu.head := rfl
@[simp] theorem giveBackSlots_cu_pendingCauses (n : Nat) (s : State) : (giveBackSlots n s).cu.pendingCauses = s.cu.pendingCauses := rfl
@[simp] theorem giveBackSlots_cu_enabled (n : Nat) (s : State) : (giveBackSlots n s).cu.enabled = s.cu.enabled := rfl
@[simp] theorem giveBackSlots_cu_callAnswer (n : Nat) (s : State) : (giveBackSlots n s).cu.callAnswer = s.cu.callAnswer := rfl

/-! ## enterRecord, inside its block -/

@[simp] theorem enterRecord_cu_write (r : CompletionRecord) (u : SlotUse) (s : State) : (enterRecord r u s).cu.write = s.cu.write := rfl
@[simp] theorem enterRecord_cu_heldRaises (r : CompletionRecord) (u : SlotUse) (s : State) : (enterRecord r u s).cu.heldRaises = s.cu.heldRaises := rfl
@[simp] theorem enterRecord_cu_tail (r : CompletionRecord) (u : SlotUse) (s : State) : (enterRecord r u s).cu.tail = s.cu.tail := rfl
@[simp] theorem enterRecord_cu_phase (r : CompletionRecord) (u : SlotUse) (s : State) : (enterRecord r u s).cu.phase = s.cu.phase := rfl
@[simp] theorem enterRecord_cu_occupancy (r : CompletionRecord) (u : SlotUse) (s : State) : (enterRecord r u s).cu.occupancy = s.cu.occupancy := rfl
@[simp] theorem enterRecord_cu_head (r : CompletionRecord) (u : SlotUse) (s : State) : (enterRecord r u s).cu.head = s.cu.head := rfl
@[simp] theorem enterRecord_cu_pendingCauses (r : CompletionRecord) (u : SlotUse) (s : State) : (enterRecord r u s).cu.pendingCauses = s.cu.pendingCauses := rfl
@[simp] theorem enterRecord_cu_enabled (r : CompletionRecord) (u : SlotUse) (s : State) : (enterRecord r u s).cu.enabled = s.cu.enabled := rfl
@[simp] theorem enterRecord_cu_callAnswer (r : CompletionRecord) (u : SlotUse) (s : State) : (enterRecord r u s).cu.callAnswer = s.cu.callAnswer := rfl

/-! ## setCause, inside its block -/

@[simp] theorem setCause_cu_queue (c : Cause) (s : State) : (setCause c s).cu.queue = s.cu.queue := rfl
@[simp] theorem setCause_cu_reserved (c : Cause) (s : State) : (setCause c s).cu.reserved = s.cu.reserved := rfl
@[simp] theorem setCause_cu_write (c : Cause) (s : State) : (setCause c s).cu.write = s.cu.write := rfl
@[simp] theorem setCause_cu_heldRaises (c : Cause) (s : State) : (setCause c s).cu.heldRaises = s.cu.heldRaises := rfl
@[simp] theorem setCause_cu_tail (c : Cause) (s : State) : (setCause c s).cu.tail = s.cu.tail := rfl
@[simp] theorem setCause_cu_phase (c : Cause) (s : State) : (setCause c s).cu.phase = s.cu.phase := rfl
@[simp] theorem setCause_cu_occupancy (c : Cause) (s : State) : (setCause c s).cu.occupancy = s.cu.occupancy := rfl
@[simp] theorem setCause_cu_head (c : Cause) (s : State) : (setCause c s).cu.head = s.cu.head := rfl
@[simp] theorem setCause_cu_enabled (c : Cause) (s : State) : (setCause c s).cu.enabled = s.cu.enabled := rfl
@[simp] theorem setCause_cu_callAnswer (c : Cause) (s : State) : (setCause c s).cu.callAnswer = s.cu.callAnswer := rfl

/-! ## handOver, inside its block -/

@[simp] theorem handOver_ls_state (e : TransitEntry) (run : List Symbol) (s : State) : (handOver e run s).ls.state = s.ls.state := rfl
@[simp] theorem handOver_ls_rawDelay (e : TransitEntry) (run : List Symbol) (s : State) : (handOver e run s).ls.rawDelay = s.ls.rawDelay := rfl
@[simp] theorem handOver_ls_probeNumber (e : TransitEntry) (run : List Symbol) (s : State) : (handOver e run s).ls.probeNumber = s.ls.probeNumber := rfl
@[simp] theorem handOver_ls_probeTimer (e : TransitEntry) (run : List Symbol) (s : State) : (handOver e run s).ls.probeTimer = s.ls.probeTimer := rfl
@[simp] theorem handOver_ls_settleTimer (e : TransitEntry) (run : List Symbol) (s : State) : (handOver e run s).ls.settleTimer = s.ls.settleTimer := rfl

/-! ## popOldest, inside its block -/

@[simp] theorem popOldest_ls_state (s : State) : (popOldest s).ls.state = s.ls.state := rfl
@[simp] theorem popOldest_ls_rawDelay (s : State) : (popOldest s).ls.rawDelay = s.ls.rawDelay := rfl
@[simp] theorem popOldest_ls_probeNumber (s : State) : (popOldest s).ls.probeNumber = s.ls.probeNumber := rfl
@[simp] theorem popOldest_ls_probeTimer (s : State) : (popOldest s).ls.probeTimer = s.ls.probeTimer := rfl
@[simp] theorem popOldest_ls_settleTimer (s : State) : (popOldest s).ls.settleTimer = s.ls.settleTimer := rfl

/-! ## putEntry, inside its block -/

@[simp] theorem putEntry_rp_stationLists (p : PoolIx) (e : Option PoolEntry) (s : State) : (putEntry p e s).rp.stationLists = s.rp.stationLists := rfl
@[simp] theorem putEntry_rp_control (p : PoolIx) (e : Option PoolEntry) (s : State) : (putEntry p e s).rp.control = s.rp.control := rfl

/-! ## Power-on reset (R207) -/

@[simp] theorem HostPort.powerOnReset_eq_true (hp : HostPort) : hp.powerOnReset = true ↔
    hp.pins.released = false ∨ ∃ due, hp.resetHold = some due := by
  simp [HostPort.powerOnReset, Option.isSome_iff_exists]

@[simp] theorem HostPort.powerOnReset_eq_false (hp : HostPort) : hp.powerOnReset = false ↔
    hp.pins.released = true ∧ hp.resetHold = none := by
  simp [HostPort.powerOnReset]

theorem ResetPins.released_iff (p : ResetPins) : p.released = true ↔ p.resetHigh = true ∧ p.vddInRange = true := by
  simp [ResetPins.released]

@[simp] theorem ResetPins.assertReset_released (p : ResetPins) : (assertReset p).released = false := by
  unfold assertReset
  split <;> simp_all [ResetPins.released]

end Sys2Proof.Machine
end

