-- ==== Sys2Proof/Laws/Frames.lean ====
section
/-! SUPPORT. What the shared operations that decide a case leave alone, in every case. -/

namespace Sys2Proof.Machine

set_option Elab.async false

/-! ## putList -/

@[simp] theorem putList_hp (l : ListId) (ps : List PoolIx) (s : State) : (putList l ps s).hp = s.hp := by cases l <;> rfl
@[simp] theorem putList_ri (l : ListId) (ps : List PoolIx) (s : State) : (putList l ps s).ri = s.ri := by cases l <;> rfl
@[simp] theorem putList_st (l : ListId) (ps : List PoolIx) (s : State) : (putList l ps s).st = s.st := by cases l <;> rfl
@[simp] theorem putList_sc (l : ListId) (ps : List PoolIx) (s : State) : (putList l ps s).sc = s.sc := by cases l <;> rfl
@[simp] theorem putList_ls (l : ListId) (ps : List PoolIx) (s : State) : (putList l ps s).ls = s.ls := by cases l <;> rfl
@[simp] theorem putList_tx (l : ListId) (ps : List PoolIx) (s : State) : (putList l ps s).tx = s.tx := by cases l <;> rfl
@[simp] theorem putList_rx (l : ListId) (ps : List PoolIx) (s : State) : (putList l ps s).rx = s.rx := by cases l <;> rfl
@[simp] theorem putList_ru (l : ListId) (ps : List PoolIx) (s : State) : (putList l ps s).ru = s.ru := by cases l <;> rfl
@[simp] theorem putList_cu (l : ListId) (ps : List PoolIx) (s : State) : (putList l ps s).cu = s.cu := by cases l <;> rfl
@[simp] theorem putList_clock (l : ListId) (ps : List PoolIx) (s : State) : (putList l ps s).clock = s.clock := by cases l <;> rfl
@[simp] theorem putList_lineIn (l : ListId) (ps : List PoolIx) (s : State) : (putList l ps s).lineIn = s.lineIn := by cases l <;> rfl
@[simp] theorem putList_pinsIn (l : ListId) (ps : List PoolIx) (s : State) : (putList l ps s).pinsIn = s.pinsIn := by cases l <;> rfl
@[simp] theorem putList_choices (l : ListId) (ps : List PoolIx) (s : State) : (putList l ps s).choices = s.choices := by cases l <;> rfl
@[simp] theorem putList_pending (l : ListId) (ps : List PoolIx) (s : State) : (putList l ps s).pending = s.pending := by cases l <;> rfl

/-! ## modEntry -/

@[simp] theorem modEntry_hp (p : PoolIx) (f : PoolEntry → PoolEntry) (s : State) : (modEntry p f s).hp = s.hp := by unfold modEntry; split <;> rfl
@[simp] theorem modEntry_ri (p : PoolIx) (f : PoolEntry → PoolEntry) (s : State) : (modEntry p f s).ri = s.ri := by unfold modEntry; split <;> rfl
@[simp] theorem modEntry_st (p : PoolIx) (f : PoolEntry → PoolEntry) (s : State) : (modEntry p f s).st = s.st := by unfold modEntry; split <;> rfl
@[simp] theorem modEntry_sc (p : PoolIx) (f : PoolEntry → PoolEntry) (s : State) : (modEntry p f s).sc = s.sc := by unfold modEntry; split <;> rfl
@[simp] theorem modEntry_ls (p : PoolIx) (f : PoolEntry → PoolEntry) (s : State) : (modEntry p f s).ls = s.ls := by unfold modEntry; split <;> rfl
@[simp] theorem modEntry_tx (p : PoolIx) (f : PoolEntry → PoolEntry) (s : State) : (modEntry p f s).tx = s.tx := by unfold modEntry; split <;> rfl
@[simp] theorem modEntry_rx (p : PoolIx) (f : PoolEntry → PoolEntry) (s : State) : (modEntry p f s).rx = s.rx := by unfold modEntry; split <;> rfl
@[simp] theorem modEntry_ru (p : PoolIx) (f : PoolEntry → PoolEntry) (s : State) : (modEntry p f s).ru = s.ru := by unfold modEntry; split <;> rfl
@[simp] theorem modEntry_cu (p : PoolIx) (f : PoolEntry → PoolEntry) (s : State) : (modEntry p f s).cu = s.cu := by unfold modEntry; split <;> rfl
@[simp] theorem modEntry_clock (p : PoolIx) (f : PoolEntry → PoolEntry) (s : State) : (modEntry p f s).clock = s.clock := by unfold modEntry; split <;> rfl
@[simp] theorem modEntry_lineIn (p : PoolIx) (f : PoolEntry → PoolEntry) (s : State) : (modEntry p f s).lineIn = s.lineIn := by unfold modEntry; split <;> rfl
@[simp] theorem modEntry_pinsIn (p : PoolIx) (f : PoolEntry → PoolEntry) (s : State) : (modEntry p f s).pinsIn = s.pinsIn := by unfold modEntry; split <;> rfl
@[simp] theorem modEntry_choices (p : PoolIx) (f : PoolEntry → PoolEntry) (s : State) : (modEntry p f s).choices = s.choices := by unfold modEntry; split <;> rfl
@[simp] theorem modEntry_pending (p : PoolIx) (f : PoolEntry → PoolEntry) (s : State) : (modEntry p f s).pending = s.pending := by unfold modEntry; split <;> rfl

/-! ## raiseNotice -/

@[simp] theorem raiseNotice_hp (x : Raise) (s : State) : (raiseNotice x s).hp = s.hp := by unfold raiseNotice; split <;> rfl
@[simp] theorem raiseNotice_ri (x : Raise) (s : State) : (raiseNotice x s).ri = s.ri := by unfold raiseNotice; split <;> rfl
@[simp] theorem raiseNotice_rp (x : Raise) (s : State) : (raiseNotice x s).rp = s.rp := by unfold raiseNotice; split <;> rfl
@[simp] theorem raiseNotice_st (x : Raise) (s : State) : (raiseNotice x s).st = s.st := by unfold raiseNotice; split <;> rfl
@[simp] theorem raiseNotice_sc (x : Raise) (s : State) : (raiseNotice x s).sc = s.sc := by unfold raiseNotice; split <;> rfl
@[simp] theorem raiseNotice_ls (x : Raise) (s : State) : (raiseNotice x s).ls = s.ls := by unfold raiseNotice; split <;> rfl
@[simp] theorem raiseNotice_tx (x : Raise) (s : State) : (raiseNotice x s).tx = s.tx := by unfold raiseNotice; split <;> rfl
@[simp] theorem raiseNotice_rx (x : Raise) (s : State) : (raiseNotice x s).rx = s.rx := by unfold raiseNotice; split <;> rfl
@[simp] theorem raiseNotice_ru (x : Raise) (s : State) : (raiseNotice x s).ru = s.ru := by unfold raiseNotice; split <;> rfl
@[simp] theorem raiseNotice_clock (x : Raise) (s : State) : (raiseNotice x s).clock = s.clock := by unfold raiseNotice; split <;> rfl
@[simp] theorem raiseNotice_lineIn (x : Raise) (s : State) : (raiseNotice x s).lineIn = s.lineIn := by unfold raiseNotice; split <;> rfl
@[simp] theorem raiseNotice_pinsIn (x : Raise) (s : State) : (raiseNotice x s).pinsIn = s.pinsIn := by unfold raiseNotice; split <;> rfl
@[simp] theorem raiseNotice_choices (x : Raise) (s : State) : (raiseNotice x s).choices = s.choices := by unfold raiseNotice; split <;> rfl
@[simp] theorem raiseNotice_pending (x : Raise) (s : State) : (raiseNotice x s).pending = s.pending := by unfold raiseNotice; split <;> rfl

/-! ## beginAccess -/

@[simp] theorem beginAccess_ri (s : State) : (beginAccess s).ri = s.ri := by unfold beginAccess; split <;> (try split) <;> rfl
@[simp] theorem beginAccess_rp (s : State) : (beginAccess s).rp = s.rp := by unfold beginAccess; split <;> (try split) <;> rfl
@[simp] theorem beginAccess_st (s : State) : (beginAccess s).st = s.st := by unfold beginAccess; split <;> (try split) <;> rfl
@[simp] theorem beginAccess_sc (s : State) : (beginAccess s).sc = s.sc := by unfold beginAccess; split <;> (try split) <;> rfl
@[simp] theorem beginAccess_ls (s : State) : (beginAccess s).ls = s.ls := by unfold beginAccess; split <;> (try split) <;> rfl
@[simp] theorem beginAccess_tx (s : State) : (beginAccess s).tx = s.tx := by unfold beginAccess; split <;> (try split) <;> rfl
@[simp] theorem beginAccess_rx (s : State) : (beginAccess s).rx = s.rx := by unfold beginAccess; split <;> (try split) <;> rfl
@[simp] theorem beginAccess_ru (s : State) : (beginAccess s).ru = s.ru := by unfold beginAccess; split <;> (try split) <;> rfl
@[simp] theorem beginAccess_cu (s : State) : (beginAccess s).cu = s.cu := by unfold beginAccess; split <;> (try split) <;> rfl
@[simp] theorem beginAccess_clock (s : State) : (beginAccess s).clock = s.clock := by unfold beginAccess; split <;> (try split) <;> rfl
@[simp] theorem beginAccess_lineIn (s : State) : (beginAccess s).lineIn = s.lineIn := by unfold beginAccess; split <;> (try split) <;> rfl
@[simp] theorem beginAccess_pinsIn (s : State) : (beginAccess s).pinsIn = s.pinsIn := by unfold beginAccess; split <;> (try split) <;> rfl
@[simp] theorem beginAccess_choices (s : State) : (beginAccess s).choices = s.choices := by unfold beginAccess; split <;> (try split) <;> rfl
@[simp] theorem beginAccess_pending (s : State) : (beginAccess s).pending = s.pending := by unfold beginAccess; split <;> (try split) <;> rfl

/-! ## settleBus -/

@[simp] theorem settleBus_ri (n : Nat) (s : State) : (settleBus n s).ri = s.ri := by simp [settleBus]
@[simp] theorem settleBus_rp (n : Nat) (s : State) : (settleBus n s).rp = s.rp := by simp [settleBus]
@[simp] theorem settleBus_st (n : Nat) (s : State) : (settleBus n s).st = s.st := by simp [settleBus]
@[simp] theorem settleBus_sc (n : Nat) (s : State) : (settleBus n s).sc = s.sc := by simp [settleBus]
@[simp] theorem settleBus_ls (n : Nat) (s : State) : (settleBus n s).ls = s.ls := by simp [settleBus]
@[simp] theorem settleBus_tx (n : Nat) (s : State) : (settleBus n s).tx = s.tx := by simp [settleBus]
@[simp] theorem settleBus_rx (n : Nat) (s : State) : (settleBus n s).rx = s.rx := by simp [settleBus]
@[simp] theorem settleBus_ru (n : Nat) (s : State) : (settleBus n s).ru = s.ru := by simp [settleBus]
@[simp] theorem settleBus_cu (n : Nat) (s : State) : (settleBus n s).cu = s.cu := by simp [settleBus]
@[simp] theorem settleBus_clock (n : Nat) (s : State) : (settleBus n s).clock = s.clock := by simp [settleBus]
@[simp] theorem settleBus_lineIn (n : Nat) (s : State) : (settleBus n s).lineIn = s.lineIn := by simp [settleBus]
@[simp] theorem settleBus_pinsIn (n : Nat) (s : State) : (settleBus n s).pinsIn = s.pinsIn := by simp [settleBus]
@[simp] theorem settleBus_pending (n : Nat) (s : State) : (settleBus n s).pending = s.pending := by simp [settleBus]

/-! ## startPayload -/

@[simp] theorem startPayload_ri (p : PoolIx) (s : State) : (startPayload p s).ri = s.ri := by unfold startPayload; split <;> (try split) <;> (try split) <;> rfl
@[simp] theorem startPayload_st (p : PoolIx) (s : State) : (startPayload p s).st = s.st := by unfold startPayload; split <;> (try split) <;> (try split) <;> rfl
@[simp] theorem startPayload_sc (p : PoolIx) (s : State) : (startPayload p s).sc = s.sc := by unfold startPayload; split <;> (try split) <;> (try split) <;> rfl
@[simp] theorem startPayload_ls (p : PoolIx) (s : State) : (startPayload p s).ls = s.ls := by unfold startPayload; split <;> (try split) <;> (try split) <;> rfl
@[simp] theorem startPayload_tx (p : PoolIx) (s : State) : (startPayload p s).tx = s.tx := by unfold startPayload; split <;> (try split) <;> (try split) <;> rfl
@[simp] theorem startPayload_rx (p : PoolIx) (s : State) : (startPayload p s).rx = s.rx := by unfold startPayload; split <;> (try split) <;> (try split) <;> rfl
@[simp] theorem startPayload_ru (p : PoolIx) (s : State) : (startPayload p s).ru = s.ru := by unfold startPayload; split <;> (try split) <;> (try split) <;> rfl
@[simp] theorem startPayload_cu (p : PoolIx) (s : State) : (startPayload p s).cu = s.cu := by unfold startPayload; split <;> (try split) <;> (try split) <;> rfl
@[simp] theorem startPayload_clock (p : PoolIx) (s : State) : (startPayload p s).clock = s.clock := by unfold startPayload; split <;> (try split) <;> (try split) <;> rfl
@[simp] theorem startPayload_lineIn (p : PoolIx) (s : State) : (startPayload p s).lineIn = s.lineIn := by unfold startPayload; split <;> (try split) <;> (try split) <;> rfl
@[simp] theorem startPayload_pinsIn (p : PoolIx) (s : State) : (startPayload p s).pinsIn = s.pinsIn := by unfold startPayload; split <;> (try split) <;> (try split) <;> rfl
@[simp] theorem startPayload_choices (p : PoolIx) (s : State) : (startPayload p s).choices = s.choices := by unfold startPayload; split <;> (try split) <;> (try split) <;> rfl
@[simp] theorem startPayload_pending (p : PoolIx) (s : State) : (startPayload p s).pending = s.pending := by unfold startPayload; split <;> (try split) <;> (try split) <;> rfl

/-! ## armHeadTimer -/

@[simp] theorem armHeadTimer_hp (l : ListId) (e : PoolEntry) (s : State) : (armHeadTimer l e s).hp = s.hp := by cases l <;> rfl
@[simp] theorem armHeadTimer_ri (l : ListId) (e : PoolEntry) (s : State) : (armHeadTimer l e s).ri = s.ri := by cases l <;> rfl
@[simp] theorem armHeadTimer_rp (l : ListId) (e : PoolEntry) (s : State) : (armHeadTimer l e s).rp = s.rp := by cases l <;> rfl
@[simp] theorem armHeadTimer_st (l : ListId) (e : PoolEntry) (s : State) : (armHeadTimer l e s).st = s.st := by cases l <;> rfl
@[simp] theorem armHeadTimer_ls (l : ListId) (e : PoolEntry) (s : State) : (armHeadTimer l e s).ls = s.ls := by cases l <;> rfl
@[simp] theorem armHeadTimer_tx (l : ListId) (e : PoolEntry) (s : State) : (armHeadTimer l e s).tx = s.tx := by cases l <;> rfl
@[simp] theorem armHeadTimer_rx (l : ListId) (e : PoolEntry) (s : State) : (armHeadTimer l e s).rx = s.rx := by cases l <;> rfl
@[simp] theorem armHeadTimer_ru (l : ListId) (e : PoolEntry) (s : State) : (armHeadTimer l e s).ru = s.ru := by cases l <;> rfl
@[simp] theorem armHeadTimer_cu (l : ListId) (e : PoolEntry) (s : State) : (armHeadTimer l e s).cu = s.cu := by cases l <;> rfl
@[simp] theorem armHeadTimer_clock (l : ListId) (e : PoolEntry) (s : State) : (armHeadTimer l e s).clock = s.clock := by cases l <;> rfl
@[simp] theorem armHeadTimer_lineIn (l : ListId) (e : PoolEntry) (s : State) : (armHeadTimer l e s).lineIn = s.lineIn := by cases l <;> rfl
@[simp] theorem armHeadTimer_pinsIn (l : ListId) (e : PoolEntry) (s : State) : (armHeadTimer l e s).pinsIn = s.pinsIn := by cases l <;> rfl
@[simp] theorem armHeadTimer_choices (l : ListId) (e : PoolEntry) (s : State) : (armHeadTimer l e s).choices = s.choices := by cases l <;> rfl
@[simp] theorem armHeadTimer_pending (l : ListId) (e : PoolEntry) (s : State) : (armHeadTimer l e s).pending = s.pending := by cases l <;> rfl

/-! ## becomeHead -/

@[simp] theorem becomeHead_ri (l : ListId) (s : State) : (becomeHead l s).ri = s.ri := by unfold becomeHead; split <;> (try split) <;> simp
@[simp] theorem becomeHead_st (l : ListId) (s : State) : (becomeHead l s).st = s.st := by unfold becomeHead; split <;> (try split) <;> simp
@[simp] theorem becomeHead_ls (l : ListId) (s : State) : (becomeHead l s).ls = s.ls := by unfold becomeHead; split <;> (try split) <;> simp
@[simp] theorem becomeHead_tx (l : ListId) (s : State) : (becomeHead l s).tx = s.tx := by unfold becomeHead; split <;> (try split) <;> simp
@[simp] theorem becomeHead_rx (l : ListId) (s : State) : (becomeHead l s).rx = s.rx := by unfold becomeHead; split <;> (try split) <;> simp
@[simp] theorem becomeHead_ru (l : ListId) (s : State) : (becomeHead l s).ru = s.ru := by unfold becomeHead; split <;> (try split) <;> simp
@[simp] theorem becomeHead_cu (l : ListId) (s : State) : (becomeHead l s).cu = s.cu := by unfold becomeHead; split <;> (try split) <;> simp
@[simp] theorem becomeHead_clock (l : ListId) (s : State) : (becomeHead l s).clock = s.clock := by unfold becomeHead; split <;> (try split) <;> simp
@[simp] theorem becomeHead_lineIn (l : ListId) (s : State) : (becomeHead l s).lineIn = s.lineIn := by unfold becomeHead; split <;> (try split) <;> simp
@[simp] theorem becomeHead_pinsIn (l : ListId) (s : State) : (becomeHead l s).pinsIn = s.pinsIn := by unfold becomeHead; split <;> (try split) <;> simp
@[simp] theorem becomeHead_choices (l : ListId) (s : State) : (becomeHead l s).choices = s.choices := by unfold becomeHead; split <;> (try split) <;> simp
@[simp] theorem becomeHead_pending (l : ListId) (s : State) : (becomeHead l s).pending = s.pending := by unfold becomeHead; split <;> (try split) <;> simp

/-! ## leaveList -/

@[simp] theorem leaveList_hp (l : ListId) (p : PoolIx) (s : State) : (leaveList l p s).hp = s.hp := by cases l <;> rfl
@[simp] theorem leaveList_ri (l : ListId) (p : PoolIx) (s : State) : (leaveList l p s).ri = s.ri := by cases l <;> rfl
@[simp] theorem leaveList_st (l : ListId) (p : PoolIx) (s : State) : (leaveList l p s).st = s.st := by cases l <;> rfl
@[simp] theorem leaveList_ls (l : ListId) (p : PoolIx) (s : State) : (leaveList l p s).ls = s.ls := by cases l <;> rfl
@[simp] theorem leaveList_tx (l : ListId) (p : PoolIx) (s : State) : (leaveList l p s).tx = s.tx := by cases l <;> rfl
@[simp] theorem leaveList_rx (l : ListId) (p : PoolIx) (s : State) : (leaveList l p s).rx = s.rx := by cases l <;> rfl
@[simp] theorem leaveList_ru (l : ListId) (p : PoolIx) (s : State) : (leaveList l p s).ru = s.ru := by cases l <;> rfl
@[simp] theorem leaveList_cu (l : ListId) (p : PoolIx) (s : State) : (leaveList l p s).cu = s.cu := by cases l <;> rfl
@[simp] theorem leaveList_clock (l : ListId) (p : PoolIx) (s : State) : (leaveList l p s).clock = s.clock := by cases l <;> rfl
@[simp] theorem leaveList_lineIn (l : ListId) (p : PoolIx) (s : State) : (leaveList l p s).lineIn = s.lineIn := by cases l <;> rfl
@[simp] theorem leaveList_pinsIn (l : ListId) (p : PoolIx) (s : State) : (leaveList l p s).pinsIn = s.pinsIn := by cases l <;> rfl
@[simp] theorem leaveList_choices (l : ListId) (p : PoolIx) (s : State) : (leaveList l p s).choices = s.choices := by cases l <;> rfl
@[simp] theorem leaveList_pending (l : ListId) (p : PoolIx) (s : State) : (leaveList l p s).pending = s.pending := by cases l <;> rfl

/-! ## clearOutstanding -/

@[simp] theorem clearOutstanding_hp (l : ListId) (p : PoolIx) (s : State) : (clearOutstanding l p s).hp = s.hp := by unfold clearOutstanding; split <;> (try split) <;> rfl
@[simp] theorem clearOutstanding_ri (l : ListId) (p : PoolIx) (s : State) : (clearOutstanding l p s).ri = s.ri := by unfold clearOutstanding; split <;> (try split) <;> rfl
@[simp] theorem clearOutstanding_rp (l : ListId) (p : PoolIx) (s : State) : (clearOutstanding l p s).rp = s.rp := by unfold clearOutstanding; split <;> (try split) <;> rfl
@[simp] theorem clearOutstanding_sc (l : ListId) (p : PoolIx) (s : State) : (clearOutstanding l p s).sc = s.sc := by unfold clearOutstanding; split <;> (try split) <;> rfl
@[simp] theorem clearOutstanding_ls (l : ListId) (p : PoolIx) (s : State) : (clearOutstanding l p s).ls = s.ls := by unfold clearOutstanding; split <;> (try split) <;> rfl
@[simp] theorem clearOutstanding_tx (l : ListId) (p : PoolIx) (s : State) : (clearOutstanding l p s).tx = s.tx := by unfold clearOutstanding; split <;> (try split) <;> rfl
@[simp] theorem clearOutstanding_rx (l : ListId) (p : PoolIx) (s : State) : (clearOutstanding l p s).rx = s.rx := by unfold clearOutstanding; split <;> (try split) <;> rfl
@[simp] theorem clearOutstanding_ru (l : ListId) (p : PoolIx) (s : State) : (clearOutstanding l p s).ru = s.ru := by unfold clearOutstanding; split <;> (try split) <;> rfl
@[simp] theorem clearOutstanding_cu (l : ListId) (p : PoolIx) (s : State) : (clearOutstanding l p s).cu = s.cu := by unfold clearOutstanding; split <;> (try split) <;> rfl
@[simp] theorem clearOutstanding_clock (l : ListId) (p : PoolIx) (s : State) : (clearOutstanding l p s).clock = s.clock := by unfold clearOutstanding; split <;> (try split) <;> rfl
@[simp] theorem clearOutstanding_lineIn (l : ListId) (p : PoolIx) (s : State) : (clearOutstanding l p s).lineIn = s.lineIn := by unfold clearOutstanding; split <;> (try split) <;> rfl
@[simp] theorem clearOutstanding_pinsIn (l : ListId) (p : PoolIx) (s : State) : (clearOutstanding l p s).pinsIn = s.pinsIn := by unfold clearOutstanding; split <;> (try split) <;> rfl
@[simp] theorem clearOutstanding_choices (l : ListId) (p : PoolIx) (s : State) : (clearOutstanding l p s).choices = s.choices := by unfold clearOutstanding; split <;> (try split) <;> rfl
@[simp] theorem clearOutstanding_pending (l : ListId) (p : PoolIx) (s : State) : (clearOutstanding l p s).pending = s.pending := by unfold clearOutstanding; split <;> (try split) <;> rfl

/-! ## finishRequest -/

@[simp] theorem finishRequest_ri (p : PoolIx) (x : Status) (n m : Nat) (u : SlotUse) (s : State) : (finishRequest p x n m u s).ri = s.ri := by unfold finishRequest; split <;> simp
@[simp] theorem finishRequest_ls (p : PoolIx) (x : Status) (n m : Nat) (u : SlotUse) (s : State) : (finishRequest p x n m u s).ls = s.ls := by unfold finishRequest; split <;> simp
@[simp] theorem finishRequest_tx (p : PoolIx) (x : Status) (n m : Nat) (u : SlotUse) (s : State) : (finishRequest p x n m u s).tx = s.tx := by unfold finishRequest; split <;> simp
@[simp] theorem finishRequest_rx (p : PoolIx) (x : Status) (n m : Nat) (u : SlotUse) (s : State) : (finishRequest p x n m u s).rx = s.rx := by unfold finishRequest; split <;> simp
@[simp] theorem finishRequest_ru (p : PoolIx) (x : Status) (n m : Nat) (u : SlotUse) (s : State) : (finishRequest p x n m u s).ru = s.ru := by unfold finishRequest; split <;> simp
@[simp] theorem finishRequest_clock (p : PoolIx) (x : Status) (n m : Nat) (u : SlotUse) (s : State) : (finishRequest p x n m u s).clock = s.clock := by unfold finishRequest; split <;> simp
@[simp] theorem finishRequest_lineIn (p : PoolIx) (x : Status) (n m : Nat) (u : SlotUse) (s : State) : (finishRequest p x n m u s).lineIn = s.lineIn := by unfold finishRequest; split <;> simp
@[simp] theorem finishRequest_pinsIn (p : PoolIx) (x : Status) (n m : Nat) (u : SlotUse) (s : State) : (finishRequest p x n m u s).pinsIn = s.pinsIn := by unfold finishRequest; split <;> simp
@[simp] theorem finishRequest_choices (p : PoolIx) (x : Status) (n m : Nat) (u : SlotUse) (s : State) : (finishRequest p x n m u s).choices = s.choices := by unfold finishRequest; split <;> simp
@[simp] theorem finishRequest_pending (p : PoolIx) (x : Status) (n m : Nat) (u : SlotUse) (s : State) : (finishRequest p x n m u s).pending = s.pending := by unfold finishRequest; split <;> simp

/-! ## countFailure -/

@[simp] theorem countFailure_hp (a : Addr) (s : State) : (countFailure a s).hp = s.hp := by simp only [countFailure]; split <;> simp [raiseStationChange]
@[simp] theorem countFailure_ri (a : Addr) (s : State) : (countFailure a s).ri = s.ri := by simp only [countFailure]; split <;> simp [raiseStationChange]
@[simp] theorem countFailure_rp (a : Addr) (s : State) : (countFailure a s).rp = s.rp := by simp only [countFailure]; split <;> simp [raiseStationChange]
@[simp] theorem countFailure_sc (a : Addr) (s : State) : (countFailure a s).sc = s.sc := by simp only [countFailure]; split <;> simp [raiseStationChange]
@[simp] theorem countFailure_ls (a : Addr) (s : State) : (countFailure a s).ls = s.ls := by simp only [countFailure]; split <;> simp [raiseStationChange]
@[simp] theorem countFailure_tx (a : Addr) (s : State) : (countFailure a s).tx = s.tx := by simp only [countFailure]; split <;> simp [raiseStationChange]
@[simp] theorem countFailure_rx (a : Addr) (s : State) : (countFailure a s).rx = s.rx := by simp only [countFailure]; split <;> simp [raiseStationChange]
@[simp] theorem countFailure_ru (a : Addr) (s : State) : (countFailure a s).ru = s.ru := by simp only [countFailure]; split <;> simp [raiseStationChange]
@[simp] theorem countFailure_clock (a : Addr) (s : State) : (countFailure a s).clock = s.clock := by simp only [countFailure]; split <;> simp [raiseStationChange]
@[simp] theorem countFailure_lineIn (a : Addr) (s : State) : (countFailure a s).lineIn = s.lineIn := by simp only [countFailure]; split <;> simp [raiseStationChange]
@[simp] theorem countFailure_pinsIn (a : Addr) (s : State) : (countFailure a s).pinsIn = s.pinsIn := by simp only [countFailure]; split <;> simp [raiseStationChange]
@[simp] theorem countFailure_choices (a : Addr) (s : State) : (countFailure a s).choices = s.choices := by simp only [countFailure]; split <;> simp [raiseStationChange]
@[simp] theorem countFailure_pending (a : Addr) (s : State) : (countFailure a s).pending = s.pending := by simp only [countFailure]; split <;> simp [raiseStationChange]

/-! ## applyOutcomeToFailures -/

@[simp] theorem applyOutcomeToFailures_hp (o : LastOutcome) (a : Addr) (s : State) : (applyOutcomeToFailures o a s).hp = s.hp := by cases o <;> simp [applyOutcomeToFailures]
@[simp] theorem applyOutcomeToFailures_ri (o : LastOutcome) (a : Addr) (s : State) : (applyOutcomeToFailures o a s).ri = s.ri := by cases o <;> simp [applyOutcomeToFailures]
@[simp] theorem applyOutcomeToFailures_rp (o : LastOutcome) (a : Addr) (s : State) : (applyOutcomeToFailures o a s).rp = s.rp := by cases o <;> simp [applyOutcomeToFailures]
@[simp] theorem applyOutcomeToFailures_sc (o : LastOutcome) (a : Addr) (s : State) : (applyOutcomeToFailures o a s).sc = s.sc := by cases o <;> simp [applyOutcomeToFailures]
@[simp] theorem applyOutcomeToFailures_ls (o : LastOutcome) (a : Addr) (s : State) : (applyOutcomeToFailures o a s).ls = s.ls := by cases o <;> simp [applyOutcomeToFailures]
@[simp] theorem applyOutcomeToFailures_tx (o : LastOutcome) (a : Addr) (s : State) : (applyOutcomeToFailures o a s).tx = s.tx := by cases o <;> simp [applyOutcomeToFailures]
@[simp] theorem applyOutcomeToFailures_rx (o : LastOutcome) (a : Addr) (s : State) : (applyOutcomeToFailures o a s).rx = s.rx := by cases o <;> simp [applyOutcomeToFailures]
@[simp] theorem applyOutcomeToFailures_ru (o : LastOutcome) (a : Addr) (s : State) : (applyOutcomeToFailures o a s).ru = s.ru := by cases o <;> simp [applyOutcomeToFailures]
@[simp] theorem applyOutcomeToFailures_clock (o : LastOutcome) (a : Addr) (s : State) : (applyOutcomeToFailures o a s).clock = s.clock := by cases o <;> simp [applyOutcomeToFailures]
@[simp] theorem applyOutcomeToFailures_lineIn (o : LastOutcome) (a : Addr) (s : State) : (applyOutcomeToFailures o a s).lineIn = s.lineIn := by cases o <;> simp [applyOutcomeToFailures]
@[simp] theorem applyOutcomeToFailures_pinsIn (o : LastOutcome) (a : Addr) (s : State) : (applyOutcomeToFailures o a s).pinsIn = s.pinsIn := by cases o <;> simp [applyOutcomeToFailures]
@[simp] theorem applyOutcomeToFailures_choices (o : LastOutcome) (a : Addr) (s : State) : (applyOutcomeToFailures o a s).choices = s.choices := by cases o <;> simp [applyOutcomeToFailures]
@[simp] theorem applyOutcomeToFailures_pending (o : LastOutcome) (a : Addr) (s : State) : (applyOutcomeToFailures o a s).pending = s.pending := by cases o <;> simp [applyOutcomeToFailures]

/-! ## writeOutcome -/

@[simp] theorem writeOutcome_hp (p : PoolIx) (o : LastOutcome) (s : State) : (writeOutcome p o s).hp = s.hp := by simp [writeOutcome]
@[simp] theorem writeOutcome_ri (p : PoolIx) (o : LastOutcome) (s : State) : (writeOutcome p o s).ri = s.ri := by simp [writeOutcome]
@[simp] theorem writeOutcome_st (p : PoolIx) (o : LastOutcome) (s : State) : (writeOutcome p o s).st = s.st := by simp [writeOutcome]
@[simp] theorem writeOutcome_sc (p : PoolIx) (o : LastOutcome) (s : State) : (writeOutcome p o s).sc = s.sc := by simp [writeOutcome]
@[simp] theorem writeOutcome_ls (p : PoolIx) (o : LastOutcome) (s : State) : (writeOutcome p o s).ls = s.ls := by simp [writeOutcome]
@[simp] theorem writeOutcome_tx (p : PoolIx) (o : LastOutcome) (s : State) : (writeOutcome p o s).tx = s.tx := by simp [writeOutcome]
@[simp] theorem writeOutcome_rx (p : PoolIx) (o : LastOutcome) (s : State) : (writeOutcome p o s).rx = s.rx := by simp [writeOutcome]
@[simp] theorem writeOutcome_ru (p : PoolIx) (o : LastOutcome) (s : State) : (writeOutcome p o s).ru = s.ru := by simp [writeOutcome]
@[simp] theorem writeOutcome_cu (p : PoolIx) (o : LastOutcome) (s : State) : (writeOutcome p o s).cu = s.cu := by simp [writeOutcome]
@[simp] theorem writeOutcome_clock (p : PoolIx) (o : LastOutcome) (s : State) : (writeOutcome p o s).clock = s.clock := by simp [writeOutcome]
@[simp] theorem writeOutcome_lineIn (p : PoolIx) (o : LastOutcome) (s : State) : (writeOutcome p o s).lineIn = s.lineIn := by simp [writeOutcome]
@[simp] theorem writeOutcome_pinsIn (p : PoolIx) (o : LastOutcome) (s : State) : (writeOutcome p o s).pinsIn = s.pinsIn := by simp [writeOutcome]
@[simp] theorem writeOutcome_choices (p : PoolIx) (o : LastOutcome) (s : State) : (writeOutcome p o s).choices = s.choices := by simp [writeOutcome]
@[simp] theorem writeOutcome_pending (p : PoolIx) (o : LastOutcome) (s : State) : (writeOutcome p o s).pending = s.pending := by simp [writeOutcome]

/-! ## pauseRequest -/

@[simp] theorem pauseRequest_hp (p : PoolIx) (s : State) : (pauseRequest p s).hp = s.hp := by simp [pauseRequest]
@[simp] theorem pauseRequest_ri (p : PoolIx) (s : State) : (pauseRequest p s).ri = s.ri := by simp [pauseRequest]
@[simp] theorem pauseRequest_st (p : PoolIx) (s : State) : (pauseRequest p s).st = s.st := by simp [pauseRequest]
@[simp] theorem pauseRequest_sc (p : PoolIx) (s : State) : (pauseRequest p s).sc = s.sc := by simp [pauseRequest]
@[simp] theorem pauseRequest_ls (p : PoolIx) (s : State) : (pauseRequest p s).ls = s.ls := by simp [pauseRequest]
@[simp] theorem pauseRequest_tx (p : PoolIx) (s : State) : (pauseRequest p s).tx = s.tx := by simp [pauseRequest]
@[simp] theorem pauseRequest_rx (p : PoolIx) (s : State) : (pauseRequest p s).rx = s.rx := by simp [pauseRequest]
@[simp] theorem pauseRequest_ru (p : PoolIx) (s : State) : (pauseRequest p s).ru = s.ru := by simp [pauseRequest]
@[simp] theorem pauseRequest_clock (p : PoolIx) (s : State) : (pauseRequest p s).clock = s.clock := by simp [pauseRequest]
@[simp] theorem pauseRequest_lineIn (p : PoolIx) (s : State) : (pauseRequest p s).lineIn = s.lineIn := by simp [pauseRequest]
@[simp] theorem pauseRequest_pinsIn (p : PoolIx) (s : State) : (pauseRequest p s).pinsIn = s.pinsIn := by simp [pauseRequest]
@[simp] theorem pauseRequest_choices (p : PoolIx) (s : State) : (pauseRequest p s).choices = s.choices := by simp [pauseRequest]
@[simp] theorem pauseRequest_pending (p : PoolIx) (s : State) : (pauseRequest p s).pending = s.pending := by simp [pauseRequest]

/-! ## failedAttempt -/

@[simp] theorem failedAttempt_ri (a : Addr) (p : PoolIx) (c : Bool) (s : State) : (failedAttempt a p c s).ri = s.ri := by simp only [failedAttempt]; repeat (first | split | simp)
@[simp] theorem failedAttempt_ls (a : Addr) (p : PoolIx) (c : Bool) (s : State) : (failedAttempt a p c s).ls = s.ls := by simp only [failedAttempt]; repeat (first | split | simp)
@[simp] theorem failedAttempt_tx (a : Addr) (p : PoolIx) (c : Bool) (s : State) : (failedAttempt a p c s).tx = s.tx := by simp only [failedAttempt]; repeat (first | split | simp)
@[simp] theorem failedAttempt_rx (a : Addr) (p : PoolIx) (c : Bool) (s : State) : (failedAttempt a p c s).rx = s.rx := by simp only [failedAttempt]; repeat (first | split | simp)
@[simp] theorem failedAttempt_ru (a : Addr) (p : PoolIx) (c : Bool) (s : State) : (failedAttempt a p c s).ru = s.ru := by simp only [failedAttempt]; repeat (first | split | simp)
@[simp] theorem failedAttempt_clock (a : Addr) (p : PoolIx) (c : Bool) (s : State) : (failedAttempt a p c s).clock = s.clock := by simp only [failedAttempt]; repeat (first | split | simp)
@[simp] theorem failedAttempt_lineIn (a : Addr) (p : PoolIx) (c : Bool) (s : State) : (failedAttempt a p c s).lineIn = s.lineIn := by simp only [failedAttempt]; repeat (first | split | simp)
@[simp] theorem failedAttempt_pinsIn (a : Addr) (p : PoolIx) (c : Bool) (s : State) : (failedAttempt a p c s).pinsIn = s.pinsIn := by simp only [failedAttempt]; repeat (first | split | simp)
@[simp] theorem failedAttempt_choices (a : Addr) (p : PoolIx) (c : Bool) (s : State) : (failedAttempt a p c s).choices = s.choices := by simp only [failedAttempt]; repeat (first | split | simp)
@[simp] theorem failedAttempt_pending (a : Addr) (p : PoolIx) (c : Bool) (s : State) : (failedAttempt a p c s).pending = s.pending := by simp only [failedAttempt]; repeat (first | split | simp)

/-! ## finishCallNow -/

@[simp] theorem finishCallNow_ri (x : Status) (n : Nat) (s : State) : (finishCallNow x n s).ri = s.ri := by unfold finishCallNow; split <;> (try split) <;> simp
@[simp] theorem finishCallNow_ls (x : Status) (n : Nat) (s : State) : (finishCallNow x n s).ls = s.ls := by unfold finishCallNow; split <;> (try split) <;> simp
@[simp] theorem finishCallNow_tx (x : Status) (n : Nat) (s : State) : (finishCallNow x n s).tx = s.tx := by unfold finishCallNow; split <;> (try split) <;> simp
@[simp] theorem finishCallNow_rx (x : Status) (n : Nat) (s : State) : (finishCallNow x n s).rx = s.rx := by unfold finishCallNow; split <;> (try split) <;> simp
@[simp] theorem finishCallNow_ru (x : Status) (n : Nat) (s : State) : (finishCallNow x n s).ru = s.ru := by unfold finishCallNow; split <;> (try split) <;> simp
@[simp] theorem finishCallNow_clock (x : Status) (n : Nat) (s : State) : (finishCallNow x n s).clock = s.clock := by unfold finishCallNow; split <;> (try split) <;> simp
@[simp] theorem finishCallNow_lineIn (x : Status) (n : Nat) (s : State) : (finishCallNow x n s).lineIn = s.lineIn := by unfold finishCallNow; split <;> (try split) <;> simp
@[simp] theorem finishCallNow_pinsIn (x : Status) (n : Nat) (s : State) : (finishCallNow x n s).pinsIn = s.pinsIn := by unfold finishCallNow; split <;> (try split) <;> simp
@[simp] theorem finishCallNow_choices (x : Status) (n : Nat) (s : State) : (finishCallNow x n s).choices = s.choices := by unfold finishCallNow; split <;> (try split) <;> simp
@[simp] theorem finishCallNow_pending (x : Status) (n : Nat) (s : State) : (finishCallNow x n s).pending = s.pending := by unfold finishCallNow; split <;> (try split) <;> simp

/-! ## answerCallNow -/

@[simp] theorem answerCallNow_ri (b : Bool) (n : Nat) (s : State) : (answerCallNow b n s).ri = s.ri := by unfold answerCallNow; split <;> simp
@[simp] theorem answerCallNow_ls (b : Bool) (n : Nat) (s : State) : (answerCallNow b n s).ls = s.ls := by unfold answerCallNow; split <;> simp
@[simp] theorem answerCallNow_tx (b : Bool) (n : Nat) (s : State) : (answerCallNow b n s).tx = s.tx := by unfold answerCallNow; split <;> simp
@[simp] theorem answerCallNow_rx (b : Bool) (n : Nat) (s : State) : (answerCallNow b n s).rx = s.rx := by unfold answerCallNow; split <;> simp
@[simp] theorem answerCallNow_ru (b : Bool) (n : Nat) (s : State) : (answerCallNow b n s).ru = s.ru := by unfold answerCallNow; split <;> simp
@[simp] theorem answerCallNow_clock (b : Bool) (n : Nat) (s : State) : (answerCallNow b n s).clock = s.clock := by unfold answerCallNow; split <;> simp
@[simp] theorem answerCallNow_lineIn (b : Bool) (n : Nat) (s : State) : (answerCallNow b n s).lineIn = s.lineIn := by unfold answerCallNow; split <;> simp
@[simp] theorem answerCallNow_pinsIn (b : Bool) (n : Nat) (s : State) : (answerCallNow b n s).pinsIn = s.pinsIn := by unfold answerCallNow; split <;> simp
@[simp] theorem answerCallNow_choices (b : Bool) (n : Nat) (s : State) : (answerCallNow b n s).choices = s.choices := by unfold answerCallNow; split <;> simp
@[simp] theorem answerCallNow_pending (b : Bool) (n : Nat) (s : State) : (answerCallNow b n s).pending = s.pending := by unfold answerCallNow; split <;> simp

/-! ## answerHeldCallNow -/

@[simp] theorem answerHeldCallNow_ri (s : State) : (answerHeldCallNow s).ri = s.ri := by unfold answerHeldCallNow; split <;> simp
@[simp] theorem answerHeldCallNow_ls (s : State) : (answerHeldCallNow s).ls = s.ls := by unfold answerHeldCallNow; split <;> simp
@[simp] theorem answerHeldCallNow_tx (s : State) : (answerHeldCallNow s).tx = s.tx := by unfold answerHeldCallNow; split <;> simp
@[simp] theorem answerHeldCallNow_rx (s : State) : (answerHeldCallNow s).rx = s.rx := by unfold answerHeldCallNow; split <;> simp
@[simp] theorem answerHeldCallNow_ru (s : State) : (answerHeldCallNow s).ru = s.ru := by unfold answerHeldCallNow; split <;> simp
@[simp] theorem answerHeldCallNow_clock (s : State) : (answerHeldCallNow s).clock = s.clock := by unfold answerHeldCallNow; split <;> simp
@[simp] theorem answerHeldCallNow_lineIn (s : State) : (answerHeldCallNow s).lineIn = s.lineIn := by unfold answerHeldCallNow; split <;> simp
@[simp] theorem answerHeldCallNow_pinsIn (s : State) : (answerHeldCallNow s).pinsIn = s.pinsIn := by unfold answerHeldCallNow; split <;> simp
@[simp] theorem answerHeldCallNow_choices (s : State) : (answerHeldCallNow s).choices = s.choices := by unfold answerHeldCallNow; split <;> simp
@[simp] theorem answerHeldCallNow_pending (s : State) : (answerHeldCallNow s).pending = s.pending := by unfold answerHeldCallNow; split <;> simp

/-! ## recordKept -/

@[simp] theorem recordKept_ri (s : State) : (recordKept s).ri = s.ri := by simp [recordKept]
@[simp] theorem recordKept_ls (s : State) : (recordKept s).ls = s.ls := by simp [recordKept]
@[simp] theorem recordKept_tx (s : State) : (recordKept s).tx = s.tx := by simp [recordKept]
@[simp] theorem recordKept_rx (s : State) : (recordKept s).rx = s.rx := by simp [recordKept]
@[simp] theorem recordKept_ru (s : State) : (recordKept s).ru = s.ru := by simp [recordKept]
@[simp] theorem recordKept_clock (s : State) : (recordKept s).clock = s.clock := by simp [recordKept]
@[simp] theorem recordKept_lineIn (s : State) : (recordKept s).lineIn = s.lineIn := by simp [recordKept]
@[simp] theorem recordKept_pinsIn (s : State) : (recordKept s).pinsIn = s.pinsIn := by simp [recordKept]
@[simp] theorem recordKept_choices (s : State) : (recordKept s).choices = s.choices := by simp [recordKept]
@[simp] theorem recordKept_pending (s : State) : (recordKept s).pending = s.pending := by simp [recordKept]

/-! ## recordPosted -/

@[simp] theorem recordPosted_ri (s : State) : (recordPosted s).ri = s.ri := by simp [recordPosted]
@[simp] theorem recordPosted_ls (s : State) : (recordPosted s).ls = s.ls := by simp [recordPosted]
@[simp] theorem recordPosted_tx (s : State) : (recordPosted s).tx = s.tx := by simp [recordPosted]
@[simp] theorem recordPosted_rx (s : State) : (recordPosted s).rx = s.rx := by simp [recordPosted]
@[simp] theorem recordPosted_ru (s : State) : (recordPosted s).ru = s.ru := by simp [recordPosted]
@[simp] theorem recordPosted_clock (s : State) : (recordPosted s).clock = s.clock := by simp [recordPosted]
@[simp] theorem recordPosted_lineIn (s : State) : (recordPosted s).lineIn = s.lineIn := by simp [recordPosted]
@[simp] theorem recordPosted_pinsIn (s : State) : (recordPosted s).pinsIn = s.pinsIn := by simp [recordPosted]
@[simp] theorem recordPosted_choices (s : State) : (recordPosted s).choices = s.choices := by simp [recordPosted]
@[simp] theorem recordPosted_pending (s : State) : (recordPosted s).pending = s.pending := by simp [recordPosted]

/-! ## testDescriptorRead -/

@[simp] theorem testDescriptorRead_ri (s : State) : (testDescriptorRead s).ri = s.ri := by unfold testDescriptorRead; split <;> rfl
@[simp] theorem testDescriptorRead_rp (s : State) : (testDescriptorRead s).rp = s.rp := by unfold testDescriptorRead; split <;> rfl
@[simp] theorem testDescriptorRead_st (s : State) : (testDescriptorRead s).st = s.st := by unfold testDescriptorRead; split <;> rfl
@[simp] theorem testDescriptorRead_sc (s : State) : (testDescriptorRead s).sc = s.sc := by unfold testDescriptorRead; split <;> rfl
@[simp] theorem testDescriptorRead_ls (s : State) : (testDescriptorRead s).ls = s.ls := by unfold testDescriptorRead; split <;> rfl
@[simp] theorem testDescriptorRead_tx (s : State) : (testDescriptorRead s).tx = s.tx := by unfold testDescriptorRead; split <;> rfl
@[simp] theorem testDescriptorRead_rx (s : State) : (testDescriptorRead s).rx = s.rx := by unfold testDescriptorRead; split <;> rfl
@[simp] theorem testDescriptorRead_cu (s : State) : (testDescriptorRead s).cu = s.cu := by unfold testDescriptorRead; split <;> rfl
@[simp] theorem testDescriptorRead_clock (s : State) : (testDescriptorRead s).clock = s.clock := by unfold testDescriptorRead; split <;> rfl
@[simp] theorem testDescriptorRead_lineIn (s : State) : (testDescriptorRead s).lineIn = s.lineIn := by unfold testDescriptorRead; split <;> rfl
@[simp] theorem testDescriptorRead_pinsIn (s : State) : (testDescriptorRead s).pinsIn = s.pinsIn := by unfold testDescriptorRead; split <;> rfl
@[simp] theorem testDescriptorRead_choices (s : State) : (testDescriptorRead s).choices = s.choices := by unfold testDescriptorRead; split <;> rfl
@[simp] theorem testDescriptorRead_pending (s : State) : (testDescriptorRead s).pending = s.pending := by unfold testDescriptorRead; split <;> rfl

/-! ## testRecordRead -/

@[simp] theorem testRecordRead_rp (s : State) : (testRecordRead s).rp = s.rp := by unfold testRecordRead; split <;> rfl
@[simp] theorem testRecordRead_st (s : State) : (testRecordRead s).st = s.st := by unfold testRecordRead; split <;> rfl
@[simp] theorem testRecordRead_sc (s : State) : (testRecordRead s).sc = s.sc := by unfold testRecordRead; split <;> rfl
@[simp] theorem testRecordRead_ls (s : State) : (testRecordRead s).ls = s.ls := by unfold testRecordRead; split <;> rfl
@[simp] theorem testRecordRead_tx (s : State) : (testRecordRead s).tx = s.tx := by unfold testRecordRead; split <;> rfl
@[simp] theorem testRecordRead_rx (s : State) : (testRecordRead s).rx = s.rx := by unfold testRecordRead; split <;> rfl
@[simp] theorem testRecordRead_ru (s : State) : (testRecordRead s).ru = s.ru := by unfold testRecordRead; split <;> rfl
@[simp] theorem testRecordRead_cu (s : State) : (testRecordRead s).cu = s.cu := by unfold testRecordRead; split <;> rfl
@[simp] theorem testRecordRead_clock (s : State) : (testRecordRead s).clock = s.clock := by unfold testRecordRead; split <;> rfl
@[simp] theorem testRecordRead_lineIn (s : State) : (testRecordRead s).lineIn = s.lineIn := by unfold testRecordRead; split <;> rfl
@[simp] theorem testRecordRead_pinsIn (s : State) : (testRecordRead s).pinsIn = s.pinsIn := by unfold testRecordRead; split <;> rfl
@[simp] theorem testRecordRead_choices (s : State) : (testRecordRead s).choices = s.choices := by unfold testRecordRead; split <;> rfl
@[simp] theorem testRecordRead_pending (s : State) : (testRecordRead s).pending = s.pending := by unfold testRecordRead; split <;> rfl

end Sys2Proof.Machine
end

