-- ==== Sys2Proof/Laws/Ops.lean ====
section
/-! SUPPORT. The shared operations: a read after a write, what each says once and for all, and the master access sequencer. -/

namespace Sys2Proof.Machine

/-! ## Tables: a read after a write -/

theorem station_putStation (a b : Addr) (x : Station) (s : State) :
    station (putStation a x s) b = if b = a then x else station s b := by
  simp only [station, putStation, Fin.getElem_fin, Vector.getElem_set, Fin.ext_iff, eq_comm]

@[simp] theorem station_putStation_same (a : Addr) (x : Station) (s : State) : station (putStation a x s) a = x := by
  simp [station_putStation]

theorem entry_putEntry (p q : PoolIx) (e : Option PoolEntry) (s : State) :
    entry (putEntry p e s) q = if q = p then e else entry s q := by
  simp only [entry, putEntry, Fin.getElem_fin, Vector.getElem_set, Fin.ext_iff, eq_comm]

@[simp] theorem entry_putEntry_same (p : PoolIx) (e : Option PoolEntry) (s : State) : entry (putEntry p e s) p = e := by
  simp [entry_putEntry]

theorem entry_modEntry (p q : PoolIx) (f : PoolEntry → PoolEntry) (s : State) :
    entry (modEntry p f s) q = if q = p then (entry s p).map f else entry s q := by
  unfold modEntry
  cases h : entry s p with
  | none => by_cases hq : q = p <;> simp [hq, h]
  | some e => simp [entry_putEntry]

theorem headTimer_putHeadTimer (a b : Addr) (x : Timer) (s : State) :
    headTimer (putHeadTimer a x s) b = if b = a then x else headTimer s b := by
  simp only [headTimer, putHeadTimer, Fin.getElem_fin, Vector.getElem_set, Fin.ext_iff, eq_comm]

theorem listOf_putList (l m : ListId) (ps : List PoolIx) (s : State) :
    listOf (putList l ps s) m = if m = l then ps else listOf s m := by
  cases l <;> cases m <;> simp [listOf, putList, Vector.getElem_set, Fin.ext_iff, eq_comm]

/-! ## Reads of a block that an update leaves alone -/

theorem station_congr {s t : State} (h : t.st = s.st) (a : Addr) : station t a = station s a := by simp [station, h]

theorem entry_congr {s t : State} (h : t.rp = s.rp) (p : PoolIx) : entry t p = entry s p := by simp [entry, h]

theorem listOf_congr {s t : State} (h : t.rp = s.rp) (l : ListId) : listOf t l = listOf s l := by
  cases l <;> simp [listOf, h]

theorem headTimer_congr {s t : State} (h : t.sc = s.sc) (a : Addr) : headTimer t a = headTimer s a := by
  simp [headTimer, h]

theorem headEntry_congr {s t : State} (h : t.rp = s.rp) (l : ListId) : headEntry t l = headEntry s l := by
  simp only [headEntry, listOf_congr h, entry_congr h]

@[simp] theorem listOf_putEntry (l : ListId) (p : PoolIx) (e : Option PoolEntry) (s : State) :
    listOf (putEntry p e s) l = listOf s l := by cases l <;> rfl

@[simp] theorem listOf_modEntry (l : ListId) (p : PoolIx) (f : PoolEntry → PoolEntry) (s : State) :
    listOf (modEntry p f s) l = listOf s l := by unfold modEntry; split <;> simp

@[simp] theorem entry_putList (l : ListId) (ps : List PoolIx) (s : State) (p : PoolIx) :
    entry (putList l ps s) p = entry s p := by cases l <;> rfl

/-! ## The sequencer (R195) -/

theorem accesses_requestAccess (x : Access) (s : State) : accesses (requestAccess x s) = accesses s ++ [x] := by
  simp [accesses, requestAccess]

theorem accesses_congr {s t : State} (h : t.hp = s.hp) : accesses t = accesses s := by simp [accesses, h]

@[simp] theorem accesses_freeBus (s : State) : accesses (freeBus s) = s.hp.queue := by simp [accesses, freeBus]

/-- Beginning an access takes none away and adds none. -/
@[simp] theorem accesses_beginAccess (s : State) : accesses (beginAccess s) = accesses s := by
  unfold beginAccess
  split
  · rename_i hb hq
    split <;> simp [accesses, hb, hq]
  · rfl

/-- The requests of one step are joined in some order, none lost and none added (R195). -/
theorem freeOrder_perm : ∀ (n k : Nat) (xs : List Access), (freeOrder n k xs).Perm xs
  | 0, _, xs => .refl xs
  | _ + 1, _, [] => .nil
  | _ + 1, _, [x] => .refl [x]
  | n + 1, k, x :: y :: rest => by
    have hlt : Config.joinPick k % (x :: y :: rest).length < (x :: y :: rest).length := Nat.mod_lt _ (by simp)
    have ih := freeOrder_perm n (k + 1) ((x :: y :: rest).eraseIdx (Config.joinPick k % (x :: y :: rest).length))
    have hp : ((x :: y :: rest)[Config.joinPick k % (x :: y :: rest).length] ::
        (x :: y :: rest).eraseIdx (Config.joinPick k % (x :: y :: rest).length)).Perm (x :: y :: rest) :=
      List.getElem_cons_eraseIdx_perm hlt
    unfold freeOrder
    simp only [List.getD_eq_getElem?_getD, List.getElem?_eq_getElem hlt, Option.getD_some]
    exact (ih.cons _).trans hp

theorem freeOrder_of_length_le_one (n k : Nat) (xs : List Access) (h : xs.length ≤ 1) : freeOrder n k xs = xs := by
  match n, xs, h with
  | 0, _, _ => rfl
  | _ + 1, [], _ => rfl
  | _ + 1, [_], _ => rfl

/-- A step that made at most one request joins it at the tail. -/
theorem joinRequests_of_le (n : Nat) (s : State) (h : s.hp.queue.length ≤ n + 1) : joinRequests n s = s := by
  have h1 : (s.hp.queue.drop n).length ≤ 1 := by simp; omega
  simp only [joinRequests, freeOrder_of_length_le_one _ _ _ h1, List.take_append_drop]
  rw [if_pos h1]

/-- After the end of a step the bus does not stand free while an access may begin (R195, R197). -/
theorem busOk_beginAccess (s : State) : BusOk (beginAccess s) := by
  unfold BusOk beginAccess
  split
  · rename_i hb hq
    split
    · simp
    · rename_i h
      intro h'
      exact absurd h' h
  · rename_i h
    intro _ hb
    cases hq : s.hp.queue with
    | nil => rfl
    | cons x rest => exact absurd hq (h x rest hb)

theorem busOk_settleBus (n : Nat) (s : State) : BusOk (settleBus n s) := busOk_beginAccess _

/-! ## The head of a list -/

theorem headEntry_some {s : State} {l : ListId} {p : PoolIx} {e : PoolEntry} (h : headEntry s l = some (p, e)) :
    (listOf s l).head? = some p ∧ entry s p = some e := by
  unfold headEntry at h
  split at h
  · rename_i q hq
    cases he : entry s q with
    | none => simp [he] at h
    | some x =>
      simp only [he, Option.map_some, Option.some.injEq, Prod.mk.injEq] at h
      obtain ⟨rfl, rfl⟩ := h
      exact ⟨hq, he⟩
  · simp at h

/-- Everything starting a payload read can do (R75): the entry's mark and phase, and one read. -/
theorem startPayload_cases (p : PoolIx) (s : State) :
    startPayload p s = s ∨
    ∃ e, entry s p = some e ∧
      (startPayload p s = putEntry p (some { e with readStarted := true, phase := .ready }) s ∨
       startPayload p s = requestAccess (readAccess (.payload p) e.payloadAddress e.payloadLength)
         (putEntry p (some { e with readStarted := true }) s)) := by
  unfold startPayload
  split
  · exact .inl rfl
  · rename_i e he
    split
    · split
      · exact .inr ⟨e, he, .inl rfl⟩
      · exact .inr ⟨e, he, .inr rfl⟩
    · exact .inl rfl

@[simp] theorem listOf_startPayload (l : ListId) (p : PoolIx) (s : State) : listOf (startPayload p s) l = listOf s l := by
  obtain h | ⟨e, -, h | h⟩ := startPayload_cases p s <;> rw [h]
  · simp
  · rw [listOf_congr (requestAccess_rp _ _)]; simp

@[simp] theorem listOf_armHeadTimer (l m : ListId) (e : PoolEntry) (s : State) :
    listOf (armHeadTimer m e s) l = listOf s l := listOf_congr (armHeadTimer_rp _ _ _) l

@[simp] theorem listOf_becomeHead (l m : ListId) (s : State) : listOf (becomeHead m s) l = listOf s l := by
  unfold becomeHead
  split
  · rfl
  · split <;> simp

/-- Becoming head changes no pool entry but the head's. -/
theorem entry_startPayload_of_ne {p q : PoolIx} (h : q ≠ p) (s : State) : entry (startPayload p s) q = entry s q := by
  obtain h1 | ⟨e, -, h1 | h1⟩ := startPayload_cases p s <;> rw [h1]
  · simp [entry_putEntry, h]
  · rw [entry_congr (requestAccess_rp _ _)]; simp [entry_putEntry, h]

theorem entry_becomeHead_of_ne {l : ListId} {q : PoolIx} {s : State} (h : (listOf s l).head? ≠ some q) :
    entry (becomeHead l s) q = entry s q := by
  unfold becomeHead
  split
  · rfl
  · rename_i p e hh
    have hp := (headEntry_some hh).1
    have hne : q ≠ p := fun hq => h (hq ▸ hp)
    split
    · rw [entry_startPayload_of_ne hne, entry_congr (armHeadTimer_rp _ _ _)]
    · rw [entry_modEntry, if_neg hne, entry_congr (armHeadTimer_rp _ _ _)]

/-- A payload read starts as its rule says, at a head request (R75, R148). -/
theorem startPayload_eq {p : PoolIx} {e : PoolEntry} {s : State} (h : entry s p = some e) :
    (payloadStarts s.hp.engine e → entry (startPayload p s) p = some (payloadStarted e) ∧
      accesses (startPayload p s) = accesses s ++ payloadReadOf p e) ∧
    (¬payloadStarts s.hp.engine e → startPayload p s = s) := by
  have hk : sendsPayload e.kind = true ↔ readsPayload e.kind := by cases e.kind <;> simp [sendsPayload, readsPayload]
  have hc : (isRunning s && sendsPayload e.kind && e.phase == .queued && !e.cancelMark && !e.readStarted) = true ↔
      payloadStarts s.hp.engine e := by
    simp only [Bool.and_eq_true, hk, isRunning, beq_iff_eq, Bool.not_eq_true', payloadStarts, and_assoc]
  constructor
  · intro hs
    simp only [startPayload, h, hc.mpr hs, if_true]
    by_cases h0 : e.payloadLength = 0
    · simp [h0, payloadStarted, payloadReadOf, accesses_congr (putEntry_hp _ _ _)]
    · simp only [h0, if_false, payloadStarted, payloadReadOf, accesses_requestAccess, accesses_congr (putEntry_hp _ _ _)]
      exact ⟨by simp [entry_congr (requestAccess_rp _ _)], rfl⟩
  · intro hs
    have : ¬(isRunning s && sendsPayload e.kind && e.phase == .queued && !e.cancelMark && !e.readStarted) = true :=
      fun hh => hs (hc.mp hh)
    simp [startPayload, h, this]

/-- What becoming head does, whatever the request (R75, R148, R149, R150). -/
theorem becomeHead_becomesHead {l : ListId} {q : PoolIx} {x : PoolEntry} {s : State} (hh : (listOf s l).head? = some q)
    (he : entry s q = some x) :
    ∃ more, accesses (becomeHead l s) = accesses s ++ more ∧ BecomesHead s (becomeHead l s) l q x more := by
  have harm : entry (armHeadTimer l x s) q = some x := by rw [entry_congr (armHeadTimer_rp _ _ _), he]
  have heng : (armHeadTimer l x s).hp.engine = s.hp.engine := by rw [armHeadTimer_hp]
  have hb : becomeHead l s = if sendsPayload x.kind then startPayload q (armHeadTimer l x s)
      else modEntry q (fun y => { y with phase := .ready }) (armHeadTimer l x s) := by
    simp [becomeHead, headEntry, hh, he]
  have htimer : ∀ a, l = .station a → headTimer (becomeHead l s) a = headTimerAt s.clock.cycles x := by
    rintro a rfl
    rw [hb]
    have : headTimer (armHeadTimer (.station a) x s) a = headTimerAt s.clock.cycles x := by
      simp only [armHeadTimer, headTimer_putHeadTimer, if_true, headTimerFor, headTimerAt, cyclesPerMs]
      cases x.deadline <;> rfl
    split
    · rw [headTimer_congr (startPayload_sc _ _), this]
    · rw [headTimer_congr (modEntry_sc _ _ _), this]
  by_cases hk : sendsPayload x.kind = true
  · have hr : readsPayload x.kind := by revert hk; cases x.kind <;> simp [sendsPayload, readsPayload]
    obtain ⟨h1, h2⟩ := startPayload_eq harm
    rw [heng] at h1 h2
    rw [if_pos hk] at hb
    by_cases hs : payloadStarts s.hp.engine x
    · obtain ⟨h3, h4⟩ := h1 hs
      refine ⟨payloadReadOf q x, by rw [hb, h4, accesses_congr (armHeadTimer_hp _ _ _)], ?_, ?_, ?_, htimer⟩
      · exact fun _ => ⟨by rw [hb, h3], rfl⟩
      · exact fun _ hn => absurd hs hn
      · exact fun hn => absurd hr hn
    · have h3 := h2 hs
      refine ⟨[], by rw [hb, h3, accesses_congr (armHeadTimer_hp _ _ _), List.append_nil], ?_, ?_, ?_, htimer⟩
      · exact fun hn => absurd hn hs
      · exact fun _ _ => ⟨by rw [hb, h3, harm], rfl⟩
      · exact fun hn => absurd hr hn
  · have hr : ¬readsPayload x.kind := by revert hk; cases x.kind <;> simp [sendsPayload, readsPayload]
    rw [if_neg hk] at hb
    refine ⟨[], by rw [hb, accesses_congr ((modEntry_hp _ _ _).trans (armHeadTimer_hp _ _ _)), List.append_nil], ?_, ?_, ?_,
      htimer⟩
    · exact fun hn => absurd hn.2.1 hr
    · exact fun hn _ => absurd hn hr
    · exact fun _ => ⟨by rw [hb, entry_modEntry, if_pos rfl, harm]; rfl, rfl⟩

/-- Of an empty list nothing becomes head. -/
theorem becomeHead_of_nil {l : ListId} {s : State} (h : listOf s l = []) : becomeHead l s = s := by
  simp [becomeHead, headEntry, h]

/-- A list whose head is a free entry has no request to become head. -/
theorem becomeHead_of_none {l : ListId} {q : PoolIx} {s : State} (h : (listOf s l).head? = some q) (he : entry s q = none) :
    becomeHead l s = s := by
  simp [becomeHead, headEntry, h, he]

/-- The accesses of an ended request: one on the bus has its result discarded, and what was not begun is gone (R76, R195). -/
theorem accesses_discardAccesses (p : PoolIx) (s : State) : accesses (discardAccesses p s) = accessesWithout p s := by
  simp only [accesses, accessesWithout, discardAccesses, listWithout]
  cases s.hp.bus <;> rfl

theorem headTimer_leaveList_same (a : Addr) (p : PoolIx) (s : State) : headTimer (leaveList (.station a) p s) a = .stopped := by
  simp [leaveList, headTimer_putHeadTimer]

theorem hostKept_startPayload (p : PoolIx) (s : State) : HostKept s (startPayload p s) := by
  obtain h | ⟨e, -, h | h⟩ := startPayload_cases p s <;> rw [h] <;> simp [HostKept, requestAccess]

theorem hostKept_becomeHead (l : ListId) (s : State) : HostKept s (becomeHead l s) := by
  unfold becomeHead
  split
  · rfl
  · split
    · have := hostKept_startPayload ‹_› (armHeadTimer l ‹_› s)
      simpa [HostKept] using this
    · simp [HostKept]

/-- Becoming head arms the timer of its own list alone (R129, R150). -/
theorem headTimer_becomeHead_of_ne {l : ListId} {a : Addr} (h : ListId.station a ≠ l) (s : State) :
    headTimer (becomeHead l s) a = headTimer s a := by
  have arm : ∀ e : PoolEntry, headTimer (armHeadTimer l e s) a = headTimer s a := by
    intro e
    cases l with
    | control => rfl
    | station b =>
      have hab : a ≠ b := fun hb => h (hb ▸ rfl)
      simp [armHeadTimer, headTimer_putHeadTimer, hab]
  unfold becomeHead
  split
  · rfl
  · split
    · rw [headTimer_congr (startPayload_sc _ _), arm]
    · rw [headTimer_congr (modEntry_sc _ _ _), arm]

theorem sc_becomeHead (l : ListId) (s : State) :
    (becomeHead l s).sc = { s.sc with headTimers := (becomeHead l s).sc.headTimers } := by
  unfold becomeHead
  split
  · rfl
  · split
    · rw [startPayload_sc]; cases l <;> rfl
    · rw [modEntry_sc]; cases l <;> rfl

/-! ## The end of a request -/

@[simp] theorem entry_leaveList (l : ListId) (p q : PoolIx) (s : State) : entry (leaveList l p s) q = entry s q := by
  cases l <;> simp [leaveList, entry_congr (putHeadTimer_rp _ _ _)]

theorem listOf_leaveList (l m : ListId) (p : PoolIx) (s : State) :
    listOf (leaveList l p s) m = if m = l then (listOf s l).erase p else listOf s m := by
  cases l <;> simp [leaveList, listOf_congr (putHeadTimer_rp _ _ _), listOf_putList]

theorem headTimer_leaveList_of_ne {l : ListId} {a : Addr} (h : ListId.station a ≠ l) (p : PoolIx) (s : State) :
    headTimer (leaveList l p s) a = headTimer s a := by
  cases l with
  | control => exact headTimer_congr (putList_sc _ _ _) a
  | station b =>
    have hab : a ≠ b := fun hb => h (hb ▸ rfl)
    simp [leaveList, headTimer_putHeadTimer, hab, headTimer_congr (putList_sc _ _ _)]

theorem sc_leaveList (l : ListId) (p : PoolIx) (s : State) :
    (leaveList l p s).sc = { s.sc with headTimers := (leaveList l p s).sc.headTimers } := by
  cases l <;> simp [leaveList, putHeadTimer]

/-- A station entry after the end of a request: the outstanding link to it is cleared, and nothing else changes (R50). -/
theorem station_clearOutstanding (l : ListId) (p : PoolIx) (s : State) (a : Addr) :
    station (clearOutstanding l p s) a =
      if l = .station a ∧ (station s a).outstanding = some p then { station s a with outstanding := none }
      else station s a := by
  cases l with
  | control => simp [clearOutstanding]
  | station b =>
    simp only [clearOutstanding]
    by_cases hb : b = a
    · subst hb
      by_cases ho : (station s b).outstanding = some p <;> simp [ho]
    · have hab : a ≠ b := fun h => hb h.symm
      by_cases ho : (station s b).outstanding = some p <;> simp [ho, hb, station_putStation, hab]

theorem loopMap_clearOutstanding (l : ListId) (p : PoolIx) (s : State) :
    (clearOutstanding l p s).st.loopMap = s.st.loopMap := by
  cases l
  · rfl
  · simp only [clearOutstanding]; split <;> rfl

/-- Everything finishing a request does (R130, R144, R148 to R151), the station's outstanding link apart. -/
theorem finishRequest_resolves {p : PoolIx} {e : PoolEntry} {s : State} (h : entry s p = some e) (status : Status)
    (length count : Nat) (use : SlotUse) :
    Resolves s (finishRequest p status length count use s) (accessesWithout p s) p e (doneRecord s e status length count) := by
  have hf : finishRequest p status length count use s =
      becomeHead (listFor e.kind e.address) (clearOutstanding (listFor e.kind e.address) p
        (leaveList (listFor e.kind e.address) p (putEntry p none (discardAccesses p
          (enterRecord (doneRecord s e status length count) use s))))) := by
    simp [finishRequest, h]
  generalize hu : clearOutstanding (listFor e.kind e.address) p
        (leaveList (listFor e.kind e.address) p (putEntry p none (discardAccesses p
          (enterRecord (doneRecord s e status length count) use s)))) = u at hf
  generalize hl : listFor e.kind e.address = l at hf hu
  rw [hf]
  have urp : ∀ q, entry u q = if q = p then none else entry s q := by
    intro q
    rw [← hu, entry_congr (clearOutstanding_rp _ _ _), entry_leaveList, entry_putEntry,
      entry_congr ((discardAccesses_rp _ _).trans (enterRecord_rp _ _ _))]
  have ulist : ∀ m, listOf u m = if m = l then (listOf s l).erase p else listOf s m := by
    intro m
    rw [← hu, listOf_congr (clearOutstanding_rp _ _ _), listOf_leaveList]
    simp only [listOf_putEntry, listOf_congr ((discardAccesses_rp _ _).trans (enterRecord_rp _ _ _))]
  have uhp : u.hp = (discardAccesses p s).hp := by
    rw [← hu]
    simp [discardAccesses]
  have ueng : u.hp.engine = s.hp.engine := by rw [uhp]; rfl
  have uclock : u.clock = s.clock := by rw [← hu]; simp
  have uacc : accesses u = accessesWithout p s := by rw [accesses_congr uhp, accesses_discardAccesses]
  have ucu : u.cu = (enterRecord (doneRecord s e status length count) use s).cu := by rw [← hu]; simp
  have usc : u.sc = { s.sc with headTimers := u.sc.headTimers } := by
    rw [← hu, clearOutstanding_sc, sc_leaveList]; simp
  have utimer : ∀ a, l = .station a → headTimer u a = .stopped := by
    rintro a rfl
    rw [← hu, headTimer_congr (clearOutstanding_sc _ _ _), headTimer_leaveList_same]
  have hne : ∀ m, listOf (becomeHead l u) m = listOf u m := fun m => listOf_becomeHead m l u
  have hhead : ∃ more, accesses (becomeHead l u) = accessesWithout p s ++ more ∧
      (∀ q x, (listOf (becomeHead l u) l).head? = some q → q ≠ p → entry s q = some x →
        BecomesHead s (becomeHead l u) l q x more) ∧
      (listOf (becomeHead l u) l = [] → more = [] ∧ ∀ a, l = .station a → headTimer (becomeHead l u) a = .stopped) := by
    rw [hne]
    cases hq : (listOf u l).head? with
    | none =>
      have hnil : listOf u l = [] := List.head?_eq_none_iff.mp hq
      rw [becomeHead_of_nil hnil]
      exact ⟨[], by rw [uacc, List.append_nil], by simp, fun _ => ⟨rfl, utimer⟩⟩
    | some q =>
      have hnn : listOf u l ≠ [] := by intro hn; rw [hn] at hq; simp at hq
      cases he : entry u q with
      | none =>
        rw [becomeHead_of_none hq he]
        refine ⟨[], by rw [uacc, List.append_nil], ?_, fun hn => absurd hn hnn⟩
        intro q' x hq' hp hx
        cases hq'
        rw [urp, if_neg hp, hx] at he
        cases he
      | some x =>
        obtain ⟨more, h1, h2⟩ := becomeHead_becomesHead hq he
        refine ⟨more, by rw [h1, uacc], ?_, fun hn => absurd hn hnn⟩
        intro q' y hq' hp hy
        cases hq'
        rw [urp, if_neg hp, hy] at he
        cases he
        unfold BecomesHead at h2 ⊢
        rwa [ueng, uclock] at h2
  obtain ⟨more, hm1, hm2, hm3⟩ := hhead
  unfold Resolves
  rw [hl]
  refine ⟨?_, ?_, ?_, ?_, ?_, ⟨more, hm1, hm2, hm3⟩, ?_, ?_, ?_, ?_, ?_, ⟨?_, ?_⟩, ?_, ?_, ?_⟩
  · rw [becomeHead_cu, ucu]; rfl
  · by_cases hh : (listOf u l).head? = some p
    · rw [becomeHead_of_none hh (by simp [urp])]
      simp [urp]
    · rw [entry_becomeHead_of_ne hh]; simp [urp]
  · rw [hne, ulist]; simp
  · intro m hm
    rw [hne, ulist, if_neg hm]
  · intro q hq hh
    rw [hne] at hh
    rw [entry_becomeHead_of_ne hh, urp, if_neg hq]
  · have := hostKept_becomeHead l u
    unfold HostKept at this ⊢
    rw [this, uhp]
    rfl
  · rw [sc_becomeHead, usc]
  · intro a ha
    rw [headTimer_becomeHead_of_ne ha, ← hu, headTimer_congr (clearOutstanding_sc _ _ _), headTimer_leaveList_of_ne ha]
    exact headTimer_congr (by simp) a
  all_goals (rw [← hu]; simp)

/-- The stations after the end of a request: one outstanding link is cleared, and nothing else changes (R50). -/
theorem station_finishRequest {p : PoolIx} {e : PoolEntry} {s : State} (h : entry s p = some e) (status : Status)
    (length count : Nat) (use : SlotUse) (a : Addr) :
    station (finishRequest p status length count use s) a =
      if listFor e.kind e.address = .station a ∧ (station s a).outstanding = some p
      then { station s a with outstanding := none } else station s a := by
  simp only [finishRequest, h, station_congr (becomeHead_st _ _), station_clearOutstanding]
  have : ∀ x, station (leaveList (listFor e.kind e.address) p (putEntry p none (discardAccesses p
      (enterRecord (doneRecord s e status length count) use s)))) x = station s x := fun x =>
    station_congr (by simp) x
  simp only [this]

theorem loopMap_finishRequest (p : PoolIx) (status : Status) (length count : Nat) (use : SlotUse) (s : State) :
    (finishRequest p status length count use s).st.loopMap = s.st.loopMap := by
  unfold finishRequest
  split
  · rfl
  · simp [loopMap_clearOutstanding]

/-- The slot of a finished request: a reservation used falls by one, a claim leaves the count (R159). -/
theorem reserved_finishRequest {p : PoolIx} {e : PoolEntry} {s : State} (h : entry s p = some e) (status : Status)
    (length count : Nat) (use : SlotUse) :
    (finishRequest p status length count use s).cu.reserved =
      match use with | .useReserved => s.cu.reserved - 1 | .claimNow => s.cu.reserved := by
  simp only [finishRequest, h, becomeHead_cu, clearOutstanding_cu, leaveList_cu, putEntry_cu, discardAccesses_cu]
  cases use <;> rfl

/-! ## Notices (R158, R161) -/

/-- A raise keeps at most one notice of each kind in the queue. -/
theorem applyRaise_noticesOk (x : Raise) (cu : CompletionUnit)
    (h : ∀ k, (cu.queue.filter (isNoticeOf k)).length ≤ 1) :
    ∀ k, ((applyRaise x cu).queue.filter (isNoticeOf k)).length ≤ 1 := by
  intro k
  unfold applyRaise
  split
  · have : ∀ r : CompletionRecord, isNoticeOf k (if isNoticeOf x.kind r then updateNotice x r else r) = isNoticeOf k r := by
      intro r; split <;> rfl
    simp only [List.filter_map, List.length_map]
    calc (List.filter (isNoticeOf k ∘ fun r => if isNoticeOf x.kind r = true then updateNotice x r else r) cu.queue).length
        = (cu.queue.filter (isNoticeOf k)).length := by
          congr 1; apply List.filter_congr; intro r _; simpa using this r
      _ ≤ 1 := h k
  · rename_i hn
    simp only [List.filter_append, List.length_append]
    by_cases hk : isNoticeOf k (noticeRecord x) = true
    · have hkx : k = x.kind := by simpa [isNoticeOf, noticeRecord] using (beq_iff_eq.mp hk).symm
      have : cu.queue.filter (isNoticeOf k) = [] := by
        simp only [List.any_eq_true, not_exists, not_and, Bool.not_eq_true] at hn
        simp only [List.filter_eq_nil_iff, Bool.not_eq_true]
        intro r hr
        rw [hkx]
        exact hn r hr
      rw [this, List.filter_cons, if_pos hk]
      simp
    · rw [List.filter_cons, if_neg hk]
      simpa using h k

theorem isNoticeOf_iff (k : NoticeKind) (r : CompletionRecord) : isNoticeOf k r = true ↔ r.kind = .notice k := by
  simp [isNoticeOf]

theorem noticeRecord_eq (x : Raise) : noticeRecord x = noticeOf x := by
  rcases x with ⟨k, n, l⟩
  cases l with
  | none => rfl
  | some l => cases l <;> rfl

theorem updateNotice_eq (x : Raise) (r : CompletionRecord) :
    updateNotice x r = { r with count := min 65535 (r.count + x.count)
                                last := match x.loop with | some l => some (BitVec.ofNat 8 (loopNumber l)) | none => r.last } := by
  rcases x with ⟨k, n, l⟩
  cases l with
  | none => rfl
  | some l => cases l <;> rfl

/-- What a raise that is not held does to the completion unit. -/
theorem applyRaise_eq (x : Raise) (cu : CompletionUnit) : applyRaise x cu = { cu with queue := queueAfterRaise x cu.queue } := by
  unfold applyRaise queueAfterRaise
  simp only [List.any_eq_true, isNoticeOf_iff, noticeRecord_eq, updateNotice_eq]
  split <;> rfl

/-- When a raise is held. -/
theorem noticeClosed_iff (k : NoticeKind) (cu : CompletionUnit) : noticeClosed k cu = true ↔ raiseIsHeld k cu := by
  unfold noticeClosed raiseIsHeld
  cases cu.write <;> cases cu.queue.head? <;> simp [isNoticeOf]

/-- All that a raise does (R161, R162). -/
theorem raiseNotice_eq (x : Raise) (s : State) : raiseNotice x s = { s with cu := afterRaise x s.cu } := by
  unfold raiseNotice afterRaise
  simp only [noticeClosed_iff, applyRaise_eq]
  split <;> rfl

/-- All that the held raises do when the record write that held them ends (R162). -/
theorem applyHeldRaises_eq (cu : CompletionUnit) :
    applyHeldRaises cu = { cu with queue := queueAfterRaises cu.heldRaises cu.queue, heldRaises := [] } := by
  have h : ∀ (xs : List Raise) (c : CompletionUnit),
      xs.foldl (fun c x => applyRaise x c) c = { c with queue := queueAfterRaises xs c.queue } := by
    intro xs
    induction xs with
    | nil => intro c; rfl
    | cons x xs ih => intro c; rw [List.foldl_cons, ih, applyRaise_eq]; rfl
  exact h _ _

/-! ## The check (R4, R8) -/

/-- One step of the division is linear. -/
theorem crcBit_xor (x y : BitVec 16) : crcBit (x ^^^ y) = crcBit x ^^^ crcBit y := by
  unfold crcBit
  rw [BitVec.msb_xor]
  cases x.msb <;> cases y.msb <;> simp [BitVec.shiftLeft_xor_distrib]
  · ac_rfl
  · ac_rfl
  · rw [show (x <<< 1 ^^^ 32773#16 ^^^ (y <<< 1 ^^^ 32773#16)) = x <<< 1 ^^^ y <<< 1 ^^^ (32773#16 ^^^ 32773#16) by ac_rfl]
    simp

theorem checkStep_eq (c : BitVec 16) (b : Bool) : checkStep c b = crcBit c ^^^ (if b then 0x8005 else 0) := by
  unfold checkStep crcBit
  cases b <;> cases c.msb <;> simp

/-- A bit of the register that is not its highest moves up. -/
theorem crcBit_ite (b : Bool) (k : Nat) (hk : k < 15) :
    crcBit (if b then BitVec.twoPow 16 k else 0#16) = if b then BitVec.twoPow 16 (k + 1) else 0#16 := by
  cases b
  · simp [crcBit]
  · interval_cases k <;> decide

theorem octet_eq_bits : ∀ o : Octet, (o.setWidth 16 <<< 8 : BitVec 16) =
    (if o.getLsbD 7 then .twoPow 16 15 else 0) ^^^ (if o.getLsbD 6 then .twoPow 16 14 else 0) ^^^
    (if o.getLsbD 5 then .twoPow 16 13 else 0) ^^^ (if o.getLsbD 4 then .twoPow 16 12 else 0) ^^^
    (if o.getLsbD 3 then .twoPow 16 11 else 0) ^^^ (if o.getLsbD 2 then .twoPow 16 10 else 0) ^^^
    (if o.getLsbD 1 then .twoPow 16 9 else 0) ^^^ (if o.getLsbD 0 then .twoPow 16 8 else 0) := by decide +kernel

theorem crcBit_top (b : Bool) : crcBit (if b then BitVec.twoPow 16 15 else 0#16) = if b then 0x8005#16 else 0#16 := by cases b <;> decide

theorem crcOctet_eq (c : BitVec 16) (o : Octet) : crcOctet c o = (checkBits o).foldl checkStep c := by
  have hr : List.range 8 = [0, 1, 2, 3, 4, 5, 6, 7] := rfl
  simp [checkBits, hr, checkStep_eq, crcOctet, octet_eq_bits, crcBit_xor, crcBit_ite, crcBit_top]
  ac_rfl

/-- The check taken octet by octet is R4's, taken bit by bit. -/
theorem crcOf_eq (octets : List Octet) : crcOf octets = checkOf octets := by
  unfold crcOf checkOf
  generalize (0xFFFF : BitVec 16) = c
  induction octets generalizing c with
  | nil => rfl
  | cons o rest ih => rw [List.foldl_cons, List.flatMap_cons, List.foldl_append, ih, crcOctet_eq]

theorem frameCheck_eq (octets : List Octet) : frameCheck octets = [highOctet (checkOf octets), lowOctet (checkOf octets)] := by
  rw [frameCheck, crcOf_eq]
  refine congrArg₂ _ (BitVec.eq_of_toNat_eq ?_) (congrArg (· :: []) (BitVec.eq_of_toNat_eq ?_)) <;>
    simp [highOctet, lowOctet, Nat.shiftRight_eq_div_pow]

theorem markerCheck_eq (content : List Octet) : markerCheck content = lowOctet (checkOf content) := by
  rw [markerCheck, crcOf_eq]
  exact BitVec.eq_of_toNat_eq (by simp [lowOctet])

end Sys2Proof.Machine
end

