-- ==== Sys2Proof/Tests/Slice0.lean ====
section
/-! SUPPORT. Tests: the well-formedness checks, one small step of every command, the manual's worked figures, and for every
statement with hypotheses a concrete state and operands that meet them. -/

namespace Sys2Proof.Tests

open Sys2Proof.Machine

set_option Elab.async false

/-! ## Small states -/

/-- A valid configuration. -/
def cfg : Configuration :=
  { requestBase := 0x1000, requestSize := 16, completionBase := 0x2000, completionSize := 16, bufferBase := 0x3000,
    bufferSize := 8, rateCode := 3, inFlightLimit := 4, attemptLimit := 3, waitLimit := 4, fetchDelay := 10,
    silentThreshold := 3, sweepInterval := 50, sweepBudget := 4, callInterval := 1000, returnMargin := 64, settleTime := 20,
    probeLimit := 1024 }

/-- An engine state with the configuration loaded, the loop in a state with a transit list. -/
def at' (e : EngineState) (l : LoopState) (es : List TransitEntry) : State :=
  { State.reset with
    hp := { State.reset.hp with engine := e, config := some cfg, rate := 3 }
    ls := { State.reset.ls with state := l, transit := es } }

/-- RUNNING with the loop OPEN. -/
def opened (es : List TransitEntry) : State := at' .running .opened es

/-- A master access of a kind is on the bus. -/
def onB (k : AccessKind) (n : Nat) (s : State) : State :=
  { s with hp := { s.hp with bus := some { access := readAccess k 0 n, begunAt := 0 } } }

theorem onBus_onB (k : AccessKind) (n : Nat) (s : State) : OnBus (onB k n s) k := ⟨_, rfl, rfl, rfl⟩

theorem length_onB {k : AccessKind} {n : Nat} {s : State} {o : List Octet} (h : o.length = n) :
    ∀ b, (onB k n s).hp.bus = some b → o.length = b.access.length := by
  intro b hb
  cases hb
  exact h

/-- A request record of a kind code for an address. -/
def record (kind address : Octet) : RequestRecord :=
  { kind := kind, address := address, attemptLimit := 0, flags := 0, tag := 7, payloadAddress := 0x4000, payloadLength := 4,
    responseCapacity := 8, responseAddress := 0x5000, deadline := 0, weight := 2, groups := 1 }

/-- A placed request of a kind for an address. -/
def req (k : RequestKind) (address : Octet) : PoolEntry := placedEntry k (record 0 address) cfg 0

/-- A request alone in a list, in pool entry 0. -/
def headed (l : ListId) (q : PoolEntry) (s : State) : State := putList l [0] (putEntry 0 (some q) s)

/-- A station in a state. -/
def station' (a : Addr) (x : StationState) (s : State) : State := putStation a { station s a with state := x } s

/-- The octet time is `n`. -/
def atOctet (n : Nat) (s : State) : State := { s with clock := { s.clock with octets := n } }

/-- The REFCLK cycle is `n`. -/
def atCycle (n : Nat) (s : State) : State := { s with clock := { s.clock with cycles := n } }

/-- The answer is a next state of which something holds. -/
def next? (o : Answer) (f : State → Bool) : Bool :=
  match o with
  | .next t => f t
  | .fault _ | .refused _ => false

/-! ## Well-formedness: an ill-formed term for each check -/

theorem smoke_badCommand : (Instr.badCommand 1).wellFormed = false := by decide +kernel
theorem smoke_registerWrite_none : (Instr.registerWrite .control 0).wellFormed = false := by decide +kernel
theorem smoke_registerWrite_whole : (Instr.registerWrite .control 32).wellFormed = false := by decide +kernel
theorem smoke_configurationRead : (Instr.configurationReadComplete (List.replicate 63 0)).wellFormed = false := by decide +kernel
theorem smoke_recordRead : (Instr.requestRecordReadComplete []).wellFormed = false := by decide +kernel
theorem smoke_descriptorRead : (Instr.descriptorReadComplete (List.replicate 17 0)).wellFormed = false := by decide +kernel
theorem smoke_payloadRead : (Instr.payloadReadComplete []).wellFormed = false := by decide +kernel
theorem smoke_headFrame_length : (Instr.headFrameReturn .data 1 false (List.replicate 241 0) .taken 0 ⟨0, 9⟩).wellFormed = false := by decide +kernel
theorem smoke_headFrame_copies : (Instr.headFrameReturn .group 48 false [] .taken 33 ⟨0, 9⟩).wellFormed = false := by decide +kernel
theorem smoke_response : (Instr.responseReturn 1 false (List.replicate 241 0) ⟨0, 9⟩).wellFormed = false := by decide +kernel
theorem smoke_report : (Instr.reportReturn 1 false (List.replicate 241 0) ⟨0, 9⟩).wellFormed = false := by decide +kernel
theorem smoke_sweepMarker_budget : (Instr.sweepMarkerReturn 9 [] ⟨0, 9⟩).wellFormed = false := by decide +kernel
theorem smoke_sweepMarker_acks :
    (Instr.sweepMarkerReturn 8 (List.replicate 33 { address := 0, toggle := false }) ⟨0, 9⟩).wellFormed = false := by decide +kernel
theorem smoke_callMarker :
    (Instr.callMarkerReturn (List.replicate 33 { address := 1, join := false }) ⟨0, 9⟩).wellFormed = false := by decide +kernel
theorem smoke_span : (Instr.turnReturn ⟨2, 1⟩).wellFormed = false := by decide +kernel
theorem smoke_start : Instr.start.wellFormed = true := by decide +kernel

/-! ## The line -/

/-- The manual's worked check: the four header octets 00 00 00 00 give 0024h (R4). -/
theorem test_crc_of_four_zero_octets : frameCheck [0, 0, 0, 0] = [0x00, 0x24] := by decide +kernel

/-- A frame whose check is wrong is a damaged frame (R20). -/
theorem test_wrong_check_is_damaged :
    (receiveAll 0 .seek (([.control .opening, .data 5, .data 8, .data 0, .data 0, .data 1, .data 2, .control .closing] :
      List Symbol).map .symbol)).2 =
      [{ item := .damagedFrame, span := ⟨0, 7⟩ }] := by decide +kernel

/-- An OPEN inside a marker damages it and begins a frame (R23). -/
theorem test_open_ends_a_marker :
    receiveAll 0 .seek [.symbol (.control .turn), .symbol (.control .opening)] =
      (.frame 1 [] false [], [{ item := .damagedMarker .turn, span := ⟨0, 1⟩ }]) := by decide +kernel

/-- An EXCH element of a DATA with 6 payload octets lasts 266 octet times, of a FETCH 260 (spec 11, 11.5). -/
theorem test_exch_element_lengths :
    (exchSymbols 9 .data true (List.replicate 6 0)).length = 266 ∧ (exchSymbols 9 .fetch true []).length = 260 := by
  decide +kernel

/-- A GROUP of 2 payload octets lasts 12 octet times, a SWEEP with one pair 6 and with two pairs 8 (spec 11, 11.6 and 11.7). -/
theorem test_group_and_sweep_element_lengths :
    (headFrameSymbols 49 .group false [1, 2]).length = 12 ∧
    (sweepSymbols 3 [{ address := 16, toggle := true }]).length = 6 ∧
    (sweepSymbols 4 [{ address := 4, toggle := true }, { address := 16, toggle := true }]).length = 8 := by decide +kernel

/-! ## One step of every command -/

theorem test_start :
    next? (exec .start State.reset) (fun t => t.hp.engine == .starting && t.hp.bus.isSome) = true := by decide +kernel
theorem test_start_running : next? (exec .start (opened [])) (fun t => t.hp.registerError == .wrongCommand) = true := by
  decide +kernel
theorem test_stop_broken :
    next? (exec .stop (at' .running .broken [])) (fun t => t.hp.engine == .stopped && t.ls.state == .quiet) = true := by
  decide +kernel
theorem test_stop_drains :
    next? (exec .stop (opened [plainEntry 0 .call])) (fun t => t.hp.engine == .stopping && t.ls.state == .draining) = true := by
  decide +kernel
theorem test_reset :
    next? (exec .reset { opened [] with hp := { (opened []).hp with configAddress := 8 } })
      (fun t => t.hp.engine == .off && t.hp.configAddress == 8) = true := by decide +kernel
theorem test_badCommand :
    next? (exec (.badCommand 4) State.reset) (fun t => t.hp.registerError == .badCommand && t.cu.pendingCauses.regError) =
      true := by decide +kernel
theorem test_configAddress_aligned :
    next? (exec (.configAddressWrite 0xFFFFFFF8) State.reset) (fun t => t.hp.configAddress == 0xFFFFFFF8) = true := by
  decide +kernel
theorem test_configAddress_unaligned :
    next? (exec (.configAddressWrite 4) State.reset) (fun t => t.hp.registerError == .configAlign) = true := by decide +kernel
theorem test_requestTail_reads :
    next? (exec (.requestTailWrite 15) (opened [])) (fun t => t.ri.tail == 15 && t.hp.bus.isSome) = true := by decide +kernel
theorem test_requestTail_range :
    next? (exec (.requestTailWrite 16) (opened [])) (fun t => t.hp.registerError == .requestTailRange) = true := by
  decide +kernel
theorem test_bufferTail_reads :
    next? (exec (.bufferTailWrite 7) (opened [])) (fun t => t.hp.bufferTail == 7 && t.ru.reading) = true := by decide +kernel
theorem test_completionHead_full :
    next? (exec (.completionHeadWrite 0) { opened [] with cu := { State.reset.cu with occupancy := 16 } })
      (fun t => t.cu.occupancy == 0) = true := by decide +kernel
theorem test_completionHead_over :
    next? (exec (.completionHeadWrite 3) { opened [] with cu := { State.reset.cu with occupancy := 2 } })
      (fun t => t.cu.occupancy == 2 && t.hp.registerError == .overRelease) = true := by decide +kernel
theorem test_interruptAcknowledge :
    next? (exec (.interruptAcknowledge 2) { State.reset with cu := { State.reset.cu with pendingCauses :=
        { completion := true, engine := true, regError := false } } })
      (fun t => t.cu.pendingCauses == { completion := true, engine := false, regError := false }) = true := by decide +kernel
theorem test_interruptEnable :
    next? (exec (.interruptEnable 0x400) State.reset)
      (fun t => t.cu.enabled == { completion := false, engine := false, regError := true }) = true := by decide +kernel
theorem test_registerWrite_partial :
    next? (exec (.registerWrite .control 31) State.reset) (fun t => t.hp.registerError == .partialWrite) = true := by
  decide +kernel
theorem test_powerOnReset :
    next? (exec .powerOnReset (opened [])) (fun t => t.tx.line == .quiet && t.hp.engine == .off) = true := by decide +kernel

/-- What the pins bring: the part is held by RESET#, by VDD, or by neither. -/
def resetLow : ResetPins := { resetHigh := false, vddInRange := true }
def vddLow : ResetPins := { resetHigh := true, vddInRange := false }
def pinsFree : ResetPins := { resetHigh := true, vddInRange := true }

/-- RESET# goes low: the octet time queues POWER_ON_RESET, ahead of all else, and LOOP-OUT is quiet (R207). -/
theorem test_tick_reset_goes_low :
    let t := tick { opened [] with pinsIn := [resetLow], sc := { State.reset.sc with callTimer := some 1 } }
    t.pending = [.powerOnReset, .callTimerExpiry] ∧ t.tx.line = .quiet := by decide +kernel

/-- RESET# held low past 1 ms does not end power-on reset; the 1 ms begins when it goes high, or VDD comes back (R207). -/
theorem test_tick_reset_held :
    let low := { State.reset with hp := { State.reset.hp with pins := resetLow } }
    (tick (atCycle 99999 low)).pending = [] ∧ (tick (atCycle 99999 low)).hp.powerOnReset = true ∧
    (tick { atCycle 99999 low with pinsIn := [pinsFree] }).hp.resetHold = some (99999 + 256 + 16000) ∧
    (tick { atCycle 99999 low with pinsIn := [vddLow] }).hp.resetHold = none := by decide +kernel

/-- Power-on reset, whose 1 ms ends in REFCLK cycle 16000. -/
def inPowerOnReset : State := { State.reset with hp := { State.reset.hp with resetHold := some 16000 } }

theorem test_powerOnResetEnd :
    next? (exec .powerOnResetEnd (atCycle 16000 inPowerOnReset))
      (fun t => !t.hp.powerOnReset && t.tx.line == .symbol (.control .fill)) = true := by decide +kernel

/-- The octet time that reaches the last cycle of the 1 ms queues its end (R207). -/
theorem test_tick_ends_power_on_reset :
    (tick (atCycle 15744 inPowerOnReset)).pending = [.powerOnResetEnd] ∧ (tick (atCycle 15743 inPowerOnReset)).pending = [] := by
  decide +kernel

/-- The window of spec 09, 9.1: offset 10h is REQUEST HEAD, which is read-only, and 00h CONTROL. -/
theorem test_window_offsets :
    windowWrite 0x10 32 7 = [.registerWrite .requestHead 32] ∧ windowWrite 0x00 32 3 = [.reset] ∧
    windowWrite 0x0E 16 7 = [.registerWrite .requestTail 16] ∧ windowWrite 0x02 32 3 = [] ∧
    readWindow 0x09 2 { State.reset with hp := { State.reset.hp with configAddress := 0x12345678 } } = [0x56, 0x34] := by
  decide +kernel

/-- The 64 octets of `cfg` (spec 10, section 10.3). -/
def block : List Octet :=
  [0x00, 0x10, 0, 0, 0x00, 0x20, 0, 0, 0x00, 0x30, 0, 0, 16, 0, 16, 0, 8, 0, 3, 4, 3, 4, 10, 3, 50, 0, 4, 0, 0xE8, 0x03, 64, 0,
    20, 0, 0x00, 0x04] ++ List.replicate 28 0

theorem test_configurationRead_runs :
    next? (exec (.configurationReadComplete block) (onB .configuration 64 (at' .starting .quiet [])))
      (fun t => t.hp.engine == .running && t.hp.config == some cfg && t.ls.state == .probing && t.ls.probeNumber == 1) =
      true := by decide +kernel
theorem test_configurationRead_range :
    next? (exec (.configurationReadComplete (block.set 0x13 5)) (onB .configuration 64 (at' .starting .quiet [])))
      (fun t => t.hp.engine == .off && t.hp.faultCode == .configRange && t.hp.badField == 8) = true := by decide +kernel
theorem test_configurationReadFault :
    next? (exec .configurationReadFault (onB .configuration 64 (at' .starting .quiet [])))
      (fun t => t.hp.engine == .off && t.hp.faultCode == .configRead) = true := by decide +kernel

/-- The 32 octets of an ADMIT of station 5 with tag 1 (spec 10, section 10.4). -/
def admitOctets : List Octet := [0x03, 5, 0, 0, 1] ++ List.replicate 27 0

theorem test_requestRecordRead :
    next? (exec (.requestRecordReadComplete admitOctets) (onB .requestRecord 32 (opened [])))
      (fun t => t.ri.held.map (fun h => h.judgment) == some (.valid .admission)) = true := by decide +kernel
theorem test_requestRecordReadFault :
    next? (exec .requestRecordReadFault (onB .requestRecord 32 (opened [])))
      (fun t => t.hp.engine == .faulted && t.hp.faultCode == .requestRead && t.ls.state == .quiet) = true := by decide +kernel

/-- RUNNING with a held record. -/
def held (r : RequestRecord) : State :=
  { opened [] with ri := { head := 15, tail := 0, held := some { record := r, judgment := judgeRecord r }, reading := false } }

theorem test_placement :
    next? (exec (.placement 63) (held (record 0x03 5)))
      (fun t => t.rp.stationLists[4] == [63] && t.ri.head == 0 && t.ri.held.isNone) = true := by decide +kernel
theorem test_refusal :
    next? (exec .refusal (held (record 0x00 5)))
      (fun t => t.cu.queue.map (fun r => r.status) == [.badRequest] && t.ri.head == 0) = true := by decide +kernel
theorem test_descriptorRead :
    next? (exec (.descriptorReadComplete ([0, 0x90, 0, 0, 0x01, 0x10] ++ List.replicate 10 0)) (onB .descriptor 16 (opened [])))
      (fun t => t.ru.cache == [{ index := 0, address := 0x9000, capacity := 4096 }] && t.ru.head == 1) = true := by
  decide +kernel
theorem test_descriptorReadFault :
    next? (exec .descriptorReadFault (onB .descriptor 16 (opened [])))
      (fun t => t.hp.faultCode == .bufferRead) = true := by decide +kernel

/-- An EXCHANGE for station 1 whose payload read is on the bus. -/
def reading : State :=
  onB (.payload 0) 4 (headed (.station 0) { req .exchange 1 with readStarted := true } (station' 0 .present (opened [])))

theorem test_payloadRead :
    next? (exec (.payloadReadComplete [1, 2, 3, 4]) reading)
      (fun t => (t.rp.entries[0].map (fun e => (e.phase, e.payload))) == some (.ready, [1, 2, 3, 4])) = true := by decide +kernel
theorem test_payloadReadFault :
    next? (exec .payloadReadFault reading)
      (fun t => (t.rp.entries[0].map (fun e => e.readFaulted)) == some true && t.hp.engine == .running) = true := by
  decide +kernel

/-- An EXCHANGE for station 1 whose response of 9 octets is being written. -/
def writing : State :=
  onB (.response 0) 8 (headed (.station 0) { req .exchange 1 with phase := .inTransit, response := some 9 }
    (station' 0 .present (opened [])))

theorem test_responseWrite_truncated :
    next? (exec .responseWriteComplete writing)
      (fun t => t.cu.queue.map (fun r => (r.status, r.length)) == [(.truncated, 9)]) = true := by decide +kernel
theorem test_responseWriteFault :
    next? (exec .responseWriteFault writing)
      (fun t => t.cu.queue.map (fun r => (r.status, r.length)) == [(.hostFault, 9)]) = true := by decide +kernel

/-- A report of station 5 in buffer 20. -/
def pendingReport : PendingReport :=
  { source := 4, descriptor := { index := 20, address := 0x9000, capacity := 64 }, payload := List.replicate 12 0 }

/-- Its write is on the bus. -/
def reporting : State :=
  onB .report 12 { opened [] with ru := { State.reset.ru with reports := [pendingReport], writing := true } }

theorem test_reportWrite :
    next? (exec .reportWriteComplete reporting)
      (fun t => t.cu.queue.map (fun r => (r.status, r.address, r.tag, r.length)) == [(.ok, 5, 20, 12)]) = true := by
  decide +kernel
theorem test_reportWriteFault :
    next? (exec .reportWriteFault reporting) (fun t => t.cu.queue.map (fun r => r.status) == [.hostFault]) = true := by
  decide +kernel

/-- A QUERY with a capacity of 296 at the head of the control list. -/
def query : PoolEntry := { req .query 0 with responseCapacity := 296, phase := .ready }

theorem test_query :
    next? (exec .query (headed .control query (opened [])))
      (fun t => t.hp.bus.map (fun b => b.access.length) == some 296 && t.cu.reserved == 1) = true := by decide +kernel
theorem test_query_short :
    next? (exec .query (headed .control { query with responseCapacity := 295 } (opened [])))
      (fun t => t.cu.queue.map (fun r => r.status) == [.shortBuffer]) = true := by decide +kernel

/-- Its snapshot write is on the bus. -/
def snapshotting : State := onB (.snapshot 0) 296 (headed .control { query with takenUp := true } (opened []))

theorem test_snapshotWrite :
    next? (exec .snapshotWriteComplete snapshotting)
      (fun t => t.cu.queue.map (fun r => (r.status, r.length)) == [(.ok, 296)]) = true := by decide +kernel
theorem test_snapshotWriteFault :
    next? (exec .snapshotWriteFault snapshotting) (fun t => t.cu.queue.map (fun r => r.status) == [.hostFault]) = true := by
  decide +kernel

/-- One record waits, for ring entry 15. -/
def waitingRecord : State :=
  { opened [] with cu := { State.reset.cu with queue := [refusalRecord (record 0 5) .badRequest], tail := 15 } }

/-- Its record write is in a part. -/
def posting (part : RecordPart) (k : AccessKind) : State :=
  onB k 15 { waitingRecord with cu := { waitingRecord.cu with write := some part } }

theorem test_post :
    next? (exec .post waitingRecord) (fun t => t.hp.bus.map (fun b => b.access.address) == some 0x20F0) = true := by
  decide +kernel
theorem test_firstPart :
    next? (exec .recordWriteFirstPartComplete (posting .body .recordBody))
      (fun t => t.hp.bus.map (fun b => (b.access.address, b.access.data)) == some (0x20FF, [0x81])) = true := by decide +kernel
theorem test_secondPart :
    next? (exec .recordWriteSecondPartComplete (posting .phase .recordPhase))
      (fun t => t.cu.queue == [] && t.cu.tail == 0 && !t.cu.phase && t.cu.pendingCauses.completion) = true := by decide +kernel
theorem test_recordWriteFault :
    next? (exec .recordWriteFault (posting .body .recordBody))
      (fun t => t.cu.queue.length == 1 && t.hp.faultCode == .completionWrite) = true := by decide +kernel
theorem test_accessTimeout :
    next? (exec .accessTimeout (atCycle 32000 (onB .configuration 64 (at' .starting .quiet []))))
      (fun t => t.hp.bus.isNone && t.hp.faultCode == .configRead) = true := by decide +kernel

/-- The coding violation that a dead line brings ends a frame as damaged (spec 01, section 1.1; R23). -/
theorem test_violation_ends_a_frame :
    receive 9 (.frame 4 [5, 8] false []) .violation = (.seek, [{ item := .damagedFrame, span := ⟨4, 9⟩ }]) := by decide +kernel

/-- A CALL waits at the transmitter, and then is sent. -/
def waitingCall : State :=
  { opened [plainEntry 0 .call] with tx := { State.reset.tx with waiting := [{ id := 0, run := callSymbols }] } }

theorem test_elementBegin :
    (tick waitingCall).tx.line = .symbol (.control .call) ∧ (tick waitingCall).pending = [.elementBegin] ∧
    next? (exec .elementBegin (tick waitingCall)) (fun t => t.tx.waiting == [] && t.tx.sending.isSome) = true := by
  decide +kernel
theorem test_sendEnd :
    next? (exec (.sendEnd 100) { atOctet 100 waitingCall with tx := { State.reset.tx with sending := some { id := 0, left := [] } } })
      (fun t => t.ls.transit.map (fun e => e.deadline) == [some (100 + 0 + 64 + 40)]) = true := by decide +kernel

/-- An element of station 1 for a request in pool entry 0, as the oldest entry of an OPEN loop. -/
def transitOf (kind : ElementKind) (frame : HeadFrame) : TransitEntry :=
  { plainEntry 0 kind with frame := some frame, target := some 1, length := 4, pool := some 0, slots := 1 }

/-- The request is in transit, its station PRESENT. -/
def inTransit (e : TransitEntry) (q : PoolEntry) : State :=
  headed (.station 0) { q with phase := .inTransit } (station' 0 .present { opened [e] with cu := { State.reset.cu with reserved := 1 } })

theorem test_headFrame_post_taken :
    next? (exec (.headFrameReturn .post 1 false [1, 2, 3, 4] .taken 0 ⟨0, 0⟩) (inTransit (transitOf .post .post) (req .post 1)))
      (fun t => t.cu.queue.map (fun r => r.status) == [.ok] && t.st.stations[0].commandToggle) = true := by decide +kernel
theorem test_headFrame_mismatch :
    next? (exec (.headFrameReturn .post 1 true [1, 2, 3, 4] .taken 0 ⟨0, 0⟩) (inTransit (transitOf .post .post) (req .post 1)))
      (fun t => t.ls.state == .broken && t.cu.queue.map (fun r => r.last) == [some 4]) = true := by decide +kernel

/-- An EXCHANGE awaits its turn after TAKEN. -/
def awaiting : State :=
  inTransit { transitOf .exch .data with progress := .awaitingTurn }
    { req .exchange 1 with lastOutcome := some .taken, toggleUsed := some true }

theorem test_response_written :
    next? (exec (.responseReturn 1 true [1, 2, 3] ⟨0, 0⟩) awaiting)
      (fun t => t.hp.bus.map (fun b => (b.access.address, b.access.data)) == some (0x5000, [1, 2, 3])) = true := by
  decide +kernel
theorem test_turn_notReady :
    next? (exec (.turnReturn ⟨0, 0⟩) awaiting)
      (fun t => (t.rp.entries[0].map (fun e => (e.phase, e.waits, e.nextFrame))) == some (.paused, 1, some .fetch)) = true := by
  decide +kernel
theorem test_damagedFrame_counts :
    next? (exec (.damagedFrame ⟨0, 0⟩) awaiting)
      (fun t => (t.rp.entries[0].map (fun e => (e.attempts, e.lastOutcome))) == some (1, some .responseDamaged)) = true := by
  decide +kernel

/-- A sweep of budget 3 that carries (17, 1), stations 5 and 17 PRESENT with report toggles 0 and 1 (spec 11, 11.7). -/
def sweeping : State :=
  let s := station' 4 .present (station' 16 .present
    (opened [{ plainEntry 0 .sweep with slots := 3, length := 3, buffers := 3, acks := [{ address := 16, toggle := true }] }]))
  let d := fun i : Nat => ({ index := i, address := 0x9000, capacity := 64 } : Descriptor)
  let t := putAck 16 (some { toggle := true, carried := true })
    (putStation 4 { station s 4 with reportToggle := some false } (putStation 16 { station s 16 with reportToggle := some true } s))
  { t with
    ru := { t.ru with cache := [d 20, d 21, d 22], sweep := some { budget := 3, reserved := 3, items := 0, accepted := 0 } }
    cu := { t.cu with reserved := 3 } }

theorem test_report_accepted :
    next? (exec (.reportReturn 5 true (List.replicate 12 0) ⟨0, 0⟩) sweeping)
      (fun t => t.ru.cache.map (fun d => d.index) == [21, 22] && t.st.stations[4].reportToggle == some true) = true := by
  decide +kernel
theorem test_report_duplicate :
    next? (exec (.reportReturn 17 true (List.replicate 30 0) ⟨0, 0⟩) sweeping)
      (fun t => t.ru.acks[16] == some { toggle := true, carried := false } && t.ru.reports == []) = true := by decide +kernel
theorem test_sweepMarker_altered :
    next? (exec (.sweepMarkerReturn 1 [{ address := 16, toggle := false }] ⟨0, 0⟩) sweeping)
      (fun t => t.ru.acks[16] == some { toggle := true, carried := false } && t.cu.reserved == 0) = true := by decide +kernel
theorem test_sweepMarker_intact :
    next? (exec (.sweepMarkerReturn 3 [{ address := 16, toggle := true }] ⟨0, 0⟩) sweeping)
      (fun t => t.ru.acks[16] == none && t.ru.sweep.isNone) = true := by decide +kernel

/-- The first roll call of spec 11, 11.4: 9, 5 and 17 join, 9 and 5 EXPECTED. -/
theorem test_callMarker_opens :
    next? (exec (.callMarkerReturn [{ address := 9, join := true }, { address := 5, join := true }, { address := 17, join := true }]
          ⟨0, 0⟩)
        (station' 8 .expected (station' 4 .expected { at' .running .calling [plainEntry 0 .call] with
          ls := { State.reset.ls with state := .calling, transit := [plainEntry 0 .call], rawDelay := 40 } })))
      (fun t => t.ls.state == .opened && t.ls.rawDelay == 46 && t.st.loopMap == [8, 4, 16] &&
        t.cu.queue.map (fun r => r.count) == [4, 1] && t.st.stations[16].state == .vacant) = true := by decide +kernel

/-- PROBING, the PROBE's send end in octet time 100. -/
def probing : State :=
  { at' .running .probing [{ plainEntry 0 .probe with sendEnd := some 100 }] with
    ls := { State.reset.ls with state := .probing, transit := [{ plainEntry 0 .probe with sendEnd := some 100 }],
                                probeNumber := 1, probeTimer := some 1124 } }

theorem test_probeReturn :
    next? (exec (.probeReturn 1 140 142) (atOctet 142 probing)) (fun t => t.ls.state == .calling && t.ls.rawDelay == 40) = true := by
  decide +kernel
theorem test_probeReturn_late :
    next? (exec (.probeReturn 1 1123 1125) (atOctet 1125 probing)) (fun t => t.ls.state == .broken) = true := by decide +kernel
theorem test_damagedMarker_call :
    next? (exec (.damagedMarker .turn ⟨0, 0⟩) (opened [plainEntry 0 .call])) (fun t => t.sc.callDue && t.ls.state == .opened) = true := by
  decide +kernel
theorem test_returnLimitExpiry :
    next? (exec .returnLimitExpiry (atOctet 501 (inTransit { transitOf .exch .data with deadline := some 500 } (req .exchange 1))))
      (fun t => t.ls.state == .broken && (t.rp.entries[0].map (fun e => (e.phase, e.lastOutcome))) ==
        some (.paused, some .lostToBreak)) = true := by decide +kernel
theorem test_probeTimerExpiry :
    next? (exec .probeTimerExpiry (atOctet 1125 probing)) (fun t => t.ls.state == .broken && t.ls.probeTimer.isNone) = true := by decide +kernel
theorem test_settleTimerExpiry :
    next? (exec .settleTimerExpiry { atCycle 320000 (at' .running .broken []) with
        ls := { State.reset.ls with state := .broken, settleTimer := some 320000 } })
      (fun t => t.ls.state == .probing && t.ls.settleTimer.isNone) = true := by decide +kernel
theorem test_fetchDelayExpiry :
    next? (exec (.fetchDelayExpiry 0)
        (atCycle 1600 (headed (.station 0) { req .exchange 1 with phase := .paused, fetchTimer := .running 1600 } (opened []))))
      (fun t => (t.rp.entries[0].map (fun e => e.phase)) == some .ready) = true := by decide +kernel
theorem test_headDeadlineExpiry :
    next? (exec (.headDeadlineExpiry 0)
        (atCycle 16000 (putHeadTimer 0 (.running 16000) (inTransit (transitOf .exch .data) (req .exchange 1)))))
      (fun t => (t.rp.entries[0].map (fun e => e.expiryMark)) == some true && t.sc.headTimers[0] == .stopped) = true := by
  decide +kernel
theorem test_sweepTimerExpiry :
    next? (exec .sweepTimerExpiry { atCycle 800000 (opened []) with sc := { State.reset.sc with sweepTimer := some 800000 } })
      (fun t => t.sc.sweepDue && t.sc.sweepTimer.isNone) = true := by decide +kernel
theorem test_callTimerExpiry :
    next? (exec .callTimerExpiry { atCycle 16000000 (opened []) with sc := { State.reset.sc with callTimer := some 16000000 } })
      (fun t => t.sc.callDue && t.sc.callTimer.isNone) = true := by decide +kernel
theorem test_dueCall :
    next? (exec .dueCall { opened [] with sc := { State.reset.sc with callDue := true } })
      (fun t => t.ls.transit.length == 1 && t.sc.callTimer == some 16000000) = true := by decide +kernel

/-- A sweep is due, and the cache holds three descriptors. -/
def sweepDue : State :=
  { opened [] with
    sc := { State.reset.sc with sweepDue := true }
    ru := { State.reset.ru with cache := List.replicate 3 { index := 0, address := 0, capacity := 64 } } }

theorem test_dueSweep_budget :
    next? (exec .dueSweep sweepDue) (fun t => t.ls.transit.map (fun e => e.length) == [3] && t.cu.reserved == 3) = true := by
  decide +kernel
/-- The head of station 1 waits to claim a slot for its CANCELLED, and `n` slots can be reserved. -/
def sweepBesideClaim (n : Nat) : State :=
  headed (.station 0) { req .post 1 with phase := .ready, cancelMark := true }
    { sweepDue with
      cu := { State.reset.cu with reserved := 13 - n }
      ru := { State.reset.ru with cache := List.replicate 8 { index := 0, address := 0, capacity := 64 } } }

/-- Four slots can be reserved and one claim waits: the budget is 4 (R104). With one slot for both, the claim comes first (R133). -/
theorem test_dueSweep_beside_a_claim :
    next? (exec .dueSweep (sweepBesideClaim 4)) (fun t => t.ls.transit.map (fun e => e.length) == [4]) = true ∧
    next? (exec .dueSweep (sweepBesideClaim 1)) (fun t => t == sweepBesideClaim 1) = true := by decide +kernel
theorem test_dueSweep_skipped :
    next? (exec .dueSweep { sweepDue with ru := State.reset.ru })
      (fun t => t.ls.transit == [] && !t.sc.sweepDue && t.cu.queue.map (fun r => r.kind) == [.notice .buffersLow]) = true := by
  decide +kernel

/-- A GROUP-POST of group 1 in READY. -/
def groupPost : PoolEntry := { req .groupPost 49 with phase := .ready, payload := [1, 2, 3, 4] }

theorem test_groupPost :
    next? (exec .groupPost (headed .control groupPost
        (putStation 4 { Station.afterReset with state := .present, groups := 2 } (station' 8 .present (opened [])))))
      (fun t => (t.rp.entries[0].map (fun e => e.expectedCount)) == some (some 1)) = true := by decide +kernel
theorem test_rest :
    next? (exec .rest (headed (.station 0) { req .expel 1 with phase := .ready, takenUp := true } (opened [])))
      (fun t => t.ls.transit.map (fun e => e.element) == [.rest]) = true := by decide +kernel

/-- Stations 1 and 32 PRESENT with a READY EXCHANGE each, the cursor at 2. -/
def round : State :=
  let q : PoolEntry := { req .exchange 1 with phase := .ready }
  let s := station' 31 .present (station' 0 .present (headed (.station 0) q (opened [])))
  let t := putList (.station 31) [1] (putEntry 1 (some { q with address := 32 }) s)
  { t with sc := { t.sc with cursor := 1 } }

theorem test_stationGrant :
    next? (exec .stationGrant round) (fun t => t.ls.transit.map (fun e => e.target) == [some 32] && t.sc.cursor == 0) = true := by
  decide +kernel
theorem test_resolution :
    next? (exec (.resolutionWithoutLoopTraffic (.station 0)) (headed (.station 0) { req .exchange 1 with phase := .ready } (opened [])))
      (fun t => t.cu.queue.map (fun r => r.status) == [.notPresent]) = true := by decide +kernel

/-- A READY control request of station 1 in a station state. -/
def control (k : RequestKind) (x : StationState) : State :=
  headed (.station 0) { req k 1 with phase := .ready } (station' 0 x (opened []))

theorem test_admit :
    next? (exec (.admission 0) (control .admission .barred))
      (fun t => t.st.stations[0].state == .expected && t.cu.queue.map (fun r => r.status) == [.ok]) = true := by decide +kernel
theorem test_expel_waits :
    next? (exec (.expel 0) (control .expel .present))
      (fun t => t.st.stations[0].state == .barred && t.cu.reserved == 1 && t.cu.queue == []) = true := by decide +kernel
theorem test_setStation :
    next? (exec (.setStation 0) (headed (.station 0) { req .setStation 1 with phase := .ready, weight := 9 }
        (station' 0 .silent (opened []))))
      (fun t => t.st.stations[0].weight == 4 && t.st.stations[0].groups == 1) = true := by decide +kernel
theorem test_flush :
    next? (exec (.flush 0) (headed (.station 0) { req .flush 1 with phase := .ready, cancelledCount := 3 } (opened [])))
      (fun t => t.cu.queue.map (fun r => (r.status, r.count)) == [(.ok, 3)]) = true := by decide +kernel

/-- The manual's worked ring extent: base FFFFF000h with size 128 is accepted, with size 256 it fails on field 2 (spec 10, 10.3). -/
theorem test_ring_extent :
    badConfigurationField { cfg with requestBase := 0xFFFFF000, requestSize := 128 } = none ∧
    badConfigurationField { cfg with requestBase := 0xFFFFF000, requestSize := 256 } = some 2 := by decide +kernel

/-! ## Witnesses: for every statement with hypotheses, states and operands that meet them, clause by clause -/

/-- What holds of every allocated entry, by evaluation. -/
theorem forEntries {s : State} {P : PoolIx → PoolEntry → Prop} [∀ p q, Decidable (P p q)]
    (h : ∀ p, (entry s p).all (fun q => decide (P p q)) = true) : ∀ p q, entry s p = some q → P p q := by
  intro p q hq
  have := h p
  rw [hq] at this
  simpa using this

/-- An allocated entry of which something holds, by evaluation. -/
theorem someEntry {s : State} {p : PoolIx} {P : PoolEntry → Prop} [DecidablePred P]
    (h : (entry s p).any (fun q => decide (P q)) = true) : ∃ q, entry s p = some q ∧ P q := by
  cases hq : entry s p with
  | none => rw [hq] at h; cases h
  | some q => rw [hq] at h; exact ⟨q, rfl, by simpa using h⟩

/-- The pool and its lists agree, by evaluation over the 33 lists and the 64 entries. -/
theorem poolOk_of {s : State} (h1 : ∀ l ∈ ListId.control :: (List.finRange 32).map ListId.station, (listOf s l).Nodup ∧
      ∀ p ∈ listOf s l, (entry s p).any (fun e => decide (listFor e.kind e.address = l)) = true)
    (h2 : ∀ p, (entry s p).all (fun e => decide (p ∈ listOf s (listFor e.kind e.address))) = true) : PoolOk s := by
  have h : ∀ l : ListId, l ∈ ListId.control :: (List.finRange 32).map ListId.station := fun l => by cases l <;> simp
  exact ⟨fun l => (h1 l (h l)).1, fun l p hp => someEntry ((h1 l (h l)).2 p hp), forEntries h2⟩

theorem witness_StepRunsFrontCommand : { State.reset with pending := [Instr.start] }.pending = .start :: [] := rfl

theorem witness_IdleStepPassesOneOctetTime :
    State.reset.pending = [] ∧ (tick { State.reset with pinsIn := [resetLow] }).hp.pins.released = false ∧
    (tick { State.reset with pinsIn := [resetLow] }).hp.powerOnReset = true ∧
    (tick { inPowerOnReset with hp := { State.reset.hp with pins := vddLow }, pinsIn := [pinsFree] }).hp.pins.released = true ∧
    (tick State.reset).hp.powerOnReset = false := by decide +kernel

theorem configOk_at (e : EngineState) (l : LoopState) (es : List TransitEntry) : ConfigOk (at' e l es) := by
  intro c h
  cases h
  decide +kernel

theorem witness_StepKeepsLoopInv :
    LoopInv (at' .running .calling [plainEntry 0 .call]) ∧
    ∃ t, step (at' .running .calling [plainEntry 0 .call]) = .next t :=
  ⟨⟨rfl, configOk_at _ _ _, rfl⟩, _, rfl⟩

/-- The ring indices at the last entries of their rings, a record write in progress with one entry free. -/
def atTheEnds : State :=
  { opened [] with
    hp := { (opened []).hp with bufferTail := 7 }
    ri := { head := 15, tail := 15, held := none, reading := false }
    ru := { State.reset.ru with head := 7 }
    cu := { State.reset.cu with tail := 15, head := 15, occupancy := 15, write := some .body } }

theorem witness_StepKeepsRingInv : RingInv atTheEnds ∧ ∃ t, step atTheEnds = .next t :=
  ⟨⟨rfl, configOk_at .running .opened [], trivial, fun _ => ⟨cfg, rfl, by decide +kernel⟩⟩, _, rfl⟩

theorem witness_StepKeepsPool :
    PoolOk { State.reset with pending := [.admission 0] } ∧ ∃ t, step { State.reset with pending := [.admission 0] } = .next t :=
  ⟨poolOk_of (by decide +kernel) (by decide +kernel), _, rfl⟩

theorem witness_StepKeepsStations :
    StationsOk { State.reset with pending := [.start] } ∧ ∃ t, step { State.reset with pending := [.start] } = .next t :=
  ⟨⟨by decide +kernel, by decide +kernel, by decide +kernel, by decide +kernel, by decide +kernel, by decide +kernel⟩, _, rfl⟩

/-- An EXCHANGE awaits its turn, and the snapshot write of a QUERY is on the bus: each holds a slot. -/
def slotted : State :=
  onB (.snapshot 1) 296 (putList .control [1] (putEntry 1 (some { query with takenUp := true })
    { awaiting with cu := { awaiting.cu with reserved := 2 }, pending := [.turnReturn ⟨0, 0⟩] }))

theorem slotInv_slotted : SlotInv slotted := by
  refine ⟨poolOk_of (by decide +kernel) (by decide +kernel), by unfold SlotsOk; decide +kernel, ⟨by decide +kernel, ?_, by
    decide +kernel⟩, ⟨by decide +kernel, ?_⟩, forEntries (by decide +kernel), ?_⟩
  · intro w hw
    cases hw
  · intro e he p hp
    cases List.mem_singleton.mp he
    cases hp
    exact ⟨_, rfl, rfl, rfl, .inl ⟨rfl, rfl⟩⟩
  · intro x hx _ p hp
    cases List.mem_singleton.mp hx
    cases hp
    exact ⟨_, rfl, rfl, rfl⟩

theorem witness_StepKeepsNotices :
    (NoticesOk { waitingRecord with pending := [.post] } ∧ ∃ t, step { waitingRecord with pending := [.post] } = .next t) ∧
    SlotInv slotted ∧ NoticesOk slotted ∧ ∃ t, step slotted = .next t :=
  ⟨⟨fun k => by cases k <;> decide +kernel, _, rfl⟩, slotInv_slotted, fun k => by cases k <;> decide +kernel, _, rfl⟩

theorem witness_StepKeepsBus : BusOk (onB .report 1 (opened [])) ∧ ∃ t, step (onB .report 1 (opened [])) = .next t :=
  ⟨fun _ h => (by cases h), _, rfl⟩

theorem witness_NoAccessBegunInOffOrFaulted :
    (at' .faulted .quiet []).hp.engine = .faulted ∧ Instr.stop ≠ .start ∧
    ∃ t, exec .stop (onB .report 1 (at' .faulted .quiet [])) = .next t ∧ t.hp.bus ≠ none :=
  ⟨rfl, by decide, _, rfl, by decide⟩

theorem witness_NoHandOverOutsideRunning :
    EngineLoopOk (at' .stopped .quiet []) ∧ (at' .stopped .quiet []).hp.engine ≠ .running ∧ Instr.stop ≠ .start ∧
    ∃ t, exec .stop (at' .stopped .quiet []) = .next t :=
  ⟨rfl, by decide, by decide, _, rfl⟩

theorem witness_FramesAreReadAsSent :
    (List.replicate 240 (0 : Octet)).length ≤ 240 ∧ 32 ≤ 32 ∧ 4 < (5 : Octet).toNat ∧ 32 < (33 : Octet).toNat ∧
    ([0, 0] : List Octet).map Symbol.data ≠ ((headFrameSymbols 1 .post false []).drop 5).take 2 ∧
    ([0, 0] : List Octet).map Symbol.data ≠ ((frameSymbols [1, 0x08, 0, 0] []).drop 5).take 2 ∧ ((0x09 : Octet) = 0x08 ∨ (0x09 : Octet) = 0x09) ∧
    ([9] : List Octet).length = 1 ∧ (6 : Octet).toNat ∉ [1, 2, 3, 4, 5, 8, 9] ∧ ([9, 1] : List Octet).length = 2 ∧ 1 < (2 : Octet).toNat ∧
    ([9, 1, 0] : List Octet).length = 3 ∧ 240 < (241 : Octet).toNat ∧
    ([9, 1, 0, 0, 7, 7] : List Octet).length = 6 + (([9, 1, 0, 0, 7, 7] : List Octet).getD 3 0).toNat ∧
    ([9, 1, 0, 1] : List Octet).length ≠ 6 + (([9, 1, 0, 1] : List Octet).getD 3 0).toNat ∧
    (∀ k, k = Control.opening ∨ k = .turn ∨ k = .sweep ∨ k = .call ∨ k = .probe → LineInput.violation ≠ .symbol (.control k)) :=
  ⟨by decide +kernel, by decide, by decide, by decide, by decide +kernel, by decide +kernel, .inr rfl, by decide, by decide, by decide,
    by decide, by decide, by decide, by decide, by decide, fun _ _ h => by cases h⟩

theorem witness_MarkersAreReadAsSent :
    8 ≤ 8 ∧ (List.replicate 32 ({ address := 31, toggle := true } : AckPair)).length ≤ 32 ∧
    (List.replicate 32 (0xFF : Octet)).length ≤ 32 ∧ (markerSymbols .turn []).getLast? ≠ some (.data 0) ∧
    ([] : List Octet).length = 0 ∧ 8 < (9 : Octet).toNat ∧ ([8] : List Octet).length = 1 ∧ 32 < (33 : Octet).toNat ∧
    2 ≤ ([8, 1] : List Octet).length ∧ ([8, 1] : List Octet).length < 2 + 2 * (([8, 1] : List Octet).getD 1 0).toNat ∧
    ([8, 1] : List Octet).length % 2 = 0 ∧ (0 : Octet).toNat = 0 ∧ ([8, 1, 32] : List Octet).length % 2 = 1 ∧
    ([8, 1, 32] : List Octet).length < 2 + 2 * (([8, 1, 32] : List Octet).getD 1 0).toNat ∧ 1 < (2 : Octet).toNat := by
  decide +kernel

theorem witness_CommandsByEngineState :
    (at' .off .quiet []).hp.powerOnReset = false ∧ (at' .off .quiet []).hp.engine = .off ∧
    (at' .stopped .quiet []).hp.engine = .stopped ∧ (opened []).hp.engine = .running ∧
    (at' .faulted .quiet []).hp.engine ≠ .off ∧ (4 : HostWord) ≠ 1 ∧ (4 : HostWord) ≠ 2 ∧ (4 : HostWord) ≠ 3 := by
  decide +kernel

/-- STOPPED, with a PAUSED head of station 1 whose fetch delay has expired, and a QUEUED head of station 2 whose payload was not asked
for. -/
def stoppedWithHeads : State :=
  putList (.station 1) [1] (putEntry 1 (some { req .post 2 with phase := .queued })
    (headed (.station 0) { req .exchange 1 with phase := .paused, fetchTimer := .expired } (at' .stopped .quiet [])))

theorem witness_StartReadsOrResumes :
    State.reset.hp.powerOnReset = false ∧ State.reset.hp.engine = .off ∧
    stoppedWithHeads.hp.powerOnReset = false ∧ stoppedWithHeads.hp.engine = .stopped ∧ stoppedWithHeads.hp.config = some cfg ∧
    PoolOk stoppedWithHeads ∧ entry stoppedWithHeads 2 = none ∧
    IsHead stoppedWithHeads (.station 0) 0 { req .exchange 1 with phase := .paused, fetchTimer := .expired } ∧
    (∃ q, IsHead stoppedWithHeads (.station 1) 1 q ∧ payloadStarts .running (resumedHead stoppedWithHeads (.station 1) q)) ∧
    listOf stoppedWithHeads (.station 2) = [] :=
  ⟨rfl, rfl, rfl, rfl, rfl, poolOk_of (by decide +kernel) (by decide +kernel), rfl, ⟨rfl, rfl⟩,
    ⟨_, ⟨rfl, rfl⟩, rfl, .inr (.inl rfl), rfl, rfl, rfl⟩, rfl⟩

theorem witness_StopDrainsOrStops :
    (opened [plainEntry 0 .call]).hp.powerOnReset = false ∧ EngineLoopOk (opened [plainEntry 0 .call]) ∧
    (opened [plainEntry 0 .call]).ls.state ≠ .broken ∧ (opened [plainEntry 0 .call]).ls.transit ≠ [] ∧
    EngineLoopOk (at' .running .broken []) ∧ (at' .running .broken []).ls.state = .broken :=
  ⟨rfl, rfl, by decide, by decide, rfl, rfl⟩

theorem witness_ResetReturnsEveryBlock :
    waitingCall.hp.powerOnReset = false ∧ waitingCall.tx.sending = none ∧ waitingCall.tx.abortNext = false ∧
    (waitingCall.pinsIn.head?.getD waitingCall.hp.pins).released = true ∧
    ({ waitingCall with pinsIn := [resetLow] }.pinsIn.head?.getD waitingCall.hp.pins).released = false ∧
    { waitingCall with tx := { waitingCall.tx with sending := some { id := 0, left := [] } } }.tx.sending ≠ none := by
  decide +kernel

theorem witness_PowerOnReset :
    inPowerOnReset.hp.powerOnReset = true ∧ inPowerOnReset.hp.pins.released = true ∧ inPowerOnReset.hp.resetHold = some 16000 ∧
    (opened []).hp.pins.released = true ∧ { (opened []).hp with pins := vddLow }.pins.released = false ∧
    (([] : List ResetPins).head?.getD resetLow).released = false ∧ ([vddLow].head?.getD pinsFree).released = false ∧
    ([pinsFree].head?.getD resetLow).released = true ∧
    16000 ≤ (atCycle 16000 inPowerOnReset).clock.cycles ∧ (atCycle 15999 inPowerOnReset).clock.cycles < 16000 ∧
    State.reset.hp.powerOnReset = false := by decide +kernel

theorem witness_ConfigAddressWrites :
    (at' .starting .quiet []).hp.engine = .starting ∧ (at' .faulted .quiet []).hp.engine ≠ .starting ∧
    (0xFFFFFFF8 : HostWord).toNat % 8 = 0 ∧ (0xFFFFFFF9 : HostWord).toNat % 8 ≠ 0 := by decide +kernel

theorem witness_RingTailAndRefusedWrites :
    (opened []).hp.powerOnReset = false ∧ (opened []).hp.config = some cfg ∧ cfg.requestSize ≤ (16 : HostWord).toNat ∧
    (15 : HostWord).toNat < cfg.requestSize ∧ cfg.bufferSize ≤ (8 : HostWord).toNat ∧ (7 : HostWord).toNat < cfg.bufferSize ∧
    (opened []).ri.head ≠ (15 : HostWord).toNat ∧ (opened []).ru.head ≠ (7 : HostWord).toNat ∧ 1 ≤ 31 ∧ 31 < 32 ∧
    { (opened []).hp with badField := 18 }.badField ≤ 18 ∧ Register.interrupt = .interrupt ∧ 3 < 4 ∧ min 2 (4 - 3) = 1 ∧ 32 ≤ 32 := by
  decide +kernel

theorem witness_CompletionHeadWrites :
    (at' .faulted .quiet []).hp.engine = .faulted ∧ cfg.completionSize ≤ (16 : HostWord).toNat ∧
    (15 : HostWord).toNat < cfg.completionSize ∧ (opened []).cu.head < cfg.completionSize ∧
    ((15 : Nat) : Int) = (((15 : HostWord).toNat : Int) - (opened []).cu.head) % cfg.completionSize ∧
    ((0 : Nat) : Int) = (((0 : HostWord).toNat : Int) - (opened []).cu.head) % cfg.completionSize := by decide +kernel

theorem witness_InterruptWrites : State.reset.hp.powerOnReset = false := rfl

theorem witness_ConfigurationJudged :
    badConfigurationField { cfg with probeLimit := 255 } = some 18 ∧ badConfigurationField cfg = none ∧ block.length = 64 ∧
    (at' .starting .quiet []).hp.engine = .starting ∧ OnBus (onB .configuration 64 (at' .starting .quiet [])) .configuration :=
  ⟨by decide +kernel, by decide +kernel, rfl, rfl, onBus_onB _ _ _⟩

theorem witness_ConfigurationReadEnds :
    let s := onB .configuration 64 (at' .starting .quiet [])
    s.hp.engine = .starting ∧ OnBus s .configuration ∧ (∀ b, s.hp.bus = some b → block.length = b.access.length) ∧
    badConfigurationField (configurationOf block) = none ∧
    badConfigurationField (configurationOf (block.set 0x13 5)) = some 8 :=
  ⟨rfl, onBus_onB _ _ _, length_onB rfl, by decide +kernel, by decide +kernel⟩

theorem witness_RecordsJudgedInOrder :
    kindNamed 0x07 = none ∧ kindNamed 0x10 = some .groupPost ∧ addressOk .groupPost 55 ∧ ¬addressOk .groupPost 56 ∧
    addressOk .post 32 ∧ ¬addressOk .post 33 ∧ addressOk .groupPost 63 := by
  refine ⟨by decide, by decide, ?_, ?_, ?_, ?_, ?_⟩ <;> unfold addressOk <;> decide

theorem witness_RingReadsDelivered :
    OnBus (onB .requestRecord 32 (opened [])) .requestRecord ∧
    (∀ b, (onB .requestRecord 32 (opened [])).hp.bus = some b → admitOctets.length = b.access.length) ∧
    OnBus (onB .descriptor 16 atTheEnds) .descriptor ∧ (onB .descriptor 16 atTheEnds).hp.config = some cfg ∧
    (onB .descriptor 16 atTheEnds).ru.head < cfg.bufferSize ∧
    (∀ b, (onB .descriptor 16 atTheEnds).hp.bus = some b → (List.replicate 16 (0 : Octet)).length = b.access.length) :=
  ⟨onBus_onB _ _ _, length_onB rfl, onBus_onB _ _ _, rfl, by decide, length_onB rfl⟩

theorem witness_PlacementFillsAnEntry :
    let s := held (record 0x01 32)
    let full := { held (record 0x01 32) with rp := { State.reset.rp with entries := Vector.replicate 64 (some (req .post 1)) } }
    s.hp.engine = .running ∧ s.hp.config = some cfg ∧ s.ri.head < cfg.requestSize ∧
    s.ri.held = some { record := record 0x01 32, judgment := .valid .exchange } ∧ entry s 0 = none ∧
    listOf s (.station 31) = [] ∧ listOf (headed (.station 31) (req .post 32) s) (.station 31) ≠ [] ∧
    entry (headed (.station 31) (req .post 32) s) 1 = none ∧ (s.ri.head + 1) % cfg.requestSize = s.ri.tail ∧
    (s.ri.head + 1) % cfg.requestSize ≠ { s.ri with tail := 1 }.tail ∧ (∀ p, entry full p ≠ none) ∧
    (held (record 0x06 1)).ri.held = some { record := record 0x06 1, judgment := .valid .flush } ∧
    (record 0x06 1).address.toNat = (0 : Addr).val + 1 ∧ entry (held (record 0x06 1)) 63 = none :=
  ⟨rfl, rfl, by decide, by decide +kernel, by decide +kernel, rfl, by decide +kernel, by decide +kernel, by decide, by decide,
    by decide +kernel, by decide +kernel, by decide, by decide +kernel⟩

theorem witness_RefusalAnswersTheRecord :
    let s := held (record 0x00 1)
    s.hp.engine = .running ∧ s.hp.config = some cfg ∧ s.ri.head < cfg.requestSize ∧
    s.ri.held = some { record := record 0x00 1, judgment := .refused .badRequest } ∧
    (s.cu.queue.filter (fun x => !isNotice x)).length + 12 < 13 ∧
    13 ≤ (s.cu.queue.filter (fun x => !isNotice x)).length + { s.cu with reserved := 13 }.reserved :=
  ⟨rfl, rfl, by decide, by decide +kernel, by decide +kernel, by decide +kernel⟩

theorem witness_RingFaultsEnterFaulted :
    OnBus (onB .requestRecord 32 (opened [])) .requestRecord ∧ OnBus (onB .descriptor 16 (opened [])) .descriptor ∧
    OnBus (posting .body .recordBody) .recordBody ∧ OnBus (posting .phase .recordPhase) .recordPhase ∧
    (posting .body .recordBody).cu.callAnswer = none ∧ (posting .body .recordBody).hp.queue = [] ∧
    { (posting .body .recordBody).cu with heldRaises := [changeRaise 2, changeRaise 1] }.heldRaises ≠ [] ∧
    (let s := headed .control { req .callNow 0 with phase := .inTransit } { posting .phase .recordPhase with
       cu := { (posting .phase .recordPhase).cu with callAnswer := some 2 } }
     OnBus s .recordPhase ∧ s.cu.callAnswer = some 2 ∧ s.hp.queue = [] ∧
     IsHead s .control 0 { req .callNow 0 with phase := .inTransit }) :=
  ⟨onBus_onB _ _ _, onBus_onB _ _ _, onBus_onB _ _ _, onBus_onB _ _ _, rfl, rfl, by decide, ⟨_, rfl, rfl, rfl⟩, rfl, rfl, rfl, rfl⟩

/-- A record read is on the bus, and one more access waits. -/
def readWith (x : Access) (s : State) : State := { onB .requestRecord 32 s with hp := { (onB .requestRecord 32 s).hp with queue := [x] } }

/-- A SWEEP-NOW whose sweep brought the report that is being written. -/
def deciding : State :=
  headed .control { req .sweepNow 0 with phase := .inTransit }
    { reporting with ru := { reporting.ru with decision := some { status := .ok, count := 1, after := 1 } } }

theorem witness_FaultedTellsOwnersOfDroppedAccesses :
    OnBus (readWith (readAccess (.payload 0) 0 4) (opened [])) .requestRecord ∧
    (readWith (readAccess (.payload 0) 0 4) (opened [])).hp.queue = [readAccess (.payload 0) 0 4] ∧
    (∃ e n, entry (readWith (writeAccess (.response 0) 0 [1]) writing) 0 = some e ∧ e.response = some n ∧
      requestStation e = some 0) ∧
    (∃ e, entry (readWith (writeAccess (.snapshot 0) 0 [1]) snapshotting) 0 = some e ∧ e.kind = .query) ∧
    (readWith (writeAccess .recordBody 0 [1]) waitingRecord).cu.queue = [refusalRecord (record 0 5) .badRequest] ∧
    waitingRecord.cu.callAnswer = none ∧
    (readWith (readAccess .descriptor 0 16) (opened [])).hp.queue = [readAccess .descriptor 0 16] ∧
    (readWith (reportWrite pendingReport) reporting).ru.decision = none ∧
    (readWith (reportWrite pendingReport) deciding).ru.decision = some { status := .ok, count := 1, after := 1 } ∧
    1 ≤ (readWith (reportWrite pendingReport) deciding).ru.reports.length ∧
    IsHead (readWith (reportWrite pendingReport) deciding) .control 0 { req .sweepNow 0 with phase := .inTransit } :=
  ⟨⟨_, rfl, rfl, rfl⟩, rfl, ⟨_, 9, rfl, rfl, by decide +kernel⟩, ⟨_, rfl, rfl⟩, rfl, rfl, rfl, rfl, rfl, by decide +kernel,
    ⟨rfl, rfl⟩⟩

/-- An access of kind `k` is on the bus and others wait in the list; entry 1 holds an EXCHANGE with a response. -/
def several (k : AccessKind) (xs : List Access) (s : State) : State :=
  let s1 := putList (.station 1) [1] (putEntry 1 (some { req .exchange 2 with phase := .inTransit, response := some 9 }) s)
  { onB k 15 s1 with hp := { (onB k 15 s1).hp with queue := xs } }

/-- A report with its SWEEP-NOW, a response, a record read and a record write are dropped together. -/
def mixedDrop : State :=
  several .descriptor [reportWrite pendingReport, writeAccess (.response 1) 0 [1], readAccess .requestRecord 0 32,
    writeAccess .recordBody 0 [1]] deciding

theorem test_mixedDrop :
    next? (exec .descriptorReadFault mixedDrop)
      (fun t => t.cu.queue.map (fun r => (r.kind, r.length)) == [(.report, 12), (.done, 0), (.done, 9)]) = true := by decide +kernel

theorem witness_FaultedTellsOwnersOfSeveralAccesses :
    let call := headed .control { req .callNow 0 with phase := .inTransit } { posting .phase .recordPhase with
      cu := { (posting .phase .recordPhase).cu with callAnswer := some 2 } }
    let s := several .recordPhase [writeAccess (.response 1) 0 [1]] call
    let q := several .requestRecord [writeAccess (.snapshot 0) 0 [1], writeAccess (.response 1) 0 [1]] snapshotting
    OnBus mixedDrop .descriptor ∧ ((accesses mixedDrop).map (fun x => x.kind)).Nodup ∧
    ((accesses mixedDrop).filter (fun x => isRecordWrite x.kind)).length ≤ 1 ∧
    (∀ x ∈ accesses mixedDrop, x.discarded = false → OwnerStands mixedDrop x) ∧
    OnBus s .recordPhase ∧ ((accesses s).map (fun x => x.kind)).Nodup ∧ s.cu.callAnswer ≠ none ∧
    ((accesses s).filter (fun x => isRecordWrite x.kind)).length ≤ 1 ∧ (∀ x ∈ accesses s, x.discarded = false → OwnerStands s x) ∧
    OnBus q .requestRecord ∧ ((accesses q).map (fun x => x.kind)).Nodup ∧
    ((accesses q).filter (fun x => isRecordWrite x.kind)).length ≤ 1 ∧ (∀ x ∈ accesses q, x.discarded = false → OwnerStands q x) := by
  refine ⟨⟨_, rfl, rfl, rfl⟩, by decide +kernel, by decide +kernel, ?_, ⟨_, rfl, rfl, rfl⟩, by decide +kernel, by decide,
    by decide +kernel, ?_, ⟨_, rfl, rfl, rfl⟩, by decide +kernel, by decide +kernel, ?_⟩
  · intro x hx _
    obtain rfl | rfl | rfl | rfl | rfl : x = readAccess .descriptor 0 15 ∨ x = reportWrite pendingReport ∨
        x = writeAccess (.response 1) 0 [1] ∨ x = readAccess .requestRecord 0 32 ∨ x = writeAccess .recordBody 0 [1] := by
      simpa [accesses, mixedDrop, several, onB] using hx
    · trivial
    · intro d hd
      obtain rfl : d = { status := .ok, count := 1, after := 1 } := (Option.some.inj hd).symm
      exact ⟨by decide, by decide, 0, _, ⟨rfl, rfl⟩, rfl⟩
    · exact ⟨_, 9, 1, rfl, rfl, by decide +kernel⟩
    · trivial
    · exact fun h => absurd rfl h
  · intro x hx _
    obtain rfl | rfl : x = readAccess .recordPhase 0 15 ∨ x = writeAccess (.response 1) 0 [1] := by
      simpa [accesses, several, onB] using hx
    · exact fun _ => ⟨0, _, ⟨rfl, rfl⟩, rfl⟩
    · exact ⟨_, 9, 1, rfl, rfl, by decide +kernel⟩
  · intro x hx _
    obtain rfl | rfl | rfl : x = readAccess .requestRecord 0 15 ∨ x = writeAccess (.snapshot 0) 0 [1] ∨
        x = writeAccess (.response 1) 0 [1] := by
      simpa [accesses, several, onB] using hx
    · trivial
    · exact ⟨_, rfl, rfl⟩
    · exact ⟨_, 9, 1, rfl, rfl, by decide +kernel⟩

/-- A configuration read left over from a reset. -/
def leftOverRead : Access := { readAccess .configuration 0 64 with discarded := true }

theorem witness_TimeoutsAndDiscardedResults :
    let s := { opened [] with hp := { (opened []).hp with bus := some { access := leftOverRead, begunAt := 0 } } }
    (∃ b, s.hp.bus = some b ∧ endsKind (.configurationReadComplete block) b.access.kind = true ∧ b.access.discarded = true ∧
      ∀ octets, deliveredOctets (.configurationReadComplete block) = some octets → octets.length = b.access.length) ∧
    (∃ k, endsKind .reportWriteFault k = true) ∧
    (∀ b, s.hp.bus = some b → endsKind .reportWriteFault b.access.kind = false) ∧
    (∃ b, (atCycle 32000 s).hp.bus = some b ∧ b.begunAt + 32000 ≤ (atCycle 32000 s).clock.cycles) ∧
    ∃ b, (atCycle 31999 s).hp.bus = some b ∧ (atCycle 31999 s).clock.cycles < b.begunAt + 32000 :=
  ⟨⟨_, rfl, rfl, rfl, fun _ h => by cases h; rfl⟩, ⟨.report, rfl⟩, fun _ h => by cases h; rfl, ⟨_, rfl, by decide⟩, _, rfl, by
    decide⟩

theorem witness_PayloadReadEnds :
    OnBus reading (.payload 0) ∧ (∃ e, entry reading 0 = some e ∧ e.phase = .queued ∧ e.cancelMark = false ∧
      requestStation e = some 0) ∧ headTimer reading 0 ≠ .expired ∧
    (∀ b, reading.hp.bus = some b → [(1 : Octet), 2, 3, 4].length = b.access.length) ∧
    headTimer (putHeadTimer 0 .expired reading) 0 = .expired ∧ reading.hp.engine = .running :=
  ⟨onBus_onB _ _ _, ⟨_, rfl, rfl, rfl, by decide +kernel⟩, by decide +kernel, length_onB rfl, by decide +kernel, rfl⟩

theorem witness_ResponseWriteEnds :
    OnBus writing (.response 0) ∧ ∃ e, entry writing 0 = some e ∧ e.kind = .exchange ∧ requestStation e = some 0 ∧
      e.response = some 9 ∧ e.expectedCount = none ∧ e.responseCapacity < 9 ∧ 8 ≤ e.responseCapacity :=
  ⟨onBus_onB _ _ _, _, rfl, rfl, by decide +kernel, rfl, rfl, by decide, by decide⟩

/-- Three reports are pending, the second with no octet to write. -/
def threeReports (s : State) : State :=
  { s with ru := { s.ru with reports := [pendingReport, { pendingReport with payload := [] }, pendingReport] } }

theorem witness_ReportWriteEnds :
    let empty := { pendingReport with payload := [] }
    OnBus (threeReports reporting) .report ∧ (threeReports reporting).ru.reports = pendingReport :: ([empty] ++ [pendingReport]) ∧
    (threeReports reporting).hp.engine ≠ .faulted ∧ nothingToWrite empty ∧ ¬nothingToWrite pendingReport ∧
    (threeReports reporting).ru.decision = none ∧ reporting.ru.reports = pendingReport :: ([] ++ []) ∧
    (onB .report 12 { at' .faulted .quiet [] with ru := reporting.ru }).hp.engine = .faulted ∧
    OnBus deciding .report ∧ deciding.ru.reports = [pendingReport] ∧
    deciding.ru.decision = some { status := .ok, count := 1, after := 1 } ∧ 2 < ({ status := .ok, count := 2, after := 3 } : SweepDecision).after ∧
    IsHead deciding .control 0 { req .sweepNow 0 with phase := .inTransit } :=
  ⟨onBus_onB _ _ _, rfl, by decide, .inl rfl, by unfold nothingToWrite; decide, rfl, rfl, rfl, ⟨_, rfl, rfl, rfl⟩, rfl, rfl, by decide,
    ⟨rfl, rfl⟩⟩

theorem witness_QueryTakesASnapshot :
    IsHead (headed .control query (opened [])) .control 0 query ∧ 296 ≤ query.responseCapacity ∧
    1 ≤ reservable { headed .control query (opened []) with cu := { State.reset.cu with reserved := 12 } } ∧
    { query with responseCapacity := 295 }.responseCapacity < 296 ∧ query.takenUp = false ∧
    OnBus snapshotting (.snapshot 0) ∧ entry snapshotting 0 = some { query with takenUp := true } :=
  ⟨⟨rfl, rfl⟩, by decide, by decide +kernel, by decide, rfl, onBus_onB _ _ _, rfl⟩

theorem witness_RecordIsWrittenAndPosted :
    waitingRecord.hp.config = some cfg ∧ waitingRecord.hp.engine = .running ∧
    waitingRecord.cu.queue = refusalRecord (record 0 5) .badRequest :: [] ∧ waitingRecord.cu.write = none ∧
    { waitingRecord.cu with occupancy := 15 }.occupancy < cfg.completionSize ∧
    cfg.completionSize ≤ { waitingRecord.cu with occupancy := 16 }.occupancy ∧
    (posting .body .recordBody).cu.write ≠ none ∧ (opened []).cu.queue = [] ∧ State.reset.hp.engine = .off ∧
    (at' .starting .quiet []).hp.engine = .starting ∧
    OnBus (posting .body .recordBody) .recordBody ∧ (posting .body .recordBody).cu.write = some .body ∧
    OnBus (posting .phase .recordPhase) .recordPhase ∧ (posting .phase .recordPhase).cu.write = some .phase ∧
    (posting .phase .recordPhase).cu.tail < cfg.completionSize ∧ (posting .phase .recordPhase).cu.callAnswer = none ∧
    (let s := headed .control { req .callNow 0 with phase := .inTransit } { posting .phase .recordPhase with
       cu := { (posting .phase .recordPhase).cu with
         queue := [noticeOf (changeRaise 1)], heldRaises := [changeRaise 2, changeRaise 65535], callAnswer := some 2 } }
     OnBus s .recordPhase ∧ s.cu.queue = noticeOf (changeRaise 1) :: [] ∧ s.cu.callAnswer = some 2 ∧
     queueAfterRaises s.cu.heldRaises [] = [noticeOf (changeRaise 65535)] ∧
     IsHead s .control 0 { req .callNow 0 with phase := .inTransit }) :=
  ⟨rfl, rfl, rfl, rfl, by decide, by decide, by decide, rfl, rfl, rfl, onBus_onB _ _ _, rfl, onBus_onB _ _ _, rfl, by decide, rfl,
    ⟨_, rfl, rfl, rfl⟩, rfl, rfl, by decide +kernel, rfl, rfl⟩

theorem witness_RecordLayout :
    { refusalRecord (record 0 5) .ok with attempts := 255 }.attempts < 256 ∧
    { refusalRecord (record 0 5) .ok with length := 65535 }.length < 65536 := by decide

theorem witness_ElementBeginsAndEnds :
    let sentOut := { waitingCall with tx := { State.reset.tx with sending := some { id := 0, left := [] } } }
    (tick waitingCall).tx.sending = some { id := 0, left := callSymbols.tail } ∧
    (tick waitingCall).tx.waiting = { id := 0, run := callSymbols } :: [] ∧
    { (tick waitingCall).tx with waiting := [{ id := 1, run := callSymbols }] }.waiting.head?.map Element.id = some 1 ∧
    waitingCall.tx.sending = none ∧ (99 : Nat) ≠ (atOctet 100 sentOut).clock.octets ∧ callSymbols.tail ≠ [] ∧
    sentOut.tx.sending = some { id := 0, left := [] } ∧ (atOctet 100 sentOut).clock.octets = 100 ∧ sentOut.hp.config = some cfg ∧
    (∀ e ∈ sentOut.ls.transit, e.id = 0 → e.element ≠ .probe) ∧
    (∃ e ∈ probing.ls.transit, e.id = 0 ∧ e.element = .probe) ∧ (at' .running .broken []).ls.settleTimer = none ∧
    (at' .running .broken []).tx.waiting = [] :=
  ⟨by decide +kernel, by decide +kernel, rfl, rfl, by decide, by decide +kernel, rfl, rfl, rfl, by decide +kernel, by decide +kernel,
    rfl, rfl⟩

/-- The head frame of a POST or DATA for station 1, returned with an outcome in octet time 0. -/
def headBack (frame : HeadFrame) (o : TrailerOutcome) : Instr := .headFrameReturn frame 1 false [1, 2, 3, 4] o 0 ⟨0, 0⟩

theorem witness_HeadFramesOfExchangesAndPosts :
    let e := transitOf .post .post
    let q := { req .post 1 with phase := .inTransit }
    let s := inTransit e (req .post 1)
    let x := transitOf .exch .data
    let near := putStation 0 { Station.afterReset with state := .present, failures := 2 } s
    OldestAwaited s e [] ∧ ServesStation s e 0 q 0 ∧ ArrivesNow s (headBack .post .taken) ∧ awaits e (headBack .post .taken) = true ∧
    headOutcome (headBack .post .taken) = some .taken ∧ q.kind = .post ∧ q.expectedCount = none ∧
    awaits e (.damagedFrame ⟨0, 0⟩) = true ∧ headOutcome (headBack .post .noMatch) = some .noMatch ∧ ¬reachesSilence s cfg 0 ∧
    OldestAwaited near e [] ∧ reachesSilence near cfg 0 ∧ OldestIs (inTransit x (req .exchange 1)) x [] ∧ awaits x (headBack .data .busy) = true ∧ x.progress = .awaitingHead ∧
    OldestAwaited { s with ls := { s.ls with state := .draining, transit := [e, e] } } e [e] :=
  ⟨⟨rfl, .inl rfl⟩, ⟨rfl, rfl, by decide +kernel⟩, ⟨by decide +kernel, rfl⟩, by decide +kernel, rfl, rfl, rfl, rfl, rfl, by
    unfold reachesSilence; decide +kernel, ⟨rfl, .inl rfl⟩, by unfold reachesSilence; decide +kernel, ⟨rfl, .inl rfl⟩, by
    decide +kernel, rfl, ⟨rfl, .inr ⟨rfl, by simp⟩⟩⟩

/-- A GROUP-POST of expected count 2 is in transit. -/
def groupInTransit : State :=
  headed .control { groupPost with phase := .inTransit, expectedCount := some 2 }
    (opened [{ transitOf .group .group with target := some 49 }])

theorem witness_GroupAndRestReturns :
    let g := { transitOf .group .group with target := some 49 }
    let r := { transitOf .rest .rest with length := 0 }
    let cmd := Instr.headFrameReturn .group 49 false [1, 2, 3, 4] .taken 2 ⟨0, 0⟩
    let back := Instr.headFrameReturn .rest 1 false [] .taken 0 ⟨0, 0⟩
    OldestAwaited groupInTransit g [] ∧ ArrivesNow groupInTransit cmd ∧ awaits g cmd = true ∧ headOutcome cmd = some .taken ∧
    awaits g (.damagedFrame ⟨0, 0⟩) = true ∧
    entry groupInTransit 0 = some { groupPost with phase := .inTransit, expectedCount := some 2 } ∧
    OldestAwaited (inTransit r (req .expel 1)) r [] ∧ ArrivesNow (inTransit r (req .expel 1)) back ∧ awaits r back = true ∧
    entry (inTransit r (req .expel 1)) 0 = some { req .expel 1 with phase := .inTransit } ∧
    requestStation { req .expel 1 with phase := .inTransit } = some 0 ∧
    (station (inTransit r (req .expel 1)) 0).outstanding = none :=
  ⟨⟨rfl, .inl rfl⟩, ⟨by decide +kernel, rfl⟩, by decide +kernel, rfl, rfl, rfl, ⟨rfl, .inl rfl⟩, ⟨by decide +kernel, rfl⟩, by
    decide +kernel, rfl, by decide +kernel, rfl⟩

/-- `awaiting` in FAULTED, its loop DRAINING with one more EXCH in transit. -/
def awaitingInFaulted : State :=
  { awaiting with hp := { awaiting.hp with engine := .faulted }
                  ls := { awaiting.ls with state := .draining, transit := awaiting.ls.transit ++ [transitOf .exch .data] } }

theorem witness_ValidResponseCompletesTheExchange :
    let e := { transitOf .exch .data with progress := .awaitingTurn }
    let q := { req .exchange 1 with lastOutcome := some .taken, toggleUsed := some true, phase := .inTransit }
    let back := Instr.responseReturn q.address true (List.replicate 240 0) ⟨0, 0⟩
    OldestAwaited awaiting e [] ∧ ServesStation awaiting e 0 q 0 ∧ q.lastOutcome = some .taken ∧ q.toggleUsed = some true ∧
    1 ≤ q.responseCapacity ∧ awaiting.hp.engine ≠ .faulted ∧ q.expectedCount = none ∧
    1 ≤ (List.replicate 240 (0 : Octet)).length ∧ ArrivesNow awaiting back ∧ { q with responseCapacity := 0 }.responseCapacity = 0 ∧
    OldestAwaited awaitingInFaulted e [transitOf .exch .data] ∧ ServesStation awaitingInFaulted e 0 q 0 ∧
    awaitingInFaulted.hp.engine = .faulted ∧ awaitingInFaulted.ls.state = .draining ∧ ArrivesNow awaitingInFaulted back ∧
    EngineLoopOk awaitingInFaulted :=
  ⟨⟨rfl, .inl rfl⟩, ⟨rfl, rfl, by decide +kernel⟩, rfl, rfl, by decide, by decide, rfl, by decide +kernel, ⟨by decide +kernel, rfl⟩, rfl,
    ⟨rfl, .inr ⟨rfl, by simp⟩⟩, ⟨rfl, rfl, by decide +kernel⟩, rfl, rfl, ⟨by decide +kernel, rfl⟩, rfl⟩

theorem witness_FinalStatusFollowsTheLastOutcome :
    let q := { req .exchange 1 with attempts := 2, lastOutcome := some .busy, phase := .inTransit }
    let s := inTransit (transitOf .exch .data) { req .exchange 1 with attempts := 2, lastOutcome := some .busy }
    entry s 0 = some q ∧ requestStation q = some 0 ∧ isWork q.kind = true ∧ q.expiryMark = false ∧
    (station s 0).state = .present ∧ q.attempts + 1 = q.attemptLimit ∧ q.expectedCount = none :=
  ⟨rfl, by decide +kernel, rfl, rfl, by decide +kernel, rfl, rfl⟩

theorem witness_FailedAttemptsOfExchanges :
    let e := { transitOf .exch .data with progress := .awaitingTurn }
    let q := { req .exchange 1 with lastOutcome := some .taken, toggleUsed := some true, phase := .inTransit }
    let missed := inTransit e { req .exchange 1 with lastOutcome := some .noMatch, toggleUsed := some true }
    let near := putStation 0 { Station.afterReset with state := .present, failures := 2 } missed
    OldestAwaited awaiting e [] ∧ ServesStation awaiting e 0 q 0 ∧ awaiting.hp.config = some cfg ∧
    ArrivesNow awaiting (.turnReturn ⟨0, 0⟩) ∧ isTurnItem (.turnReturn ⟨0, 0⟩) = true ∧ ArrivesNow awaiting (.damagedFrame ⟨0, 0⟩) ∧
    ArrivesNow awaiting (.damagedMarker .turn ⟨0, 0⟩) ∧ ArrivesNow awaiting (.responseReturn 2 true [] ⟨0, 0⟩) ∧ (2 : Octet) ≠ q.address ∧
    cfg.waitLimit < { q with waits := 4 }.waits + 1 ∧ ¬(cfg.waitLimit < { q with waits := 3 }.waits + 1) ∧
    q.expiryMark = false ∧ (station awaiting 0).state = .present ∧ { q with attempts := 2 }.attempts + 1 = q.attemptLimit ∧
    OldestAwaited missed e [] ∧ ServesStation missed e 0 { q with lastOutcome := some .noMatch } 0 ∧ ¬reachesSilence missed cfg 0 ∧
    OldestAwaited near e [] ∧ reachesSilence near cfg 0 :=
  ⟨⟨rfl, .inl rfl⟩, ⟨rfl, rfl, by decide +kernel⟩, rfl, ⟨by decide, rfl⟩, rfl, ⟨by decide, rfl⟩, ⟨by decide, rfl⟩, ⟨by decide, rfl⟩, by decide,
    by decide, by decide, rfl, by decide +kernel, rfl, ⟨rfl, .inl rfl⟩, ⟨rfl, rfl, by decide +kernel⟩, by
    unfold reachesSilence; decide +kernel, ⟨rfl, .inl rfl⟩, by unfold reachesSilence; decide +kernel⟩

/-- The transit entry and the sweep record of `sweeping`. -/
def sweepEntry : TransitEntry :=
  { plainEntry 0 .sweep with slots := 3, length := 3, buffers := 3, acks := [{ address := 16, toggle := true }] }

/-- `sweeping` in FAULTED, its loop DRAINING. -/
def sweepingInFaulted : State :=
  { sweeping with hp := { sweeping.hp with engine := .faulted }, ls := { sweeping.ls with state := .draining } }

theorem witness_ReportsAreJudged :
    OldestIs sweeping sweepEntry [] ∧ sweeping.ru.sweep = some { budget := 3, reserved := 3, items := 0, accepted := 0 } ∧
    ArrivesNow sweeping (.damagedFrame ⟨0, 0⟩) ∧ ArrivesNow sweeping (.reportReturn 5 true (List.replicate 240 0) ⟨0, 0⟩) ∧
    (3 < 3 + 1) ∧ 32 < (33 : Octet).toNat ∧ (17 : Octet).toNat = (16 : Addr).val + 1 ∧
    (station sweeping 16).state = .present ∧ (station sweeping 16).reportToggle = some true ∧
    (station sweeping 4).reportToggle ≠ some true ∧ (station sweeping 8).state ≠ .present ∧ sweeping.hp.config = some cfg ∧
    (∃ d cache, sweeping.ru.cache = d :: cache ∧ ¬nothingToWrite { source := 4, descriptor := d, payload := [1] }) ∧
    sweeping.ru.writing = false ∧ sweeping.ru.reports = [] ∧ sweeping.ru.decision = none ∧
    { sweeping.ru with writing := true }.writing = true ∧ 2 + 1 ≤ 3 ∧
    OldestIs sweepingInFaulted sweepEntry [] ∧ sweepingInFaulted.hp.engine = .faulted ∧ sweepingInFaulted.ls.state = .draining ∧
    EngineLoopOk sweepingInFaulted :=
  ⟨⟨rfl, .inl rfl⟩, rfl, ⟨by decide, rfl⟩, ⟨by decide +kernel, rfl⟩, by decide, by decide, by decide, by decide +kernel, by decide +kernel,
    by decide +kernel, by decide +kernel, rfl, ⟨_, _, rfl, by unfold nothingToWrite; decide⟩, rfl, rfl, rfl, rfl, by decide,
    ⟨rfl, .inr rfl⟩, rfl, rfl, rfl⟩

/-- The same sweep, serving a SWEEP-NOW. -/
def demanded : State :=
  headed .control { req .sweepNow 0 with phase := .inTransit }
    { sweeping with ls := { sweeping.ls with transit := [{ sweepEntry with demand := true, slots := 4 }] }
                    cu := { sweeping.cu with reserved := 4 } }

theorem witness_SweepMarkerClosesTheSweep :
    OldestAwaited sweeping sweepEntry [] ∧ sweepEntry.demand = false ∧
    ArrivesNow sweeping (.sweepMarkerReturn 8 sweepEntry.acks ⟨0, 0⟩) ∧ ArrivesNow sweeping (.damagedMarker .call ⟨0, 0⟩) ∧
    (true = true ↔ ∃ budget span, Instr.sweepMarkerReturn 8 sweepEntry.acks ⟨0, 0⟩ = .sweepMarkerReturn budget sweepEntry.acks span) ∧
    (false = true ↔ ∃ budget span, Instr.damagedMarker .call ⟨0, 0⟩ = .sweepMarkerReturn budget sweepEntry.acks span) ∧
    OldestAwaited demanded { sweepEntry with demand := true, slots := 4 } [] ∧ demanded.ru.reports = [] ∧
    demanded.ru.sweep = some { budget := 3, reserved := 3, items := 0, accepted := 0 } ∧
    IsHead demanded .control 0 { req .sweepNow 0 with phase := .inTransit } ∧ (req .sweepNow 0).kind = .sweepNow ∧
    1 ≤ { sweepEntry with demand := true, slots := 4 }.slots ∧
    { demanded.ru with reports := [pendingReport] }.reports ≠ [] ∧
    { budget := 3, reserved := 2, items := 1, accepted := 1 : SweepRecord }.accepted ≠ 0 :=
  ⟨⟨rfl, .inl rfl⟩, rfl, ⟨by decide, rfl⟩, ⟨by decide, rfl⟩, by simp, by simp, ⟨rfl, .inl rfl⟩, rfl, rfl, ⟨rfl, rfl⟩, rfl, by decide,
    by decide, by decide⟩

/-- Entries for the addresses 1 and 32. -/
def rollEntries : List CallEntry := [{ address := 32, join := true }, { address := 1, join := false }]

/-- A CALL that serves a CALL-NOW. -/
def callDemanded : State :=
  headed .control { req .callNow 0 with phase := .inTransit } (opened [{ plainEntry 0 .call with demand := true, slots := 1 }])

/-- The record write of a STATION-CHANGE notice is in progress. -/
def callDemandedHeld : State :=
  { callDemanded with cu := { callDemanded.cu with queue := [noticeOf (changeRaise 1)], write := some .body } }

theorem witness_RollCallReconciles :
    OldestAwaited (opened [plainEntry 0 .call]) (plainEntry 0 .call) [] ∧
    ArrivesNow (opened [plainEntry 0 .call]) (.callMarkerReturn rollEntries ⟨0, 0⟩) ∧ rollAccepted rollEntries ∧
    OldestAwaited callDemanded { plainEntry 0 .call with demand := true, slots := 1 } [] ∧ callDemanded.ls.state ≠ .calling ∧
    (at' .running .calling [plainEntry 0 .call]).ls.state = .calling ∧
    (at' .running .calling [plainEntry 0 .call]).ls.transit = plainEntry 0 .call :: [] ∧
    (station (putStation 0 { Station.afterReset with outstanding := some 3 } callDemanded) 0).outstanding = some 3 ∧
    3 ∉ listOf callDemanded .control :=
  ⟨⟨rfl, .inl rfl⟩, ⟨by decide, rfl⟩, by unfold rollAccepted; decide, ⟨rfl, .inl rfl⟩, by decide, rfl, rfl, by decide +kernel, by
    decide +kernel⟩

theorem witness_RollCallCountsChanges :
    OldestAwaited (opened [plainEntry 0 .call]) (plainEntry 0 .call) [] ∧ (plainEntry 0 .call).demand = false ∧
    OldestAwaited callDemanded { plainEntry 0 .call with demand := true, slots := 1 } [] ∧
    ArrivesNow callDemanded (.callMarkerReturn rollEntries ⟨0, 0⟩) ∧ rollAccepted rollEntries ∧
    ¬raiseIsHeld .stationChange callDemanded.cu ∧ IsHead callDemanded .control 0 { req .callNow 0 with phase := .inTransit } ∧
    OldestAwaited callDemandedHeld { plainEntry 0 .call with demand := true, slots := 1 } [] ∧
    raiseIsHeld .stationChange callDemandedHeld.cu ∧ ArrivesNow callDemandedHeld (.callMarkerReturn rollEntries ⟨0, 0⟩) :=
  ⟨⟨rfl, .inl rfl⟩, rfl, ⟨rfl, .inl rfl⟩, ⟨by decide, rfl⟩, by unfold rollAccepted; decide, by decide +kernel, ⟨rfl, rfl⟩,
    ⟨rfl, .inl rfl⟩, by decide +kernel, ⟨by decide, rfl⟩⟩

theorem witness_DamagedRollCallStaysDue :
    callDemanded.ls.state = .opened ∧ callDemanded.ls.transit = { plainEntry 0 .call with demand := true, slots := 1 } :: [] ∧
    ArrivesNow callDemanded (.callMarkerReturn [{ address := 33, join := false }] ⟨0, 0⟩) ∧
    failsRollCall (.callMarkerReturn [{ address := 33, join := false }] ⟨0, 0⟩) ∧
    ArrivesNow callDemanded (.damagedMarker .turn ⟨0, 0⟩) ∧ failsRollCall (.damagedMarker .turn ⟨0, 0⟩) ∧
    IsHead callDemanded .control 0 { req .callNow 0 with phase := .inTransit } ∧ (plainEntry 0 .call).demand = false :=
  ⟨rfl, rfl, ⟨by decide, rfl⟩, .inr ⟨_, _, rfl, by unfold rollAccepted; decide⟩, ⟨by decide, rfl⟩, .inl ⟨_, _, rfl⟩, ⟨rfl, rfl⟩, rfl⟩

theorem witness_LoopComesUp :
    probing.ls.transit = [{ plainEntry 0 .probe with sendEnd := some 100 }] ∧ probing.hp.config = some cfg ∧ probing.ls.state = .probing ∧
    ({ start := 1122, stop := 1124 } : ReturnSpan).stop ≤ 100 + cfg.probeLimit ∧
    ArrivesNow (atOctet 1124 probing) (.probeReturn probing.ls.probeNumber 1122 1124) ∧
    (at' .running .calling [plainEntry 0 .call]).ls.state = .calling ∧
    ArrivesNow (at' .running .calling [plainEntry 0 .call]) (.callMarkerReturn rollEntries ⟨0, 0⟩) ∧ rollAccepted rollEntries :=
  ⟨rfl, rfl, rfl, by decide, ⟨by decide, rfl⟩, rfl, ⟨by decide, rfl⟩, by unfold rollAccepted; decide⟩

/-- The oldest entry's deadline is set. -/
def limited (e : TransitEntry) (q : PoolEntry) : State := inTransit { e with deadline := some 500 } q

/-- A PROBE with another number, or one that came back after the probe limit, does not succeed. -/
theorem not_probeSucceeds {s : State} {c : Configuration} {e : TransitEntry} (sent : Nat) {echo : Octet} {a b : Nat}
    (h : echo ≠ s.ls.probeNumber ∨ e.sendEnd = some sent ∧ sent + c.probeLimit < b) :
    ¬probeSucceeds s c e (.probeReturn echo a b) := by
  rintro ⟨_, ⟨x, y⟩, h1, h2⟩
  cases h1
  rcases h with h | ⟨h3, h4⟩
  · exact h rfl
  · exact absurd (h2 _ h3) (by omega)

theorem witness_BreaksEnterBroken :
    let s := limited (transitOf .exch .data) (req .exchange 1)
    let calling := at' .running .calling [{ plainEntry 0 .call with deadline := some 500 }]
    let out := fun kind address toggle payload => Instr.headFrameReturn kind address toggle payload .taken 0
    s.hp.config = some cfg ∧ s.ls.state = .opened ∧
    (∃ e rest d, (atOctet 501 s).ls.transit = e :: rest ∧ e.deadline = some d ∧ d < (atOctet 501 s).clock.octets) ∧
    (∃ d, (atOctet 1125 probing).ls.probeTimer = some d ∧ d < (atOctet 1125 probing).clock.octets) ∧
    ArrivesNow (atOctet 1125 probing) (.probeReturn 1 1123 1125) ∧
    (∀ e, probing.ls.transit.head? = some e → ¬probeSucceeds (atOctet 1125 probing) cfg e (.probeReturn 1 1123 1125)) ∧
    -- a head frame that differs in kind, address, toggle or length, and other items that the oldest entry does not await
    (∀ cmd ∈ [out .fetch 1 false [1, 2, 3, 4], out .data 2 false [1, 2, 3, 4],
        out .data 1 true [1, 2, 3, 4], out .data 1 false [1, 2, 3], .turnReturn ⟨0, 0⟩,
        .reportReturn 1 false [] ⟨0, 0⟩, .callMarkerReturn [] ⟨0, 0⟩],
      ArrivesNow s cmd ∧ ∀ e, s.ls.transit.head? = some e → awaits e cmd = false) ∧
    ArrivesNow calling (.damagedMarker .call ⟨0, 0⟩) ∧ failsRollCall (.damagedMarker .call ⟨0, 0⟩) ∧ calling.ls.state = .calling :=
  ⟨rfl, rfl, ⟨_, _, _, rfl, rfl, by decide⟩, ⟨_, rfl, by decide⟩, ⟨by decide, rfl⟩,
    fun _ h => by cases h; exact not_probeSucceeds 100 (.inr ⟨rfl, by decide⟩),
    by
      intro cmd h
      simp only [List.mem_cons, List.not_mem_nil, or_false] at h
      rcases h with h | h | h | h | h | h | h <;> subst h <;>
        exact ⟨⟨by decide +kernel, rfl⟩, fun _ h => by cases h; decide +kernel⟩,
    ⟨by decide, rfl⟩, .inl ⟨_, _, rfl⟩, rfl⟩

/-- An EXCH for station 1 and a sweep behind it that serves a SWEEP-NOW and accepted a report, at a break. -/
def breaking : State :=
  let e := { transitOf .exch .data with deadline := some 500 }
  let s := limited (transitOf .exch .data) (req .exchange 1)
  atOctet 501 (putList .control [1] (putEntry 1 (some { req .sweepNow 0 with phase := .inTransit })
    { s with ls := { s.ls with transit := [e, { plainEntry 1 .sweep with demand := true, slots := 3 }] }
             ru := { s.ru with reports := [pendingReport],
                               sweep := some { budget := 3, reserved := 2, items := 1, accepted := 1 } } }))

theorem witness_BreakResolvesEachElement :
    let e := { transitOf .exch .data with deadline := some 500 }
    let q := { req .exchange 1 with phase := .inTransit }
    let s := atOctet 501 (limited (transitOf .exch .data) (req .exchange 1))
    s.ls.state = .opened ∧ s.ls.transit = [e] ∧ 500 < s.clock.octets ∧ s.hp.config = some cfg ∧
    ServesStation s e 0 q 0 ∧ q.expiryMark = false ∧ (station s 0).state = .present ∧ q.attempts + 1 ≠ q.attemptLimit ∧
    { q with attempts := 2 }.attempts + 1 = q.attemptLimit ∧ { q with expiryMark := true }.expiryMark = true ∧
    (station (station' 0 .silent s) 0).state ≠ .present ∧
    entry (limited (transitOf .rest .rest) (req .expel 1)) 0 = some { req .expel 1 with phase := .inTransit } ∧
    entry groupInTransit 0 = some { groupPost with phase := .inTransit, expectedCount := some 2 } ∧
    sweepEntry.demand = false ∧ acceptedOf demanded = 0 ∧ IsHead demanded .control 0 { req .sweepNow 0 with phase := .inTransit } ∧
    IsHead callDemanded .control 0 { req .callNow 0 with phase := .inTransit } ∧
    breaking.ls.transit = [e, { plainEntry 1 .sweep with demand := true, slots := 3 }] ∧ acceptedOf breaking ≠ 0 ∧
    breaking.ru.reports ≠ [] :=
  ⟨rfl, rfl, by decide, rfl, ⟨rfl, rfl, by decide +kernel⟩, rfl, by decide +kernel, by decide, rfl, rfl, by decide +kernel, rfl, rfl,
    rfl, rfl, ⟨rfl, rfl⟩, ⟨rfl, rfl⟩, rfl, by decide +kernel, by decide +kernel⟩

theorem witness_BreakResolvesEachElement_apart : EntriesApart breaking breaking.ls.transit := by
  refine ⟨by decide +kernel, by decide +kernel, ?_, by decide +kernel⟩
  intro e he h
  simp only [breaking, atOctet, putList, putEntry, List.mem_cons, List.not_mem_nil, or_false] at he
  rcases he with he | he <;> subst he
  · exact ⟨0, _, 0, rfl, rfl, by decide +kernel⟩
  · rcases h with h | h | h <;> cases h

theorem apart_slotted : EntriesApart slotted slotted.ls.transit := by
  refine ⟨by decide +kernel, by decide +kernel, ?_, by decide +kernel⟩
  intro e he _
  cases List.mem_singleton.mp he
  exact ⟨0, _, 0, rfl, rfl, by decide +kernel⟩

theorem witness_BreakResolvesEachElement_causes :
    breaking.hp.config = some cfg ∧ BreaksLoop breaking cfg .returnLimitExpiry ∧ slotted.hp.config = some cfg ∧
    BreaksLoop slotted cfg (.callMarkerReturn [] ⟨0, 0⟩) ∧ SlotInv slotted ∧ EntriesApart slotted slotted.ls.transit :=
  ⟨rfl, .inl ⟨rfl, .inl rfl, _, _, _, rfl, rfl, by decide⟩, rfl,
    .inr (.inr ⟨⟨by decide, rfl⟩, .inr (.inl ⟨.inl rfl, fun _ h => by cases h; rfl⟩)⟩), slotInv_slotted, apart_slotted⟩

/-- A break completes the EXCHANGE of station 1, its attempts used up, and the POST behind it becomes head and asks for its payload (R43, R75). -/
theorem test_break_makes_the_next_request_head :
    let s := putList (.station 0) [0, 2] (putEntry 2 (some (req .post 1))
      (limited (transitOf .exch .data) { req .exchange 1 with attempts := 2 }))
    next? (exec .returnLimitExpiry (atOctet 501 s)) (fun t =>
      listOf t (.station 0) == [2] && t.cu.queue.map (fun r => r.status) == [.loopFault, .ok] &&
      (accesses t).map (fun x => x.kind) == [.payload 2]) = true := by decide +kernel

/-- The second entry's SWEEP-NOW waits for the report of its sweep, and the EXCHANGE is PAUSED: a break enters the notice alone. -/
theorem test_break_enters_no_record_too_early :
    next? (exec .returnLimitExpiry breaking) (fun t => t.cu.queue == [noticeOf (loopRaise .broken)] && t.ru.decision ==
      some { status := .loopFault, count := 1, after := 1 }) = true := by decide +kernel

/-- DRAINING with an entry. -/
def draining (e : TransitEntry) : State := at' .stopping .draining [e]

/-- `slotted` in STOPPING, its loop DRAINING. -/
def slottedDraining : State :=
  { slotted with hp := { slotted.hp with engine := .stopping }, ls := { slotted.ls with state := .draining } }

theorem witness_DrainEnds_givenUp :
    slottedDraining.ls.state = .draining ∧ slottedDraining.hp.config = some cfg ∧
    ArrivesNow slottedDraining (.callMarkerReturn [] ⟨0, 0⟩) ∧
    (∃ e, slottedDraining.ls.transit = [e] ∧ awaits e (.callMarkerReturn [] ⟨0, 0⟩) = false ∧
      ¬probeSucceeds slottedDraining cfg e (.callMarkerReturn [] ⟨0, 0⟩)) ∧
    SlotInv slottedDraining ∧ EntriesApart slottedDraining slottedDraining.ls.transit :=
  ⟨rfl, rfl, ⟨by decide, rfl⟩, ⟨_, rfl, rfl, fun h => by cases h.1⟩, slotInv_slotted, apart_slotted⟩

theorem witness_DrainEnds :
    let late := draining { plainEntry 0 .call with deadline := some 9 }
    let probe := { plainEntry 0 .probe with sendEnd := some 5 }
    late.ls.state = .draining ∧ late.hp.config = some cfg ∧
    (∃ d, { plainEntry 0 .call with deadline := some 9 }.deadline = some d ∧ d < (atOctet 10 late).clock.octets) ∧
    ArrivesNow (draining (plainEntry 0 .call)) (.callMarkerReturn rollEntries ⟨0, 0⟩) ∧
    awaits (plainEntry 0 .call) (.callMarkerReturn rollEntries ⟨0, 0⟩) = true ∧
    ArrivesNow (draining (plainEntry 0 .call)) (.damagedMarker .call ⟨0, 0⟩) ∧ failsRollCall (.damagedMarker .call ⟨0, 0⟩) ∧
    (draining probe).ls.transit = probe :: [] ∧
    ArrivesNow (atOctet 1029 (draining probe)) (.probeReturn 0 1027 1029) ∧
    probeSucceeds (atOctet 1029 (draining probe)) cfg probe (.probeReturn 0 1027 1029) ∧
    ArrivesNow (atOctet 1030 (draining probe)) (.probeReturn 0 1028 1030) ∧
    ¬probeSucceeds (atOctet 1030 (draining probe)) cfg probe (.probeReturn 0 1028 1030) ∧
    awaits probe (.probeReturn 0 1028 1030) = false ∧
    (∃ d, { (draining probe).ls with probeTimer := some 1029 }.probeTimer = some d ∧ d < 1030) ∧
    ArrivesNow (draining (transitOf .post .post)) (.turnReturn ⟨0, 0⟩) ∧ awaits (transitOf .post .post) (.turnReturn ⟨0, 0⟩) = false ∧
    ¬probeSucceeds (draining (transitOf .post .post)) cfg (transitOf .post .post) (.turnReturn ⟨0, 0⟩) :=
  ⟨rfl, rfl, ⟨_, rfl, by decide⟩, ⟨by decide, rfl⟩, rfl, ⟨by decide, rfl⟩, .inl ⟨_, _, rfl⟩, rfl, ⟨by decide, rfl⟩,
    ⟨rfl, ⟨1027, 1029⟩, rfl, fun _ h => by cases h; decide⟩, ⟨by decide, rfl⟩,
    not_probeSucceeds 5 (.inr ⟨rfl, by decide⟩), rfl, ⟨_, rfl, by decide⟩, ⟨by decide, rfl⟩, rfl,
    fun h => by cases h.1⟩

theorem witness_TimersExpire :
    let broken := { at' .running .broken [] with ls := { (at' .running .broken []).ls with settleTimer := some 320000 } }
    let paused := headed (.station 0) { req .exchange 1 with phase := .paused, fetchTimer := .running 1600 } (at' .stopped .quiet [])
    broken.ls.settleTimer = some 320000 ∧ broken.ls.state = .broken ∧ 320000 ≤ (atCycle 320000 broken).clock.cycles ∧
    (atCycle 319999 broken).clock.cycles < 320000 ∧
    entry paused 0 = some { req .exchange 1 with phase := .paused, fetchTimer := .running 1600 } ∧
    1600 ≤ (atCycle 1600 paused).clock.cycles ∧ paused.clock.cycles < 1600 ∧
    headTimer (putHeadTimer 31 (.running 16000) (headed (.station 31) (req .exchange 32) (opened []))) 31 = .running 16000 ∧
    IsHead (putHeadTimer 31 (.running 16000) (headed (.station 31) (req .exchange 32) (opened []))) (.station 31) 0 (req .exchange 32) ∧
    { State.reset.sc with sweepTimer := some 1 }.sweepTimer = some 1 ∧
    { State.reset.sc with callTimer := some 1 }.callTimer = some 1 ∧ 1 ≤ (atCycle 1 State.reset).clock.cycles ∧
    State.reset.clock.cycles < 1 :=
  ⟨rfl, rfl, by decide, by decide, rfl, by decide, by decide, by decide +kernel, ⟨rfl, rfl⟩, rfl, rfl, by decide, by decide⟩

theorem mayHandOver_opened (s : State) (h1 : s.hp = (opened []).hp) (h2 : s.ls = (opened []).ls) (h3 : s.tx.waiting = []) :
    MayHandOver s cfg := by
  unfold MayHandOver
  rw [h1, h2, h3]
  exact ⟨rfl, rfl, rfl, by decide, by decide +kernel, rfl⟩

theorem noHead {s : State} {l : ListId} (h : listOf s l = []) : ∀ p q, IsHead s l p q → q.phase ≠ .ready := by
  rintro p q ⟨h1, _⟩
  rw [h] at h1
  cases h1

theorem witness_CallsAndSweepsHandedOver :
    let noSlot := fun s : State => reservable s ≤ (claims s).length
    let full := fun s : State => { s with cu := { s.cu with reserved := 13 } }
    MayHandOver sweepDue cfg ∧ sweepDue.sc.callDue = false ∧ sweepDue.sc.sweepDue = true ∧
    (∀ p q, IsHead sweepDue .control p q → q.phase ≠ .ready) ∧
    3 = min cfg.sweepBudget (min sweepDue.ru.cache.length (reservable sweepDue)) ∧ 1 ≤ 3 ∧ ¬noSlot sweepDue ∧
    (∃ a : Addr, (putAck a (some { toggle := true, carried := false }) sweepDue).ru.acks[a] ≠ none) ∧
    (let s := headed .control { req .callNow 0 with phase := .ready } (opened [])
     MayHandOver s cfg ∧ IsHead s .control 0 { req .callNow 0 with phase := .ready } ∧ ¬noSlot s ∧
     MayHandOver (full s) cfg ∧ IsHead (full s) .control 0 { req .callNow 0 with phase := .ready } ∧ noSlot (full s) ∧
     (full s).sc.callDue = false ∧ { s.sc with callDue := true }.callDue = true) ∧
    (let s := headed .control { req .sweepNow 0 with phase := .ready } sweepDue
     MayHandOver s cfg ∧ IsHead s .control 0 { req .sweepNow 0 with phase := .ready } ∧ ¬noSlot s ∧
     3 = min cfg.sweepBudget (min s.ru.cache.length (reservable s - 1)) ∧
     MayHandOver (full s) cfg ∧ noSlot (full s) ∧ 0 = min cfg.sweepBudget (min s.ru.cache.length (reservable (full s))) ∧
     { (full s).sc with sweepDue := false }.sweepDue = false) ∧
    (∀ a : Addr, sweepDue.ru.acks[a] = none) ∧ noSlot (full sweepDue) ∧ { sweepDue.ru with cache := [] }.cache = [] ∧
    reservable (full sweepDue) = 0 ∧
    (MayHandOver (sweepBesideClaim 1) cfg ∧ (sweepBesideClaim 1).sc.callDue = false ∧ (sweepBesideClaim 1).sc.sweepDue = true ∧
     (∀ p q, IsHead (sweepBesideClaim 1) .control p q → q.phase ≠ .ready) ∧ noSlot (sweepBesideClaim 1) ∧
     1 ≤ cfg.sweepBudget ∧ (sweepBesideClaim 1).ru.cache ≠ [] ∧ 1 ≤ reservable (sweepBesideClaim 1)) :=
  ⟨mayHandOver_opened _ rfl rfl rfl, rfl, rfl, noHead rfl, by decide +kernel, by decide, by decide +kernel, by decide +kernel,
    ⟨mayHandOver_opened _ rfl rfl rfl, ⟨rfl, rfl⟩, by decide +kernel, mayHandOver_opened _ rfl rfl rfl, ⟨rfl, rfl⟩, by decide +kernel,
      rfl, rfl⟩,
    ⟨mayHandOver_opened _ rfl rfl rfl, ⟨rfl, rfl⟩, by decide +kernel, by decide +kernel, mayHandOver_opened _ rfl rfl rfl, by
      decide +kernel, by decide +kernel, rfl⟩, by decide +kernel, by decide +kernel, rfl, by decide +kernel,
    mayHandOver_opened _ rfl rfl rfl, rfl, rfl, noHead rfl, by decide +kernel, by decide, by decide +kernel, by decide +kernel⟩

/-- No station list has a head but that of station `a`. -/
theorem onlyHead {s : State} {a : Addr} (h : ∀ b : Addr, b ≠ a → listOf s (.station b) = []) :
    ∀ b p q, b ≠ a → IsHead s (.station b) p q → q.takenUp = false := by
  rintro b p q hb ⟨h1, _⟩
  rw [h b hb] at h1
  cases h1

theorem witness_GroupPostAndRestHandedOver :
    (let s := headed .control groupPost (opened [])
     MayHandOver s cfg ∧ s.sc.callDue = false ∧ s.sc.sweepDue = false ∧ IsHead s .control 0 groupPost ∧
     (claims s).length + 1 ≤ reservable s) ∧
    (let s := headed (.station 31) { req .expel 32 with phase := .ready, takenUp := true } (opened [])
     MayHandOver s cfg ∧ (∀ p q, IsHead s .control p q → q.phase ≠ .ready) ∧
     IsHead s (.station 31) 0 { req .expel 32 with phase := .ready, takenUp := true } ∧ headTimer s 31 ≠ .expired ∧
     ∀ b p q, b ≠ 31 → IsHead s (.station b) p q → q.takenUp = false) :=
  ⟨⟨mayHandOver_opened _ rfl rfl rfl, rfl, rfl, ⟨rfl, rfl⟩, by decide +kernel⟩,
    mayHandOver_opened _ rfl rfl rfl, noHead rfl, ⟨rfl, rfl⟩, by decide +kernel, onlyHead (by decide +kernel)⟩

theorem witness_StationGranted :
    let q := { req .exchange 32 with phase := .ready }
    let s := headed (.station 31) q (station' 31 .present (opened []))
    MayHandOver s cfg ∧ NothingEarlier s ∧ (claims s).length + 1 ≤ reservable s ∧ Eligible s 31 0 q ∧
    q.nextFrame = some .data ∧ (∀ b, 1 ≤ (station s b).weight) ∧ s.sc.turns[(31 : Addr)] < (station s 31).weight ∧
    (∀ b p' q', (b - s.sc.cursor).val < ((31 : Addr) - s.sc.cursor).val → Eligible s b p' q' →
      (station s b).weight ≤ s.sc.turns[b]) ∧
    (station s 31).weight ≤ { s.sc with turns := Vector.replicate 32 1 }.turns[(31 : Addr)] := by
  refine ⟨mayHandOver_opened _ rfl rfl rfl, ⟨rfl, rfl, noHead rfl, ?_⟩, by decide +kernel,
    ⟨⟨rfl, rfl⟩, by decide +kernel, .inl rfl, rfl, rfl, by decide +kernel⟩, rfl, by decide +kernel, by decide +kernel, ?_,
    by decide +kernel⟩
  · rintro a p' q' ⟨h1, h2⟩
    by_cases ha : a = 31
    · subst ha
      cases h1
      cases h2
      rfl
    · exact onlyHead (a := 31) (by decide +kernel) a p' q' ha ⟨h1, h2⟩
  · intro b p' q' hb he
    have h : ∀ b : Addr, (b - (0 : Addr)).val < ((31 : Addr) - (0 : Addr)).val →
        listOf (headed (.station 31) { req .exchange 32 with phase := .ready } (station' 31 .present (opened [])))
          (.station b) = [] := by decide +kernel
    have h1 := he.1.1
    rw [h b hb] at h1
    cases h1

/-- Cancelled requests of the stations 1 and 3, the round cursor at station 2, with as many slots reserved as are given. -/
def twoClaims (reserved : Nat) : State :=
  let s := putList (.station 2) [1] (putEntry 1 (some { req .post 3 with phase := .ready, cancelMark := true })
    (headed (.station 0) { req .exchange 1 with phase := .ready, cancelMark := true } (opened [])))
  { s with sc := { s.sc with cursor := 1 }, cu := { s.cu with reserved := reserved } }

theorem witness_ResolutionsWithoutLoopTraffic :
    (let q := { req .exchange 1 with phase := .ready, cancelMark := true }
     let s := twoClaims 11
     s.hp.engine = .running ∧ IsHead s (.station 0) 0 q ∧ requestStation q = some 0 ∧ q.takenUp = false ∧
     ClaimServed s (.station 0) ∧ ClaimServed (twoClaims 12) (.station 2) ∧ ¬ClaimServed (twoClaims 12) (.station 0)) ∧
    (let q := { req .expel 1 with phase := .ready, takenUp := true }
     let s := putHeadTimer 0 .expired (headed (.station 0) q (opened []))
     IsHead s (.station 0) 0 q ∧ headTimer s 0 = .expired) ∧
    (let q := { req .exchange 1 with phase := .queued }
     (station (headed (.station 0) q (opened [])) 0).state ≠ .present ∧ { q with readFaulted := true }.readFaulted = true) ∧
    (let q := { groupPost with phase := .queued, readFaulted := true }
     q.phase ≠ .inTransit ∧
     IsHead (headed .control q (opened [])) .control 0 q ∧
     1 ≤ reservable { headed .control q (opened []) with cu := { State.reset.cu with reserved := 12 } } ∧
     reservable { headed .control q (opened []) with cu := { State.reset.cu with reserved := 13 } } = 0) := by
  unfold ClaimServed
  exact ⟨⟨rfl, ⟨rfl, rfl⟩, by decide +kernel, rfl, by decide +kernel, by decide +kernel, by decide +kernel⟩,
    ⟨⟨rfl, rfl⟩, by decide +kernel⟩, ⟨by decide +kernel, rfl⟩, by decide, ⟨rfl, rfl⟩, by decide +kernel, by decide +kernel⟩

/-- With one slot for two claims, the claim at or above the round cursor is served and the other waits (R133). -/
theorem test_claims_served_from_the_cursor :
    next? (exec (.resolutionWithoutLoopTraffic (.station 0)) (twoClaims 12)) (fun t => t == twoClaims 12) = true ∧
    next? (exec (.resolutionWithoutLoopTraffic (.station 2)) (twoClaims 12)) (fun t => t.cu.queue.length == 1) = true := by
  decide +kernel

theorem takesUp_control (k : RequestKind) (x : StationState) (hk : k = .admission ∨ k = .expel ∨ k = .setStation ∨ k = .flush) :
    TakesUp (control k x) 0 0 { req k 1 with phase := .ready } := by
  rcases hk with h | h | h | h <;> subst h <;> cases x <;>
    exact ⟨rfl, ⟨rfl, rfl⟩, by decide +kernel, rfl, rfl, by decide, rfl, by decide +kernel, rfl, by decide +kernel⟩

theorem witness_StationControlTakenUp :
    TakesUp (control .admission .vacant) 0 0 { req .admission 1 with phase := .ready } ∧
    TakesUp (control .expel .present) 0 0 { req .expel 1 with phase := .ready } ∧
    TakesUp (control .setStation .silent) 0 0 { req .setStation 1 with phase := .ready } ∧
    TakesUp (control .flush .barred) 0 0 { req .flush 1 with phase := .ready } ∧
    ClaimServed (control .flush .barred) (.station 0) ∧
    ¬ClaimServed { control .flush .barred with cu := { State.reset.cu with reserved := 13 } } (.station 0) := by
  unfold ClaimServed
  exact ⟨takesUp_control _ _ (by decide), takesUp_control _ _ (by decide), takesUp_control _ _ (by decide),
    takesUp_control _ _ (by decide), by decide +kernel, by decide +kernel⟩

end Sys2Proof.Tests
end

/-! ## Failed attempts at the attempt limit (R89, R90) -/

namespace Sys2Proof.Machine

/-- The table of R90: a row for BUSY, one for NONE, and one for damage and breaks. -/
theorem finalStatus_of_table {o : LastOutcome} {status : Status}
    (h : o = .busy ∧ status = .refused ∨ o = .noMatch ∧ status = .unreached ∨
      (o = .damaged ∨ o = .damagedInTransit ∨ o = .responseDamaged ∨ o = .responseInvalid ∨ o = .lostToBreak) ∧
        status = .loopFault) :
    finalStatus (some o) = status := by
  obtain ⟨rfl, rfl⟩ | ⟨rfl, rfl⟩ | ⟨rfl | rfl | rfl | rfl | rfl, rfl⟩ := h <;> rfl

/-- The DONE record of a station's request, which has no count and no last field (R99, R201). -/
theorem doneRecord_eq_workRecord {s : State} {e : PoolEntry} {a : Addr} (ha : requestStation e = some a)
    (hn : e.expectedCount = none) (status : Status) (length : Nat) :
    doneRecord s e status length 0 =
      workRecord e status e.attempts (waitsField e) length (station s a).state e.lastOutcome := by
  simp [doneRecord, workRecord, waitsField, ha, hn]

/-- A request with the failed attempt counted (R89). -/
def attemptCounted (e : PoolEntry) : PoolEntry := { e with attempts := e.attempts + 1 }

/-- The third case of R89: the attempt just counted brings attempts used to the limit, with no expiry mark and the station
PRESENT, and the request ends with the final status of its last outcome. -/
theorem failedAttempt_of_limit {s : State} {p : PoolIx} {q : PoolEntry} {a : Addr} (hq : entry s p = some q)
    (hx : q.expiryMark = false) (hp : (station s a).state = .present) (hl : q.attempts + 1 = q.attemptLimit) :
    failedAttempt a p true s =
      finishRequest p (finalStatus q.lastOutcome) 0 0 .useReserved (modEntry p attemptCounted s) := by
  have hst : ∀ f, (station (modEntry p f s) a).state = .present := fun f => by
    rw [station_congr (modEntry_st _ _ _), hp]
  unfold attemptCounted
  simp [failedAttempt, entry_modEntry, hq, hx, hst, hl]

end Sys2Proof.Machine

section
open Sys2Proof.Machine

/-- Settles O44: at the limit the failed attempt is the end of the request (`failedAttempt_of_limit`), whose record carries the
status R90 gives its last outcome, and attempts used equal to the limit. -/
theorem finalStatusFollowsTheLastOutcome : Obligations.FinalStatusFollowsTheLastOutcome := by
  intro s p q a hq ha _ hx hp hl hn o ho status hrow
  have hcounted : entry (modEntry p attemptCounted s) p = some (attemptCounted q) := by simp [entry_modEntry, hq]
  have hrecord : doneRecord (modEntry p attemptCounted s) (attemptCounted q) status 0 0 =
      workRecord q status q.attemptLimit (waitsField q) 0 .present (some o) := by
    rw [doneRecord_eq_workRecord (e := attemptCounted q) (a := a) ha hn, station_congr (modEntry_st _ _ _), hp, ← hl, ← ho]
    rfl
  obtain ⟨hcu, hfree, -⟩ := finishRequest_resolves hcounted status 0 0 .useReserved
  have hqueue := congrArg CompletionUnit.queue hcu
  rw [hrecord, modEntry_cu] at hqueue
  rw [failedAttempt_of_limit hq hx hp hl, ho, finalStatus_of_table hrow]
  exact ⟨_, hqueue, hfree, rfl⟩

end

/-! ## The judgment of a request record (R141), and the read that delivers it (R138, R196) -/

namespace Sys2Proof.Machine

/-- The kind table of spec 10, section 10.4, read by octet and by code, is one table. -/
theorem requestKindOf_eq_kindNamed : ∀ o : Octet, requestKindOf o = kindNamed o := by decide

/-- Test 3 of R141. -/
theorem addressFits_iff (k : RequestKind) (o : Octet) : addressFits k o = true ↔ addressOk k o.toNat := by
  cases k <;> simp [addressFits, addressOk, within]

/-- Test 1 of R141 fails. -/
theorem judgeRecord_of_flags {r : RequestRecord} (h : r.flags ≠ 0) : judgeRecord r = .refused .badRequest := if_pos h

/-- Test 1 of R141 passes and test 2 fails. -/
theorem judgeRecord_of_kind_none {r : RequestRecord} (hf : r.flags = 0) (hk : kindNamed r.kind = none) :
    judgeRecord r = .refused .badRequest := by
  simp [judgeRecord, hf, requestKindOf_eq_kindNamed, hk]

/-- Tests 1 and 2 of R141 pass, and tests 3 to 5 are left. -/
theorem judgeRecord_of_kind {r : RequestRecord} {k : RequestKind} (hf : r.flags = 0) (hk : kindNamed r.kind = some k) :
    judgeRecord r =
      if ¬addressFits k r.address then .refused .badAddress
      else if 240 < r.payloadLength then .refused .badLength
      else if 15 < r.attemptLimit then .refused .badLength
      else .valid k := by
  simp [judgeRecord, hf, requestKindOf_eq_kindNamed, hk]

/-- A wanted read on the bus that delivers what was asked for: the bus is freed, the owner of the read acts, and the accesses
it asked for join the list (R195, R196). -/
theorem readEnds_of_onBus {s : State} {k : AccessKind} {isKind : AccessKind → Bool} {octets : List Octet} (h : OnBus s k)
    (hk : isKind k = true) (hl : ∀ b, s.hp.bus = some b → octets.length = b.access.length)
    (owner : AccessKind → State → State) :
    readEnds isKind octets owner s = .next (settleBus s.hp.queue.length (owner k (freeBus s))) := by
  obtain ⟨b, hb, rfl, hd⟩ := h
  simp [readEnds, onBus, answerWithBus, hb, hk, hd, hl b hb]

/-- A wanted record read that completes delivers its record to RI (R138). -/
theorem exec_requestRecordReadComplete_of_onBus {s : State} {octets : List Octet} (h : OnBus s .requestRecord)
    (hl : ∀ b, s.hp.bus = some b → octets.length = b.access.length) :
    exec (.requestRecordReadComplete octets) s =
      .next (settleBus s.hp.queue.length (recordDelivered octets (freeBus s))) :=
  readEnds_of_onBus h rfl hl (fun _ => recordDelivered octets)

/-- A delivered record is held under its judgment, which stands whatever the bus does next (R138, R141). -/
theorem held_settleBus_recordDelivered (n : Nat) (octets : List Octet) (s : State) :
    (settleBus n (recordDelivered octets s)).ri.held =
      some { record := requestRecordOf octets, judgment := judgeRecord (requestRecordOf octets) } := by
  rw [settleBus_ri]
  rfl

end Sys2Proof.Machine

section
open Sys2Proof.Machine

/-- Settles O27: a record that fails test 1 or test 2 is refused at once, one that passes both meets tests 3 to 5 in order
(`judgeRecord_of_kind`), and the read that delivers a record makes this judgment of it. -/
theorem recordsJudgedInOrder : Obligations.RecordsJudgedInOrder := by
  constructor
  · intro r
    refine ⟨judgeRecord_of_flags, judgeRecord_of_kind_none, fun k hf hk => ?_⟩
    rw [judgeRecord_of_kind hf hk, ← addressFits_iff]
    refine ⟨fun ha => ?address, fun ha hp => ?payload, fun ha hp hl => ?limit, fun ha hp hl => ?valid⟩
    case address => exact if_pos ha
    case payload => simp [ha, hp]
    case limit => simp [ha, hp.not_gt, hl]
    case valid => simp [ha, hp.not_gt, hl.not_gt]
  · intro s octets hbus hl
    exact ⟨_, _, exec_requestRecordReadComplete_of_onBus hbus hl, held_settleBus_recordDelivered _ _ _⟩

end

/-! ## Releases of the completion ring (R168) -/

namespace Sys2Proof.Machine

/-- What the model calls a register error is the state the statements name after one (R183). -/
theorem registerError_eq_afterRegisterError (e : RegisterError) (s : State) :
    registerError e s = afterRegisterError e s := rfl

/-- Outside power-on reset a COMPLETION HEAD write takes its effect, whatever that is (R193). -/
theorem exec_completionHeadWrite_of_not_powerOnReset {s : State} (h : s.hp.powerOnReset = false) (v : HostWord) :
    exec (.completionHeadWrite v) s = .next (completionHeadWritten v s) := by
  simp [exec, execCompletionHeadWrite, answer, h]

/-- The ring indices are unset in OFF and STARTING, and in no other engine state (R137). -/
theorem ringsSet_eq_false_iff (e : EngineState) : ringsSet e = false ↔ e = .off ∨ e = .starting := by
  cases e <;> simp [ringsSet]

/-- Without ring indices the write is refused, whatever its value. -/
theorem completionHeadWritten_of_ringsUnset {s : State} (h : ringsSet s.hp.engine = false) (v : HostWord) :
    completionHeadWritten v s = afterRegisterError .ringsUnset s := by
  simp [completionHeadWritten, h, registerError_eq_afterRegisterError]

/-- With the ring indices set the ring size decides between the range error and a taken write. -/
theorem completionHeadWritten_of_ringsSet {s : State} {c : Configuration} (h : ringsSet s.hp.engine = true)
    (hc : s.hp.config = some c) (v : HostWord) :
    completionHeadWritten v s =
      if c.completionSize ≤ v.toNat then afterRegisterError .completionHeadRange s
      else releaseEntries c.completionSize v.toNat s := by
  simp [completionHeadWritten, configured, h, hc, registerError_eq_afterRegisterError]

/-- `releasedBy`, which adds the ring size to stay in the naturals, is R168's difference modulo the ring size. -/
theorem releasedBy_cast {size head : Nat} (h : head < size) (value : Nat) :
    (releasedBy size head value : Int) = ((value : Int) - head) % size := by
  have hle : head ≤ value + size := by omega
  calc (releasedBy size head value : Int)
      = ((value : Int) + size - head) % size := by rw [releasedBy, Int.natCast_mod, Nat.cast_sub hle, Nat.cast_add]
    _ = ((value : Int) - head + size) % size := by rw [add_sub_right_comm]
    _ = ((value : Int) - head) % size := Int.add_emod_right _ _

/-- First row of R168's table: from 1 to the occupancy. -/
theorem releaseEntries_of_le_occupancy {size value : Nat} {s : State} (h1 : 1 ≤ releasedBy size s.cu.head value)
    (hle : releasedBy size s.cu.head value ≤ s.cu.occupancy) :
    releaseEntries size value s =
      { s with cu := { s.cu with occupancy := s.cu.occupancy - releasedBy size s.cu.head value, head := value } } := by
  simp [releaseEntries, Nat.one_le_iff_ne_zero.mp h1, hle]

/-- Second row: an unchanged value on a full ring. -/
theorem releaseEntries_of_full {size value : Nat} {s : State} (h0 : releasedBy size s.cu.head value = 0)
    (hfull : s.cu.occupancy = size) :
    releaseEntries size value s = { s with cu := { s.cu with occupancy := 0 } } := by
  simp [releaseEntries, h0, hfull]

/-- Third row: an unchanged value on a ring with room. -/
theorem releaseEntries_of_room {size value : Nat} {s : State} (h0 : releasedBy size s.cu.head value = 0)
    (hroom : s.cu.occupancy < size) : releaseEntries size value s = s := by
  simp [releaseEntries, h0, hroom.ne]

/-- Fourth row: more than the occupancy. -/
theorem releaseEntries_of_occupancy_lt {size value : Nat} {s : State}
    (hlt : s.cu.occupancy < releasedBy size s.cu.head value) :
    releaseEntries size value s = afterRegisterError .overRelease s := by
  have h0 : releasedBy size s.cu.head value ≠ 0 := by omega
  simp [releaseEntries, h0, hlt.not_ge, registerError_eq_afterRegisterError]

/-- POST does nothing in an engine state in which the completion unit does not post (R165). -/
theorem exec_post_of_not_mayPost {s : State} (h : mayPost s.hp.engine = false) : exec .post s = .next s := by
  cases hq : s.cu.queue with
  | nil => simp [exec, execPost, hq]
  | cons r rs => simp [exec, execPost, hq, answerWithBus, h]

/-- COMPLETION HEAD reads back the completion unit's head, the last value taken. -/
theorem readRegister_completionHead {s : State} (h : s.hp.powerOnReset = false) :
    readRegister .completionHead s = BitVec.ofNat 32 s.cu.head := by
  simp [readRegister, h]

end Sys2Proof.Machine

section
open Sys2Proof.Machine

/-- Settles O23: the engine state and the ring size decide whether the write is taken, and a write taken is a row of R168's
table, since the model's difference is the rule's (`releasedBy_cast`). -/
theorem completionHeadWrites : Obligations.CompletionHeadWrites := by
  intro s v hpor
  rw [exec_completionHeadWrite_of_not_powerOnReset hpor]
  refine ⟨readRegister_completionHead hpor, fun he => exec_post_of_not_mayPost (by rw [he]; rfl),
    fun he => ?refused, fun hoff hstarting c hc => ?set⟩
  case refused => rw [completionHeadWritten_of_ringsUnset ((ringsSet_eq_false_iff _).mpr he)]
  case set =>
    have hset : ringsSet s.hp.engine = true := by
      rw [← Bool.not_eq_false, ringsSet_eq_false_iff]
      exact not_or.mpr ⟨hoff, hstarting⟩
    rw [completionHeadWritten_of_ringsSet hset hc]
    refine ⟨fun hrange => by rw [if_pos hrange], fun hv hhead n hn => ?taken⟩
    obtain rfl : n = releasedBy c.completionSize s.cu.head v.toNat := by
      rw [← Int.natCast_inj, hn, releasedBy_cast hhead]
    rw [if_neg hv.not_ge]
    exact ⟨fun h1 hle => congrArg _ (releaseEntries_of_le_occupancy h1 hle),
      fun h0 hfull => congrArg _ (releaseEntries_of_full h0 hfull),
      fun h0 hroom => congrArg _ (releaseEntries_of_room h0 hroom),
      fun hlt => congrArg _ (releaseEntries_of_occupancy_lt hlt)⟩

end

/-! ## The INTERRUPT register and the line (R174) -/

namespace Sys2Proof.Machine

/-- A set of causes spelled bit by bit, COMPLETION lowest. -/
theorem causeBits_eq_bit (c : Causes) :
    causeBits c = Nat.bit c.completion (Nat.bit c.engine (Nat.bit c.regError 0)) := by
  obtain ⟨completion, engine, regError⟩ := c
  cases completion <;> cases engine <;> cases regError <;> rfl

/-- A set of causes takes three bits. -/
theorem causeBits_lt (c : Causes) : causeBits c < 8 := by
  unfold causeBits
  split_ifs <;> decide

/-- The cause at a bit of its field in an INTERRUPT word (spec 10, section 10.2). -/
def causeAtBit (c : Causes) : Nat → Bool
  | 0 => c.completion
  | 1 => c.engine
  | 2 => c.regError
  | _ => false

theorem testBit_causeBits (c : Causes) (i : Nat) : (causeBits c).testBit i = causeAtBit c i := by
  rw [causeBits_eq_bit]
  match i with
  | 0 | 1 | 2 | i + 3 => simp [causeAtBit, Nat.testBit_bit_succ]

/-- The INTERRUPT word has the pending set in its low octet and the enable set above it (spec 10, section 10.2). -/
theorem getLsbD_readRegister_interrupt {s : State} (h : s.hp.powerOnReset = false) (i : Nat) :
    (readRegister .interrupt s).getLsbD i =
      if i < 8 then causeAtBit s.cu.pendingCauses i else causeAtBit s.cu.enabled (i - 8) := by
  have hpending := causeBits_lt s.cu.pendingCauses
  have henabled := causeBits_lt s.cu.enabled
  have hword : (readRegister .interrupt s).toNat =
      2 ^ 8 * causeBits s.cu.enabled + causeBits s.cu.pendingCauses := by
    simp only [readRegister, h, Bool.false_eq_true, if_false, BitVec.toNat_ofNat]
    omega
  rw [← BitVec.testBit_toNat, hword, Nat.testBit_two_pow_mul_add _ (by omega), testBit_causeBits, testBit_causeBits]

/-- Outside power-on reset the acknowledge clears the causes it names, whatever the engine does (R174). -/
theorem exec_interruptAcknowledge_of_not_powerOnReset {s : State} (h : s.hp.powerOnReset = false) (w : HostWord) :
    exec (.interruptAcknowledge w) s =
      .next { s with cu := { s.cu with pendingCauses := s.cu.pendingCauses.without (causesAt w 0) } } := by
  simp [exec, execInterruptAcknowledge, answer, h]

/-- Outside power-on reset the enable field becomes the enable set, whatever the engine does (R174). -/
theorem exec_interruptEnable_of_not_powerOnReset {s : State} (h : s.hp.powerOnReset = false) (w : HostWord) :
    exec (.interruptEnable w) s = .next { s with cu := { s.cu with enabled := causesAt w 8 } } := by
  simp [exec, execInterruptEnable, answer, h]

/-- Outside power-on reset the line is asserted exactly while a cause is both pending and enabled (R174). -/
theorem interruptLine_iff {s : State} (h : s.hp.powerOnReset = false) :
    interruptLine s = true ↔
      (s.cu.pendingCauses.completion = true ∧ s.cu.enabled.completion = true) ∨
      (s.cu.pendingCauses.engine = true ∧ s.cu.enabled.engine = true) ∨
      (s.cu.pendingCauses.regError = true ∧ s.cu.enabled.regError = true) := by
  simp [interruptLine, h, or_assoc]

end Sys2Proof.Machine

section
open Sys2Proof.Machine

/-- Settles O24: the two halves of a write replace one set each, and a read is decided bit by bit
(`getLsbD_readRegister_interrupt`), with nothing outside bits 2–0 and 10–8. -/
theorem interruptWrites : Obligations.InterruptWrites := by
  intro s w hpor
  refine ⟨exec_interruptAcknowledge_of_not_powerOnReset hpor w, exec_interruptEnable_of_not_powerOnReset hpor w,
    fun i => ?bits, interruptLine_iff hpor⟩
  rw [getLsbD_readRegister_interrupt hpor]
  match i with
  | 0 | 1 | 2 | 3 | 4 | 5 | 6 | 7 | 8 | 9 | 10 => rfl
  | i + 11 => simp [causeAtBit]

end

/-! ## What the end of a step and the entry to RUNNING keep of the host port and the completion unit (R190, R195) -/

namespace Sys2Proof.Machine

/-- The host port but its sequencer is the same on both sides of two passages that each keep it. -/
theorem HostKept.trans {s t u : State} (hst : HostKept s t) (htu : HostKept t u) : HostKept s u :=
  Eq.trans htu (congrArg (fun hp => { hp with bus := u.hp.bus, queue := u.hp.queue }) hst)

theorem HostKept.of_hp_eq {s t : State} (h : t.hp = s.hp) : HostKept s t := by simp [HostKept, h]

/-- A reading of the host port that does not look at the sequencer is as before. -/
theorem HostKept.reading_eq {s t : State} {α : Type} (h : HostKept s t) (g : HostPort → α)
    (hg : ∀ hp bus queue, g { hp with bus := bus, queue := queue } = g hp) : g t.hp = g s.hp :=
  (congrArg g h).trans (hg _ _ _)

theorem HostKept.engine_eq {s t : State} (h : HostKept s t) : t.hp.engine = s.hp.engine :=
  h.reading_eq HostPort.engine fun _ _ _ => rfl

theorem hostKept_beginAccess (s : State) : HostKept s (beginAccess s) := by
  unfold beginAccess
  split
  · split <;> rfl
  · rfl

/-- The end of a step touches the sequencer alone (R195). -/
theorem hostKept_settleBus (n : Nat) (s : State) : HostKept s (settleBus n s) :=
  HostKept.trans (t := joinRequests n s) rfl (hostKept_beginAccess _)

theorem settleBus_hp_engine (n : Nat) (s : State) : (settleBus n s).hp.engine = s.hp.engine :=
  (hostKept_settleBus n s).engine_eq

/-- The host port but its sequencer, and the completion unit, are as before: what resuming a stopped run asks of the bus and
changes in the pool leaves both alone (R190). -/
def HostAndCompletionsKept (s t : State) : Prop := HostKept s t ∧ t.cu = s.cu

theorem HostAndCompletionsKept.refl (s : State) : HostAndCompletionsKept s s := ⟨rfl, rfl⟩

theorem HostAndCompletionsKept.trans {s t u : State} (hst : HostAndCompletionsKept s t)
    (htu : HostAndCompletionsKept t u) : HostAndCompletionsKept s u :=
  ⟨hst.1.trans htu.1, htu.2.trans hst.2⟩

theorem HostAndCompletionsKept.of_eq {s t : State} (hhp : t.hp = s.hp) (hcu : t.cu = s.cu) : HostAndCompletionsKept s t :=
  ⟨.of_hp_eq hhp, hcu⟩

/-- A sweep over stations or pool entries keeps what each of its steps keeps. -/
theorem hostAndCompletionsKept_foldl {α : Type} {f : State → α → State}
    (hf : ∀ s x, HostAndCompletionsKept s (f s x)) (xs : List α) (s : State) :
    HostAndCompletionsKept s (xs.foldl f s) := by
  induction xs generalizing s with
  | nil => exact .refl s
  | cons x xs ih => exact (hf s x).trans (ih (f s x))

theorem hostAndCompletionsKept_startPayload (p : PoolIx) (s : State) : HostAndCompletionsKept s (startPayload p s) :=
  ⟨hostKept_startPayload p s, startPayload_cu p s⟩

theorem hostAndCompletionsKept_testRecordRead (s : State) : HostAndCompletionsKept s (testRecordRead s) := by
  refine ⟨?_, testRecordRead_cu s⟩
  unfold testRecordRead
  split <;> rfl

theorem hostAndCompletionsKept_testDescriptorRead (s : State) : HostAndCompletionsKept s (testDescriptorRead s) := by
  refine ⟨?_, testDescriptorRead_cu s⟩
  unfold testDescriptorRead
  split <;> rfl

/-- A held expiry is a matter of the pool entry and its timer: the TIMEOUT waits for a slot (R93, R131). -/
theorem hostAndCompletionsKept_actOnExpiry (a : Addr) (s : State) : HostAndCompletionsKept s (actOnExpiry a s) := by
  unfold actOnExpiry
  split
  · exact .refl s
  · split <;> exact .of_eq rfl rfl

theorem hostAndCompletionsKept_resumeHead (s : State) (a : Addr) : HostAndCompletionsKept s (resumeHead s a) := by
  have hexpiry : HostAndCompletionsKept s (if headTimer s a = .expired then actOnExpiry a s else s) := by
    split
    · exact hostAndCompletionsKept_actOnExpiry a s
    · exact .refl s
  simp only [resumeHead]
  generalize (if headTimer s a = .expired then actOnExpiry a s else s) = s1 at hexpiry ⊢
  split
  · exact hexpiry.trans (hostAndCompletionsKept_startPayload _ _)
  · exact hexpiry

theorem hostAndCompletionsKept_resumeControl (s : State) : HostAndCompletionsKept s (resumeControl s) := by
  unfold resumeControl
  split
  · exact hostAndCompletionsKept_startPayload _ _
  · exact .refl s

theorem hostAndCompletionsKept_startProbing (s : State) : HostAndCompletionsKept s (startProbing s) := .of_eq rfl rfl

/-- Resuming a stopped run changes nothing of the host port and the completion unit but the engine state and the accesses asked
for (R190). -/
theorem hostAndCompletionsKept_startFromStopped (s : State) :
    HostAndCompletionsKept { s with hp := { s.hp with engine := .running } } (startFromStopped s) := by
  have hfetch : ∀ t p, HostAndCompletionsKept t (releaseHeldFetch p t) := fun _ _ =>
    .of_eq (modEntry_hp _ _ _) (modEntry_cu _ _ _)
  simp only [startFromStopped]
  refine .trans ?_ (hostAndCompletionsKept_startProbing _)
  refine .trans ?_ (hostAndCompletionsKept_testDescriptorRead _)
  refine .trans ?_ (hostAndCompletionsKept_testRecordRead _)
  refine .trans ?_ (hostAndCompletionsKept_resumeControl _)
  refine .trans ?_ (hostAndCompletionsKept_foldl hostAndCompletionsKept_resumeHead _ _)
  refine .trans ?_ (hostAndCompletionsKept_foldl hfetch _ _)
  exact .of_eq (startSweepTimer_hp _) (startSweepTimer_cu _)

/-! ## The commands of CONTROL by the engine state (R179) -/

/-- A word that is none of the three codes is BAD_COMMAND. -/
theorem controlCommand_of_no_code {word : HostWord} (h1 : word ≠ 1) (h2 : word ≠ 2) (h3 : word ≠ 3) :
    controlCommand word = .badCommand word := by
  rw [controlCommand, if_neg h1, if_neg h2, if_neg h3]

theorem exec_start_of_off {s : State} (hpor : s.hp.powerOnReset = false) (he : s.hp.engine = .off) :
    exec .start s = .next (settleBus s.hp.queue.length (startFromOff s)) := by
  simp [exec, execStart, answerWithBus, hpor, he]

theorem exec_start_of_stopped {s : State} (hpor : s.hp.powerOnReset = false) (he : s.hp.engine = .stopped) :
    exec .start s = .next (settleBus s.hp.queue.length (startFromStopped s)) := by
  simp [exec, execStart, answerWithBus, hpor, he]

theorem exec_start_of_refused {s : State} (hpor : s.hp.powerOnReset = false) (hoff : s.hp.engine ≠ .off)
    (hstopped : s.hp.engine ≠ .stopped) : exec .start s = .next (afterRegisterError .wrongCommand s) := by
  cases he : s.hp.engine with
  | off => exact absurd he hoff
  | stopped => exact absurd he hstopped
  | starting | running | stopping | faulted =>
    simp [exec, execStart, answer, hpor, he, registerError_eq_afterRegisterError]

theorem exec_stop_of_running {s : State} (hpor : s.hp.powerOnReset = false) (he : s.hp.engine = .running) :
    exec .stop s = .next (settleBus s.hp.queue.length (stopEngine s)) := by
  simp [exec, execStop, answerWithBus, hpor, he]

theorem exec_stop_of_refused {s : State} (hpor : s.hp.powerOnReset = false) (hrunning : s.hp.engine ≠ .running) :
    exec .stop s = .next (afterRegisterError .wrongCommand s) := by
  cases he : s.hp.engine with
  | running => exact absurd he hrunning
  | off | starting | stopping | stopped | faulted =>
    simp [exec, execStop, answer, hpor, he, registerError_eq_afterRegisterError]

theorem exec_reset_of_not_powerOnReset {s : State} (hpor : s.hp.powerOnReset = false) :
    exec .reset s = .next (controllerReset s) := by
  simp [exec, execReset, answer, hpor]

theorem exec_badCommand_of_no_code {s : State} (hpor : s.hp.powerOnReset = false) {word : HostWord} (h1 : word ≠ 1)
    (h2 : word ≠ 2) (h3 : word ≠ 3) : exec (.badCommand word) s = .next (afterRegisterError .badCommand s) := by
  simp [exec, execBadCommand, answer, hpor, controlCommand_of_no_code h1 h2 h3, registerError_eq_afterRegisterError]

/-- The engine state changes here only by the passage to STOPPED (R189). -/
theorem stopWhenQuiet_hp_engine (s : State) :
    (stopWhenQuiet s).hp.engine = s.hp.engine ∨ (stopWhenQuiet s).hp.engine = .stopped := by
  unfold stopWhenQuiet
  split
  · exact .inr rfl
  · exact .inl rfl

/-- Draining the loop leaves the engine as it is, or takes it on to STOPPED (R46, R189). -/
theorem drainLoop_hp_engine (s : State) :
    (drainLoop s).hp.engine = s.hp.engine ∨ (drainLoop s).hp.engine = .stopped := by
  unfold drainLoop
  cases s.ls.state with
  | opened | probing | calling =>
    dsimp only
    split
    · exact stopWhenQuiet_hp_engine _
    · exact .inl rfl
  | broken | draining | quiet => exact stopWhenQuiet_hp_engine _

theorem stopEngine_hp_engine (s : State) :
    (stopEngine s).hp.engine = .stopping ∨ (stopEngine s).hp.engine = .stopped :=
  drainLoop_hp_engine _

/-- The engine states are numbered as R199's table says. -/
theorem engineState_code_eq_engineNumber (e : EngineState) : e.code = engineNumber e := by cases e <;> rfl

theorem readRegister_control {s : State} (hpor : s.hp.powerOnReset = false) :
    readRegister .control s = BitVec.ofNat 32 (engineNumber s.hp.engine) := by
  simp [readRegister, hpor, engineState_code_eq_engineNumber]

end Sys2Proof.Machine

section
open Sys2Proof.Machine

/-- Settles O16: the engine state decides whether START and STOP are taken; a START taken keeps the completion unit
(`hostAndCompletionsKept_startFromStopped`), and a STOP taken drains the loop, which can only lead on to STOPPED
(`stopEngine_hp_engine`). -/
theorem commandsByEngineState : Obligations.CommandsByEngineState := by
  refine ⟨⟨rfl, rfl, rfl, fun _ => controlCommand_of_no_code⟩, fun s hpor => ⟨?startOff, ?startStopped,
    exec_start_of_refused hpor, ?stop, exec_stop_of_refused hpor, ⟨_, exec_reset_of_not_powerOnReset hpor, rfl⟩,
    fun _ => exec_badCommand_of_no_code hpor, readRegister_control hpor⟩⟩
  case startOff =>
    exact fun he => ⟨_, exec_start_of_off hpor he, settleBus_hp_engine _ _, settleBus_cu _ _⟩
  case startStopped =>
    intro he
    obtain ⟨hhost, hcu⟩ := hostAndCompletionsKept_startFromStopped s
    exact ⟨_, exec_start_of_stopped hpor he, (settleBus_hp_engine _ _).trans hhost.engine_eq, (settleBus_cu _ _).trans hcu⟩
  case stop =>
    intro he
    exact ⟨_, exec_stop_of_running hpor he, by rw [settleBus_hp_engine]; exact stopEngine_hp_engine s⟩

end

/-! ## The judgment of the configuration block (R186), and the read that delivers it (R187, R188, R196) -/

namespace Sys2Proof.Machine

/-- The failure found stands at or after the place from which the judgments are counted. -/
theorem le_of_firstFailure_eq_some {checks : List Bool} {k n : Nat} (h : firstFailure checks k = some n) : k ≤ n := by
  induction checks generalizing k with
  | nil => simp [firstFailure] at h
  | cons b rest ih =>
    cases b with
    | true => exact Nat.le_of_succ_le (ih h)
    | false => exact (Option.some.inj h).le

/-- A judgment fails first exactly when it fails and none ahead of it does; a place past the end counts as accepted. -/
theorem firstFailure_eq_some_iff (checks : List Bool) (k i : Nat) :
    firstFailure checks k = some (k + i) ↔
      checks.getD i true = false ∧ ∀ j < i, checks.getD j true = true := by
  induction checks generalizing k i with
  | nil => simp [firstFailure]
  | cons b rest ih =>
    cases b with
    | false => cases i with
      | zero => simp [firstFailure]
      | succ i =>
        rw [firstFailure, Nat.forall_lt_succ_left]
        simp
    | true => cases i with
      | zero =>
        have hne : firstFailure rest (k + 1) ≠ some k := fun h => absurd (le_of_firstFailure_eq_some h) (by omega)
        simp [firstFailure, hne]
      | succ i =>
        have hshift : k + (i + 1) = k + 1 + i := by omega
        rw [firstFailure, hshift, ih, List.getD_cons_succ, Nat.forall_lt_succ_left]
        simp only [List.getD_cons_zero, List.getD_cons_succ, true_and]

/-- No judgment fails exactly when each is accepted. -/
theorem firstFailure_eq_none_iff (checks : List Bool) (k : Nat) :
    firstFailure checks k = none ↔ ∀ j, checks.getD j true = true := by
  induction checks generalizing k with
  | nil => simp [firstFailure]
  | cons b rest ih =>
    cases b with
    | false => simpa [firstFailure] using ⟨0, rfl⟩
    | true =>
      rw [firstFailure, ih]
      exact ⟨fun h j => by cases j with | zero => rfl | succ j => exact h j, fun h j => h (j + 1)⟩

theorem within_eq_true_iff (lo hi n : Nat) : within lo hi n = true ↔ lo ≤ n ∧ n ≤ hi := by simp [within]

theorem fitsHostMemory_eq_true_iff (base : HostWord) (octets size : Nat) :
    fitsHostMemory base octets size = true ↔ base.toNat + octets * size ≤ 2 ^ 32 := decide_eq_true_iff

/-- The sizes listed for the request ring are the powers of two from 16 to 4096 (R186, field 2). -/
theorem isRequestRingSize_eq_true_iff (n : Nat) :
    isRequestRingSize n = true ↔ ∃ k, 4 ≤ k ∧ k ≤ 12 ∧ n = 2 ^ k := by
  have hsizes : [16, 32, 64, 128, 256, 512, 1024, 2048, 4096] = (List.range' 4 9).map (2 ^ ·) := by decide
  rw [isRequestRingSize, hsizes, List.contains_iff_mem, List.mem_map]
  refine exists_congr fun k => ?_
  rw [List.mem_range'_1, eq_comm, and_assoc, Nat.lt_succ_iff]

/-- There is no field past the eighteenth, so nothing there is refused. -/
theorem fieldAccepted_of_lt (c : Configuration) {n : Nat} (h : 18 < n) : fieldAccepted c n := by
  obtain ⟨i, rfl⟩ : ∃ i, n = i + 19 := ⟨n - 19, by omega⟩
  trivial

/-- The judgment at place `i` is R186's row for field `i + 1`; past the eighteenth nothing is judged. -/
theorem fieldAccepted_iff (c : Configuration) (i : Nat) :
    fieldAccepted c (i + 1) ↔ (configurationChecks c).getD i true = true := by
  match i with
  | 0 | 2 | 4 => exact Nat.dvd_iff_mod_eq_zero.trans decide_eq_true_iff.symm
  | 1 =>
    exact ((isRequestRingSize_eq_true_iff _).and (fitsHostMemory_eq_true_iff _ _ _)).symm.trans (Bool.and_eq_true_iff).symm
  | 3 | 5 =>
    simp [fieldAccepted, configurationChecks, within_eq_true_iff, fitsHostMemory_eq_true_iff, and_assoc]
  | 6 | 7 | 8 | 9 | 10 | 11 | 12 | 13 | 14 | 15 | 16 | 17 =>
    simp [fieldAccepted, configurationChecks, within_eq_true_iff]
  | i + 18 => exact iff_of_true (fieldAccepted_of_lt c (by omega)) rfl

/-- The field named bad is one of the eighteen, is not accepted, and every field ahead of it is (R186). -/
theorem badConfigurationField_eq_some_iff (c : Configuration) (n : Nat) :
    badConfigurationField c = some n ↔
      1 ≤ n ∧ n ≤ 18 ∧ ¬fieldAccepted c n ∧ ∀ m, 1 ≤ m → m < n → fieldAccepted c m := by
  cases n with
  | zero =>
    have hne : badConfigurationField c ≠ some 0 := fun h => absurd (le_of_firstFailure_eq_some h) (by decide)
    simp [hne]
  | succ i =>
    have hfirst : badConfigurationField c = some (i + 1) ↔
        ¬fieldAccepted c (i + 1) ∧ ∀ j < i, fieldAccepted c (j + 1) := by
      simp only [fieldAccepted_iff, Bool.not_eq_true, ← firstFailure_eq_some_iff _ 1, badConfigurationField, Nat.add_comm]
    have hle : ¬fieldAccepted c (i + 1) → i + 1 ≤ 18 := fun h =>
      not_lt.mp fun hlt => h (fieldAccepted_of_lt c hlt)
    have hahead : (∀ m, 1 ≤ m → m < i + 1 → fieldAccepted c m) ↔ ∀ j < i, fieldAccepted c (j + 1) :=
      ⟨fun h j hj => h (j + 1) (by omega) (by omega), fun h m h1 hm => Nat.sub_add_cancel h1 ▸ h (m - 1) (by omega)⟩
    rw [hfirst, hahead]
    exact ⟨fun ⟨hbad, hok⟩ => ⟨by omega, hle hbad, hbad, hok⟩, fun ⟨_, _, hbad, hok⟩ => ⟨hbad, hok⟩⟩

/-- No field is bad exactly when all eighteen are accepted (R186). -/
theorem badConfigurationField_eq_none_iff (c : Configuration) :
    badConfigurationField c = none ↔ ∀ m, 1 ≤ m → m ≤ 18 → fieldAccepted c m := by
  rw [badConfigurationField, firstFailure_eq_none_iff]
  simp only [← fieldAccepted_iff]
  constructor
  · exact fun h m h1 _ => Nat.sub_add_cancel h1 ▸ h (m - 1)
  · intro h j
    obtain hj | hj := Nat.lt_or_ge 18 (j + 1)
    · exact fieldAccepted_of_lt c hj
    · exact h (j + 1) (by omega) hj

/-- A word read octet by octet is its two halves. -/
theorem wordAt_eq_leWord (o : List Octet) (i : Nat) : wordAt o i = leWord o i := by
  unfold wordAt leWord
  congr 1
  simp only [leHalf, byteAt, octetAt, Nat.add_assoc, Nat.reduceAdd]
  omega

/-- A wanted configuration read that completes in STARTING has its block judged (R186). -/
theorem exec_configurationReadComplete_of_starting {s : State} {octets : List Octet} (he : s.hp.engine = .starting)
    (h : OnBus s .configuration) (hl : ∀ b, s.hp.bus = some b → octets.length = b.access.length) :
    exec (.configurationReadComplete octets) s =
      .next (settleBus s.hp.queue.length (configurationDelivered octets (freeBus s))) := by
  have hread := readEnds_of_onBus (isKind := fun k => k == .configuration) h rfl hl
    (fun _ y => if y.hp.engine = .starting then configurationDelivered octets y else y)
  rw [if_pos ((freeBus_hp_engine s).trans he)] at hread
  exact hread

/-- A block with a bad field makes the start fail with that field (R187). -/
theorem configurationDelivered_of_bad {octets : List Octet} {n : Nat}
    (h : badConfigurationField (configurationOf octets) = some n) (s : State) :
    configurationDelivered octets s = startFailed .configRange n s := by
  simp [configurationDelivered, h]

/-- A block with every field accepted is loaded (R188). -/
theorem configurationDelivered_of_accepted {octets : List Octet}
    (h : badConfigurationField (configurationOf octets) = none) (s : State) :
    configurationDelivered octets s = passToRunning (configurationOf octets) s := by
  simp [configurationDelivered, h]

end Sys2Proof.Machine

section
open Sys2Proof.Machine

/-- Settles O25: the judgments in a row find the first field R186's table does not accept (`badConfigurationField_eq_some_iff`),
the words of the block are read octet by octet (`wordAt_eq_leWord`), and the read that delivers the block acts on that judgment. -/
theorem configurationJudged : Obligations.ConfigurationJudged := by
  refine ⟨fun c => ⟨badConfigurationField_eq_some_iff c, badConfigurationField_eq_none_iff c⟩, fun o => ?offsets, ?read⟩
  case offsets =>
    simp only [← wordAt_eq_leWord]
    rfl
  intro s octets he hbus hl hlength
  have hkept := hostKept_settleBus s.hp.queue.length (configurationDelivered octets (freeBus s))
  refine ⟨_, exec_configurationReadComplete_of_starting he hbus (fun b hb => hl.trans (hlength b hb).symm),
    fun n hbad => ⟨?code, ?field⟩, fun haccepted => ?loaded⟩
  case code => rw [hkept.reading_eq HostPort.faultCode fun _ _ _ => rfl, configurationDelivered_of_bad hbad]; rfl
  case field => rw [hkept.reading_eq HostPort.badField fun _ _ _ => rfl, configurationDelivered_of_bad hbad]; rfl
  case loaded => rw [hkept.reading_eq HostPort.config fun _ _ _ => rfl, configurationDelivered_of_accepted haccepted]; rfl

end

/-! ## The pool and its lists (R144, R147) -/

namespace Sys2Proof.Machine

set_option Elab.async false

/-- The list that the request of a pool entry stands in, none while the entry is free (R144, R147). -/
def homeOf (s : State) (p : PoolIx) : Option ListId := (entry s p).map (fun e => listFor e.kind e.address)

/-- Pool and lists agree when each list holds, once, the entries whose home it is. -/
theorem poolOk_iff (s : State) :
    PoolOk s ↔ (∀ l, (listOf s l).Nodup) ∧ ∀ l p, p ∈ listOf s l ↔ homeOf s p = some l := by
  simp only [PoolOk, homeOf, Option.map_eq_some_iff]
  constructor
  · rintro ⟨hnd, hin, hout⟩
    exact ⟨hnd, fun l p => ⟨hin l p, fun ⟨e, he, hl⟩ => hl ▸ hout p e he⟩⟩
  · rintro ⟨hnd, hiff⟩
    exact ⟨hnd, fun l p => (hiff l p).mp, fun p e he => (hiff _ p).mpr ⟨e, he, rfl⟩⟩

/-- The pool's agreement with its lists reads the homes and the lists alone. -/
theorem PoolOk.congr {s t : State} (hhome : ∀ p, homeOf t p = homeOf s p) (hlist : ∀ l, listOf t l = listOf s l)
    (h : PoolOk s) : PoolOk t := by
  rw [poolOk_iff] at h ⊢
  simpa only [hhome, hlist] using h

theorem homeOf_congr {s t : State} (h : t.rp = s.rp) (p : PoolIx) : homeOf t p = homeOf s p := by
  simp only [homeOf, entry_congr h]

theorem PoolOk.of_rp_eq {s t : State} (h : PoolOk s) (hrp : t.rp = s.rp) : PoolOk t :=
  h.congr (homeOf_congr hrp) (listOf_congr hrp)

theorem homeOf_putEntry (p q : PoolIx) (e : Option PoolEntry) (s : State) :
    homeOf (putEntry p e s) q = if q = p then e.map (fun x => listFor x.kind x.address) else homeOf s q := by
  unfold homeOf
  rw [entry_putEntry]
  split <;> rfl

/-- A change of an entry that keeps kind and address keeps its home. -/
theorem homeOf_putEntry_of_kept {p : PoolIx} {e e' : PoolEntry} {s : State} (he : entry s p = some e)
    (hk : e'.kind = e.kind) (ha : e'.address = e.address) (q : PoolIx) : homeOf (putEntry p (some e') s) q = homeOf s q := by
  rw [homeOf_putEntry]
  split
  · rename_i h
    simp [h, homeOf, he, hk, ha]
  · rfl

theorem homeOf_modEntry {f : PoolEntry → PoolEntry} (hk : ∀ e, (f e).kind = e.kind) (ha : ∀ e, (f e).address = e.address)
    (p q : PoolIx) (s : State) : homeOf (modEntry p f s) q = homeOf s q := by
  unfold modEntry
  split
  · exact homeOf_putEntry_of_kept ‹_› (hk _) (ha _) q
  · rfl

@[simp] theorem homeOf_startPayload (p q : PoolIx) (s : State) : homeOf (startPayload p s) q = homeOf s q := by
  obtain h | ⟨e, he, h | h⟩ := startPayload_cases p s <;> rw [h]
  · exact homeOf_putEntry_of_kept he (by rfl) (by rfl) q
  · rw [homeOf_congr (requestAccess_rp _ _)]
    exact homeOf_putEntry_of_kept he (by rfl) (by rfl) q

@[simp] theorem homeOf_becomeHead (l : ListId) (q : PoolIx) (s : State) : homeOf (becomeHead l s) q = homeOf s q := by
  unfold becomeHead
  split
  · rfl
  · split
    · rw [homeOf_startPayload, homeOf_congr (armHeadTimer_rp _ _ _)]
    · rw [homeOf_modEntry (fun _ => by rfl) (fun _ => by rfl), homeOf_congr (armHeadTimer_rp _ _ _)]

theorem homeOf_finishRequest (p q : PoolIx) (status : Status) (n m : Nat) (use : SlotUse) (s : State) :
    homeOf (finishRequest p status n m use s) q = if q = p then none else homeOf s q := by
  unfold finishRequest
  split
  · rename_i h
    split
    · rename_i hq
      simp [hq, homeOf, h]
    · rfl
  · rw [homeOf_becomeHead, homeOf_congr (clearOutstanding_rp _ _ _)]
    have hleave : ∀ (l : ListId) (u : State), homeOf (leaveList l p u) q = homeOf u q := fun l u => by
      unfold homeOf
      rw [entry_leaveList]
    rw [hleave, homeOf_putEntry]
    split
    · rfl
    · exact homeOf_congr (by simp) q

theorem listOf_finishRequest {p : PoolIx} {e : PoolEntry} {s : State} (h : entry s p = some e) (status : Status) (n m : Nat)
    (use : SlotUse) (l : ListId) :
    listOf (finishRequest p status n m use s) l =
      if l = listFor e.kind e.address then (listOf s l).erase p else listOf s l := by
  obtain ⟨-, -, hsame, hother, -⟩ := finishRequest_resolves h status n m use
  split
  · rename_i hl
    rw [hl, hsame]
  · exact hother l ‹_›

/-- Without a request there is nothing to finish. -/
theorem finishRequest_of_none {p : PoolIx} {s : State} (h : entry s p = none) (status : Status) (n m : Nat) (use : SlotUse) :
    finishRequest p status n m use s = s := by simp [finishRequest, h]

theorem poolOk_finishRequest (p : PoolIx) (status : Status) (n m : Nat) (use : SlotUse) {s : State} (h : PoolOk s) :
    PoolOk (finishRequest p status n m use s) := by
  cases he : entry s p with
  | none => rwa [finishRequest_of_none he]
  | some e =>
    have hhome : homeOf s p = some (listFor e.kind e.address) := by simp [homeOf, he]
    rw [poolOk_iff] at h ⊢
    obtain ⟨hnd, hiff⟩ := h
    refine ⟨fun l => ?_, fun l q => ?_⟩
    · rw [listOf_finishRequest he]
      split
      · exact (hnd l).erase p
      · exact hnd l
    · rw [listOf_finishRequest he, homeOf_finishRequest]
      by_cases hq : q = p
      · subst hq
        simp only [if_true, reduceCtorEq, iff_false]
        split
        · simp [(hnd l).mem_erase_iff]
        · rw [hiff, hhome, Option.some.injEq]
          exact fun hl => ‹¬ _› hl.symm
      · rw [if_neg hq, ← hiff]
        split
        · simp [(hnd l).mem_erase_iff, hq]
        · rfl

/-- A request placed in a free entry at the tail of its list (R145, R147). -/
theorem poolOk_join {p : PoolIx} {e : PoolEntry} {s : State} (hfree : entry s p = none) (h : PoolOk s) :
    PoolOk (putList (listFor e.kind e.address) (listOf s (listFor e.kind e.address) ++ [p]) (putEntry p (some e) s)) := by
  have hhome : homeOf s p = none := by simp [homeOf, hfree]
  rw [poolOk_iff] at h ⊢
  obtain ⟨hnd, hiff⟩ := h
  have hnot : ∀ l, p ∉ listOf s l := fun l hp => by rw [hiff, hhome] at hp; cases hp
  have hput : ∀ q, homeOf (putList (listFor e.kind e.address) (listOf s (listFor e.kind e.address) ++ [p])
      (putEntry p (some e) s)) q = if q = p then some (listFor e.kind e.address) else homeOf s q := fun q => by
    unfold homeOf
    rw [entry_putList]
    exact homeOf_putEntry p q (some e) s
  refine ⟨fun l => ?_, fun l q => ?_⟩
  · rw [listOf_putList, listOf_putEntry]
    split
    · exact List.Nodup.append (hnd _) (List.nodup_singleton p) (by simpa using hnot _)
    · exact hnd l
  · rw [listOf_putList, listOf_putEntry, hput]
    by_cases hq : q = p
    · subst hq
      split <;> simp_all [eq_comm]
    · rw [if_neg hq]
      split
      · rename_i hl
        simp [hl, hq, hiff]
      · exact hiff l q

end Sys2Proof.Machine

/-! ## The units' work: what the effects of a command on requests, stations, reports and records are made of -/

namespace Sys2Proof.Machine

set_option Elab.async false

/-- One piece of work on requests, stations, reports and records: what the effects of the commands are made of where they pass no
element over the loop and change no engine state, loop state, ring index or clock. -/
inductive Work : State → State → Prop
  /-- A request is resolved (R130, R151). -/
  | finish (p : PoolIx) (status : Status) (n m : Nat) (use : SlotUse) (s : State) : Work s (finishRequest p status n m use s)
  /-- The working state of a request changes (R72). -/
  | request {p : PoolIx} {e e' : PoolEntry} {s : State} (he : entry s p = some e)
      (hsame : e'.kind = e.kind ∧ e'.address = e.address := by exact ⟨rfl, rfl⟩) : Work s (putEntry p (some e') s)
  /-- A request is placed at the tail of its list (R145, R147). -/
  | place {p : PoolIx} {e : PoolEntry} {s : State} (hfree : entry s p = none) :
      Work s (putList (listFor e.kind e.address) (listOf s (listFor e.kind e.address) ++ [p]) (putEntry p (some e) s))
  /-- The entry of a station changes, within R49's ranges. -/
  | station {a : Addr} {x : Station} {s : State} (hposition : x.position = (station s a).position)
      (hweight : x.weight = (station s a).weight ∨ 1 ≤ x.weight ∧ x.weight ≤ 4)
      (hfailures : x.failures = (station s a).failures ∨ x.failures ≤ 15) : Work s (putStation a x s)
  /-- An accepted roll call is entered in the station table and the loop map (R58, R59). -/
  | roll (roll : List (Addr × Bool)) (s : State) : Work s { s with st := rollTable s roll }
  /-- The scheduler's timers and due marks change, its round does not (R118). -/
  | scheduler {x : Scheduler} {s : State} (hround : x.cursor = s.sc.cursor ∧ x.turns = s.sc.turns := by exact ⟨rfl, rfl⟩) :
      Work s { s with sc := x }
  /-- Records and notices enter the holding queue, slots are reserved or given back, a record write ends unposted, causes
  become pending (R158, R159, R161, R167, R173). -/
  | completion {x : CompletionUnit} {s : State}
      (hnotices : NoticesOk s → NoticesOk { s with cu := x }) (hwrite : x.write = s.cu.write ∨ x.write = none)
      (hring : x.tail = s.cu.tail ∧ x.phase = s.cu.phase ∧ x.occupancy = s.cu.occupancy ∧ x.head = s.cu.head := by
        exact ⟨rfl, rfl, rfl, rfl⟩) : Work s { s with cu := x }
  /-- The report unit works on its cache, its ack set, its sweep record and its reports (R100). -/
  | reports {x : ReportUnit} {s : State} (hhead : x.head = s.ru.head := by rfl) : Work s { s with ru := x }
  /-- A record is held or disposed of, or its read is asked for (R138). -/
  | intake {x : Intake} {s : State} (hhead : x.head = s.ri.head ∧ x.tail = s.ri.tail := by exact ⟨rfl, rfl⟩) : Work s { s with ri := x }
  /-- A master access is asked for (R195). -/
  | access (x : Access) (s : State) : Work s (requestAccess x s)
  /-- An accepted report uses a slot of the sweep in transit (R110). -/
  | sweepSlot (s : State) : Work s (takeSweepSlot s)
  /-- The raw loop delay changes, within R25's range. -/
  | delay {n : Nat} {s : State} (hn : n ≤ s.ls.rawDelay ∨ n ≤ 65535) : Work s { s with ls := { s.ls with rawDelay := n } }

/-- Work done piece by piece. -/
abbrev Works : State → State → Prop := Relation.ReflTransGen Work

theorem Work.works {s t : State} (h : Work s t) : Works s t := .single h

/-- A walk over a list whose every step is work is work. -/
theorem works_foldl {α : Type} {f : State → α → State} (hf : ∀ s x, Works s (f s x)) (xs : List α) (s : State) :
    Works s (xs.foldl f s) := by
  induction xs generalizing s with
  | nil => exact .refl
  | cons x xs ih => exact (hf s x).trans (ih (f s x))

/-! ### Single changes -/

theorem works_putStation {a : Addr} {x : Station} {s : State} (hposition : x.position = (station s a).position)
    (hweight : x.weight = (station s a).weight) (hfailures : x.failures = (station s a).failures ∨ x.failures ≤ 15) :
    Works s (putStation a x s) := Work.works (.station hposition (.inl hweight) hfailures)

/-- A change of working state that keeps what request an entry holds. -/
def KeepsRequest (f : PoolEntry → PoolEntry) : Prop := ∀ e, (f e).kind = e.kind ∧ (f e).address = e.address

theorem works_modEntry {f : PoolEntry → PoolEntry} (p : PoolIx) (s : State)
    (hf : KeepsRequest f := by exact fun _ => ⟨rfl, rfl⟩) : Works s (modEntry p f s) := by
  unfold modEntry
  split
  · exact Work.works (.request ‹_› (hf _))
  · exact .refl

theorem works_putHeadTimer (a : Addr) (t : Timer) (s : State) : Works s (putHeadTimer a t s) := Work.works .scheduler

/-- A change of the completion unit that leaves the holding queue, the ring and the record write alone. -/
theorem works_completion_of_queue_eq {x : CompletionUnit} {s : State} (hq : x.queue = s.cu.queue := by rfl)
    (hwrite : x.write = s.cu.write := by rfl)
    (hring : x.tail = s.cu.tail ∧ x.phase = s.cu.phase ∧ x.occupancy = s.cu.occupancy ∧ x.head = s.cu.head := by
      exact ⟨rfl, rfl, rfl, rfl⟩) : Works s { s with cu := x } := by
  refine Work.works (.completion (fun h k => ?_) (.inl hwrite) hring)
  simpa [hq] using h k

theorem works_reserveSlots (n : Nat) (s : State) : Works s (reserveSlots n s) :=
  works_completion_of_queue_eq

theorem works_giveBackSlots (n : Nat) (s : State) : Works s (giveBackSlots n s) :=
  works_completion_of_queue_eq

theorem works_setCause (c : Cause) (s : State) : Works s (setCause c s) :=
  works_completion_of_queue_eq

theorem works_callAnswer (n : Option Nat) (s : State) : Works s { s with cu := { s.cu with callAnswer := n } } :=
  works_completion_of_queue_eq

/-- A record that is no notice leaves the notices of the queue as they were. -/
theorem works_enterRecord {r : CompletionRecord} (hr : isNotice r = false) (use : SlotUse) (s : State) :
    Works s (enterRecord r use s) := by
  refine Work.works (.completion (fun h k => ?_) (.inl (by rfl)))
  have hk : isNoticeOf k r = false := by
    rw [Bool.eq_false_iff, Ne, isNoticeOf_iff]
    intro hkind
    simp [isNotice, hkind] at hr
  simpa [hk] using h k

theorem works_raiseNotice (x : Raise) (s : State) : Works s (raiseNotice x s) := by
  unfold raiseNotice
  split
  · exact works_completion_of_queue_eq
  · rw [applyRaise_eq]
    refine Work.works (.completion (fun h => ?_) (.inl (by rfl)))
    exact fun k => by simpa only [applyRaise_eq] using applyRaise_noticesOk x s.cu h k

/-- Raises applied in their order keep one notice of a kind (R158, R162). -/
theorem noticesOk_queueAfterRaises (xs : List Raise) (queue : List CompletionRecord)
    (h : ∀ k, (queue.filter (isNoticeOf k)).length ≤ 1) :
    ∀ k, ((queueAfterRaises xs queue).filter (isNoticeOf k)).length ≤ 1 := by
  induction xs generalizing queue with
  | nil => exact h
  | cons x xs ih =>
    refine ih (queueAfterRaise x queue) ?_
    simpa only [applyRaise_eq] using applyRaise_noticesOk x { State.reset.cu with queue := queue } h

/-! ### The head of a list -/

theorem works_startPayload (p : PoolIx) (s : State) : Works s (startPayload p s) := by
  obtain h | ⟨e, he, h | h⟩ := startPayload_cases p s <;> rw [h]
  · exact Work.works (.request he)
  · exact (Work.works (.request he)).tail (.access _ _)

theorem works_armHeadTimer (l : ListId) (e : PoolEntry) (s : State) : Works s (armHeadTimer l e s) := by
  cases l with
  | control => exact .refl
  | station a => exact works_putHeadTimer a _ s

theorem works_becomeHead (l : ListId) (s : State) : Works s (becomeHead l s) := by
  unfold becomeHead
  split
  · exact .refl
  · split
    · exact (works_armHeadTimer _ _ _).trans (works_startPayload _ _)
    · exact (works_armHeadTimer _ _ _).trans (works_modEntry _ _)

theorem works_finishRequest (p : PoolIx) (status : Status) (n m : Nat) (use : SlotUse) (s : State) :
    Works s (finishRequest p status n m use s) := Work.works (.finish p status n m use s)

/-! ### Attempts, turns and responses -/

theorem works_clearFailures (a : Addr) (s : State) : Works s (clearFailures a s) := works_putStation rfl rfl (.inr (by simp))

theorem works_flipCommandToggle (a : Addr) (s : State) : Works s (flipCommandToggle a s) := works_putStation rfl rfl (.inl rfl)

theorem works_countFailure (a : Addr) (s : State) : Works s (countFailure a s) := by
  simp only [countFailure]
  split
  · exact (works_putStation (by rfl) (by rfl) (.inr (by exact Nat.min_le_left 15 _))).trans (works_raiseNotice _ _)
  · exact works_putStation (by rfl) (by rfl) (.inr (by exact Nat.min_le_left 15 _))

theorem works_applyOutcomeToFailures (o : LastOutcome) (a : Addr) (s : State) : Works s (applyOutcomeToFailures o a s) := by
  cases o
  case noMatch => exact works_countFailure a s
  case taken => exact works_clearFailures a s
  case repeated => exact works_clearFailures a s
  case busy => exact works_clearFailures a s
  all_goals exact .refl

theorem works_writeOutcome (p : PoolIx) (o : LastOutcome) (s : State) : Works s (writeOutcome p o s) :=
  works_modEntry p s

theorem works_pauseRequest (p : PoolIx) (s : State) : Works s (pauseRequest p s) :=
  (works_modEntry p s).trans (works_giveBackSlots 1 _)

theorem works_failedAttempt (a : Addr) (p : PoolIx) (counted : Bool) (s : State) : Works s (failedAttempt a p counted s) := by
  unfold failedAttempt
  extract_lets s1
  refine .trans (b := s1) (works_modEntry p s) ?_
  split
  · exact .refl
  · split
    · exact works_finishRequest ..
    · split
      · exact works_finishRequest ..
      · split
        · exact works_finishRequest ..
        · exact works_pauseRequest ..

theorem works_postReturned (a : Addr) (p : PoolIx) (o : LastOutcome) (s : State) : Works s (postReturned a p o s) := by
  have hbefore := (works_writeOutcome p o s).trans (works_applyOutcomeToFailures o a _)
  simp only [postReturned]
  refine hbefore.trans ?_
  split
  · exact (works_flipCommandToggle ..).trans (works_finishRequest ..)
  · exact (works_flipCommandToggle ..).trans (works_finishRequest ..)
  · exact works_failedAttempt ..

theorem works_groupReturned (p : PoolIx) (o : LastOutcome) (copies : Nat) (s : State) :
    Works s (groupReturned p o copies s) := by
  unfold groupReturned
  extract_lets s1
  refine .trans (b := s1) (works_writeOutcome p o s) ?_
  split
  · exact works_finishRequest ..
  · split
    · exact .refl
    · split <;> exact works_finishRequest ..

theorem works_restReturned (p : PoolIx) (o : LastOutcome) (s : State) : Works s (restReturned p o s) := by
  unfold restReturned
  extract_lets s1
  refine .trans (b := s1) ((works_writeOutcome p o s).trans (works_finishRequest ..)) ?_
  split
  · exact (Work.delay (.inl (Nat.sub_le _ 2))).works
  · exact .refl

theorem works_validResponse (a : Addr) (p : PoolIx) (payload : List Octet) (s : State) :
    Works s (validResponse a p payload s) := by
  unfold validResponse
  extract_lets s1
  refine .trans (b := s1) (((works_clearFailures a s).trans (works_flipCommandToggle a _)).trans (works_modEntry p _)) ?_
  split
  · exact .refl
  · extract_lets written
    split
    · exact works_finishRequest ..
    · split
      · exact works_finishRequest ..
      · exact Work.works (.access _ _)

theorem works_badResponse (a : Addr) (p : PoolIx) (o : LastOutcome) (s : State) : Works s (badResponse a p o s) :=
  .trans (b := modEntry p (fun e => { e with lastOutcome := some o, nextFrame := some .fetch }) s) (works_modEntry p s)
    (works_failedAttempt ..)

theorem works_notReady (a : Addr) (p : PoolIx) (s : State) : Works s (notReady a p s) := by
  unfold notReady
  extract_lets s1
  refine .trans (b := s1) (works_modEntry p s) ?_
  split
  · exact .refl
  · split
    · exact works_finishRequest ..
    · exact works_failedAttempt ..

theorem works_turnAfterAccepted (a : Addr) (p : PoolIx) (e : PoolEntry) (t : TurnItem) (s : State) :
    Works s (turnAfterAccepted a p e t s) := by
  cases t with
  | unchanged => exact works_notReady a p s
  | damaged => exact works_badResponse a p _ s
  | response source toggle payload =>
    simp only [turnAfterAccepted]
    split
    · exact works_validResponse ..
    · exact works_badResponse ..

theorem works_turnReturned (a : Addr) (p : PoolIx) (t : TurnItem) (s : State) : Works s (turnReturned a p t s) := by
  unfold turnReturned
  split
  · exact .refl
  · split
    · exact (works_clearFailures a s).trans (works_turnAfterAccepted ..)
    · exact (works_clearFailures a s).trans (works_turnAfterAccepted ..)
    · exact (works_applyOutcomeToFailures ..).trans (works_failedAttempt ..)
    · exact works_failedAttempt ..

theorem works_payloadDelivered (p : PoolIx) (octets : List Octet) (s : State) : Works s (payloadDelivered p octets s) := by
  unfold payloadDelivered
  split
  · exact .refl
  · extract_lets expired
    split
    · exact Work.works (.request ‹_›)
    · exact .refl

theorem works_payloadFaulted (p : PoolIx) (s : State) : Works s (payloadFaulted p s) :=
  works_modEntry p s (fun e => by split <;> exact ⟨rfl, rfl⟩)

theorem works_responseWritten (p : PoolIx) (s : State) : Works s (responseWritten p s) := by
  unfold responseWritten
  split
  · exact .refl
  · split
    · exact .refl
    · exact works_finishRequest ..

theorem works_responseLost (p : PoolIx) (s : State) : Works s (responseLost p s) := by
  unfold responseLost
  split
  · exact .refl
  · split
    · exact .refl
    · exact works_finishRequest ..

/-! ### Reports and sweeps -/

theorem works_testDescriptorRead (s : State) : Works s (testDescriptorRead s) := by
  unfold testDescriptorRead
  split
  · exact (Work.works .reports).tail (.access _ _)
  · exact .refl

theorem works_putAck (a : Addr) (x : Option AckEntry) (s : State) : Works s (putAck a x s) := Work.works .reports

theorem works_mapAcks (f : AckEntry → Option AckEntry) (s : State) : Works s (mapAcks f s) := Work.works .reports

theorem works_finishSweepNow (status : Status) (n : Nat) (s : State) : Works s (finishSweepNow status n s) := by
  unfold finishSweepNow
  split
  · split
    · exact works_finishRequest ..
    · exact .refl
  · exact .refl

theorem works_enterReport (r : PendingReport) (status : Status) (s : State) : Works s (enterReport r status s) := by
  have hrecord : Works s (enterRecord (reportRecord s r status) .useReserved s) := works_enterRecord rfl _ _
  simp only [enterReport]
  refine hrecord.trans ?_
  split
  · exact .refl
  · split
    · exact (Work.works .reports).trans (works_finishSweepNow ..)
    · exact Work.works .reports

theorem works_pumpReports (rs : List PendingReport) (s : State) : Works s (pumpReports rs s) := by
  induction rs generalizing s with
  | nil => exact Work.works .reports
  | cons r rest ih =>
    unfold pumpReports
    split
    · exact (works_enterReport ..).trans (ih _)
    · split
      · exact (works_enterReport ..).trans (ih _)
      · exact (Work.works .reports).tail (.access _ _)

theorem works_reportWritten (fault : Bool) (s : State) : Works s (reportWritten fault s) := by
  unfold reportWritten
  split
  · exact .refl
  · exact (works_enterReport ..).trans (works_pumpReports ..)

theorem works_countReportItem (s : State) : Works s (countReportItem s) := Work.works .reports

theorem works_acceptReport (a : Addr) (toggle : Toggle) (payload : List Octet) (s : State) :
    Works s (acceptReport a toggle payload s) := by
  unfold acceptReport
  split
  · extract_lets now s1 s2 reports s3
    refine .trans ?_ (works_testDescriptorRead _)
    have hstation : Works s s1 := works_putStation rfl rfl (.inl rfl)
    have hslot : Works s s2 := (hstation.trans (works_putAck a _ _)).tail (.sweepSlot _)
    have haccepted : Works s s3 := hslot.tail .reports
    split
    · exact haccepted
    · exact haccepted.trans (works_pumpReports ..)
  · exact .refl

theorem works_reportReturned (source : Octet) (toggle : Toggle) (payload : List Octet) (s : State) :
    Works s (reportReturned source toggle payload s) := by
  simp only [reportReturned]
  refine (works_countReportItem s).trans ?_
  split
  · split
    · exact .refl
    · split
      · exact .refl
      · split
        · exact works_putAck ..
        · exact works_acceptReport ..
  · exact .refl

theorem works_endSweep (intact : Bool) (e : TransitEntry) (s : State) : Works s (endSweep intact e s) := by
  unfold endSweep
  extract_lets accepted status s1 reports s2
  have hacks : Works s s1 := (works_mapAcks _ s).trans (works_giveBackSlots ..)
  refine .trans (b := s2) (hacks.tail .reports) ?_
  split
  · split
    · exact works_finishSweepNow ..
    · exact Work.works .reports
  · exact .refl

/-! ### Roll calls -/

theorem works_modOutstanding {f : PoolEntry → PoolEntry} (a : Addr) (s : State)
    (hf : KeepsRequest f := by exact fun _ => ⟨rfl, rfl⟩) : Works s (modOutstanding a f s) := by
  unfold modOutstanding
  split
  · exact works_modEntry _ s hf
  · exact .refl

theorem works_applyJoin (roll : List (Addr × Bool)) (s : State) (a : Addr) : Works s (applyJoin roll s a) := by
  unfold applyJoin
  split
  · exact (works_putAck a none s).trans (works_modOutstanding a _)
  · exact .refl

theorem works_applyLeaving (before s : State) (a : Addr) : Works s (applyLeaving before s a) := by
  unfold applyLeaving
  split
  · exact works_modOutstanding a s (fun e => by unfold stationLeftEntry; split <;> exact ⟨rfl, rfl⟩)
  · exact .refl

theorem works_reconcile (roll : List (Addr × Bool)) (s : State) : Works s (reconcile roll s) := by
  unfold reconcile
  extract_lets n s1 s2
  have htable : Works s s1 := (Work.works (.roll roll s)).trans (works_foldl (works_applyJoin roll) _ _)
  refine .trans (b := s2) ?_ (works_foldl (works_applyLeaving s) _ _)
  unfold s2
  split
  · exact htable.trans (works_raiseNotice ..)
  · exact htable

theorem works_addJoins (roll : List (Addr × Bool)) (s : State) : Works s (addJoins roll s) :=
  (Work.delay (.inr (Nat.min_le_left _ _))).works

theorem works_finishCallNow (status : Status) (n : Nat) (s : State) : Works s (finishCallNow status n s) := by
  unfold finishCallNow
  split
  · split
    · exact works_finishRequest ..
    · exact .refl
  · exact .refl

theorem works_answerCallNow (held : Bool) (n : Nat) (s : State) : Works s (answerCallNow held n s) := by
  unfold answerCallNow
  split
  · exact works_callAnswer _ s
  · exact works_finishCallNow ..

theorem works_answerHeldCallNow (s : State) : Works s (answerHeldCallNow s) := by
  unfold answerHeldCallNow
  split
  · exact .refl
  · exact (works_callAnswer none s).trans (works_finishCallNow ..)

/-! ### Breaks -/

theorem works_withStationRequest {f : Addr → PoolIx → State → State} (hf : ∀ a p s, Works s (f a p s)) (e : TransitEntry)
    (s : State) : Works s (withStationRequest e f s) := by
  unfold withStationRequest
  split
  · exact .refl
  · split
    · exact .refl
    · exact hf ..

theorem works_withRequest {f : PoolIx → State → State} (hf : ∀ p s, Works s (f p s)) (e : TransitEntry) (s : State) :
    Works s (withRequest e f s) := by
  unfold withRequest
  split
  · exact .refl
  · exact hf ..

theorem works_resolveByBreak (e : TransitEntry) (s : State) : Works s (resolveByBreak e s) := by
  have hattempt : Works s (withStationRequest e (fun a p x => failedAttempt a p true (writeOutcome p .lostToBreak x)) s) :=
    works_withStationRequest (fun a p s => (works_writeOutcome p _ s).trans (works_failedAttempt ..)) e s
  unfold resolveByBreak
  split
  · exact hattempt
  · exact hattempt
  · exact works_withRequest (fun p s => (works_writeOutcome p _ s).trans (works_finishRequest ..)) e s
  · exact works_withRequest (fun p s => (works_writeOutcome p _ s).trans (works_finishRequest ..)) e s
  · exact works_endSweep ..
  · split
    · exact works_finishCallNow ..
    · exact .refl
  · exact .refl

theorem works_resolveAll (es : List TransitEntry) (s : State) : Works s (resolveAll es s) :=
  works_foldl (fun s e => works_resolveByBreak e s) es s

/-! ### Record writes -/

theorem works_recordKept (s : State) : Works s (recordKept s) := by
  refine .trans ?_ (works_answerHeldCallNow _)
  rw [applyHeldRaises_eq]
  exact Work.works (.completion (noticesOk_queueAfterRaises s.cu.heldRaises s.cu.queue) (.inr (by rfl)))

theorem works_ownerOfDropped (x : Access) (s : State) : Works s (ownerOfDropped x s) := by
  unfold ownerOfDropped
  split
  · exact .refl
  · split
    · exact .refl
    · exact works_responseLost ..
    · exact works_pumpReports ..
    · exact works_finishRequest ..
    · exact Work.works .reports
    · exact Work.works .intake
    · exact works_recordKept s
    · exact works_recordKept s
    · exact .refl

/-! ### Intake, take-ups and the scheduler's timers -/

theorem works_testRecordRead (s : State) : Works s (testRecordRead s) := by
  unfold testRecordRead
  split
  · exact (Work.works .intake).tail (.access _ _)
  · exact .refl

theorem works_recordDelivered (octets : List Octet) (s : State) : Works s (recordDelivered octets s) :=
  Work.works .intake

theorem works_markCancelled (ps : List PoolIx) (s : State) : Works s (markCancelled ps s) :=
  works_foldl (fun s p => works_modEntry p s) ps s

/-- A request joins its list in an entry that is free (R145, R147). -/
theorem works_joinList {p : PoolIx} {e : PoolEntry} {s : State} (hfree : entry s p = none) :
    Works s (joinList (listFor e.kind e.address) p e s) := by
  unfold joinList
  extract_lets before s1
  refine .trans (b := s1) (Work.works (.place hfree)) ?_
  split
  · exact works_becomeHead ..
  · exact .refl

theorem works_admitStation (a : Addr) (p : PoolIx) (s : State) : Works s (admitStation a p s) := by
  unfold admitStation
  split
  all_goals first
    | exact (works_putStation (by rfl) (by rfl) (.inr (by exact Nat.zero_le _))).trans (works_finishRequest ..)
    | exact works_finishRequest ..

theorem works_expelStation (a : Addr) (p : PoolIx) (s : State) : Works s (expelStation a p s) := by
  have hbarred : Works s (putStation a { station s a with state := .barred } s) := works_putStation rfl rfl (.inl rfl)
  simp only [expelStation]
  split
  · exact works_finishRequest ..
  · exact works_finishRequest ..
  · split
    · exact (hbarred.trans (works_modEntry p _)).trans (works_reserveSlots ..)
    · exact hbarred.trans (works_finishRequest ..)
  all_goals exact hbarred.trans (works_finishRequest ..)

theorem newWeight_range {present : Nat} (field : Nat) : newWeight present field = present ∨
    1 ≤ newWeight present field ∧ newWeight present field ≤ 4 := by
  unfold newWeight
  split
  · exact .inl rfl
  · exact .inr ⟨by omega, Nat.min_le_left _ _⟩

theorem works_setStationFields (a : Addr) (p : PoolIx) (e : PoolEntry) (s : State) : Works s (setStationFields a p e s) := by
  simp only [setStationFields]
  split
  · exact works_finishRequest ..
  · exact (Work.station (by rfl) (newWeight_range e.weight) (.inl (by rfl))).works.trans (works_finishRequest ..)

theorem works_queryTakenUp {p : PoolIx} {e : PoolEntry} {s : State} (he : entry s p = some e) :
    Works s (queryTakenUp p e s) := by
  unfold queryTakenUp
  split
  · exact works_finishRequest ..
  · exact ((Work.works (.request he)).trans (works_reserveSlots 1 _)).tail (.access _ _)

theorem works_modControlHead {f : PoolEntry → PoolEntry} (s : State)
    (hf : KeepsRequest f := by exact fun _ => ⟨rfl, rfl⟩) : Works s (modControlHead f s) := by
  unfold modControlHead
  split
  · exact works_modEntry _ s hf
  · exact .refl

theorem works_startSweepTimer (s : State) : Works s (startSweepTimer s) := Work.works .scheduler

theorem works_stopIntervalTimers (s : State) : Works s (stopIntervalTimers s) := Work.works .scheduler

theorem works_restartCallTimer (s : State) : Works s (restartCallTimer s) := Work.works .scheduler

theorem works_sweepDecided (s : State) : Works s (sweepDecided s) := by
  unfold sweepDecided
  extract_lets scheduler s1
  refine .trans (b := s1) ((Work.works .scheduler).trans (works_startSweepTimer _)) ?_
  split
  · exact works_raiseNotice ..
  · exact .refl

theorem works_releaseHeldFetch (p : PoolIx) (s : State) : Works s (releaseHeldFetch p s) :=
  works_modEntry p s (fun e => by split <;> exact ⟨rfl, rfl⟩)

theorem works_actOnExpiry (a : Addr) (s : State) : Works s (actOnExpiry a s) := by
  unfold actOnExpiry
  split
  · exact .refl
  · have he := (headEntry_some ‹_›).2
    split
    · exact (Work.works (.request he)).trans (works_putHeadTimer ..)
    · exact Work.works (.request he)
    all_goals exact .refl

theorem works_resumeHead (s : State) (a : Addr) : Works s (resumeHead s a) := by
  unfold resumeHead
  extract_lets s1
  refine .trans (b := s1) ?_ ?_
  · unfold s1
    split
    · exact works_actOnExpiry a s
    · exact .refl
  split
  · exact works_startPayload ..
  · exact .refl

theorem works_resumeControl (s : State) : Works s (resumeControl s) := by
  unfold resumeControl
  split
  · exact works_startPayload ..
  · exact .refl

theorem works_fetchDelayExpired (p : PoolIx) (s : State) : Works s (fetchDelayExpired p s) := by
  unfold fetchDelayExpired
  split <;> exact works_modEntry p s

theorem works_headDeadlineExpired (a : Addr) (s : State) : Works s (headDeadlineExpired a s) := by
  simp only [headDeadlineExpired]
  refine (works_putHeadTimer a .expired s).trans ?_
  split
  · exact works_actOnExpiry ..
  · exact .refl

end Sys2Proof.Machine

/-! ## What work leaves alone -/

namespace Sys2Proof.Machine

set_option Elab.async false

/-- What is the same in `s` and in `t`, reached from it by work: engine, configuration and registers, the ring indices, the loop
state with its timers and the elements in transit, the line, the round, and all that is outside the units. The access on the bus
stays there, its result wanted or not. -/
structure WorkKeeps (s t : State) : Prop where
  hp : HostKept s t
  bus : ∀ b, t.hp.bus = some b → ∃ b', s.hp.bus = some b' ∧ b'.begunAt = b.begunAt ∧ b'.access.kind = b.access.kind
  riHead : t.ri.head = s.ri.head
  riTail : t.ri.tail = s.ri.tail
  loop : t.ls.state = s.ls.state
  elements : t.ls.transit.map (fun e => e.element) = s.ls.transit.map (fun e => e.element)
  loopTimers : t.ls.probeTimer = s.ls.probeTimer ∧ t.ls.settleTimer = s.ls.settleTimer ∧ t.ls.probeNumber = s.ls.probeNumber
  tx : t.tx = s.tx
  rx : t.rx = s.rx
  ruHead : t.ru.head = s.ru.head
  ring : t.cu.tail = s.cu.tail ∧ t.cu.phase = s.cu.phase ∧ t.cu.occupancy = s.cu.occupancy ∧ t.cu.head = s.cu.head
  write : t.cu.write = s.cu.write ∨ t.cu.write = none
  round : t.sc.cursor = s.sc.cursor ∧ t.sc.turns = s.sc.turns
  outside : OutsideKept s t
  choices : t.choices = s.choices

theorem OutsideKept.trans {s t u : State} (h : OutsideKept s t) (h' : OutsideKept t u) : OutsideKept s u :=
  ⟨h'.1.trans h.1, h'.2.1.trans h.2.1, h'.2.2.1.trans h.2.2.1, h'.2.2.2.trans h.2.2.2⟩

theorem OutsideKept.refl (s : State) : OutsideKept s s := ⟨rfl, rfl, rfl, rfl⟩

theorem WorkKeeps.refl (s : State) : WorkKeeps s s where
  hp := rfl
  bus b hb := ⟨b, hb, rfl, rfl⟩
  riHead := rfl
  riTail := rfl
  loop := rfl
  elements := rfl
  loopTimers := ⟨rfl, rfl, rfl⟩
  tx := rfl
  rx := rfl
  ruHead := rfl
  ring := ⟨rfl, rfl, rfl, rfl⟩
  write := .inl rfl
  round := ⟨rfl, rfl⟩
  outside := .refl s
  choices := rfl

theorem WorkKeeps.trans {s t u : State} (h : WorkKeeps s t) (h' : WorkKeeps t u) : WorkKeeps s u where
  hp := h.hp.trans h'.hp
  bus b hb := by
    obtain ⟨b1, hb1, hat1, hk1⟩ := h'.bus b hb
    obtain ⟨b2, hb2, hat2, hk2⟩ := h.bus b1 hb1
    exact ⟨b2, hb2, hat2.trans hat1, hk2.trans hk1⟩
  riHead := h'.riHead.trans h.riHead
  riTail := h'.riTail.trans h.riTail
  loop := h'.loop.trans h.loop
  elements := h'.elements.trans h.elements
  loopTimers := ⟨h'.loopTimers.1.trans h.loopTimers.1, h'.loopTimers.2.1.trans h.loopTimers.2.1,
    h'.loopTimers.2.2.trans h.loopTimers.2.2⟩
  tx := h'.tx.trans h.tx
  rx := h'.rx.trans h.rx
  ruHead := h'.ruHead.trans h.ruHead
  ring := ⟨h'.ring.1.trans h.ring.1, h'.ring.2.1.trans h.ring.2.1, h'.ring.2.2.1.trans h.ring.2.2.1,
    h'.ring.2.2.2.trans h.ring.2.2.2⟩
  write := h'.write.elim (fun hw => h.write.imp (hw.trans ·) (hw.trans ·)) .inr
  round := ⟨h'.round.1.trans h.round.1, h'.round.2.trans h.round.2⟩
  outside := h.outside.trans h'.outside
  choices := h'.choices.trans h.choices

/-- States that differ in the pool and the stations alone. -/
theorem WorkKeeps.of_tables {s t : State} (hhp : t.hp = s.hp) (hri : t.ri = s.ri) (hsc : t.sc = s.sc) (hls : t.ls = s.ls)
    (htx : t.tx = s.tx) (hrx : t.rx = s.rx) (hru : t.ru = s.ru) (hcu : t.cu = s.cu) (hout : OutsideKept s t)
    (hch : t.choices = s.choices) : WorkKeeps s t where
  hp := .of_hp_eq hhp
  bus b hb := ⟨b, hhp ▸ hb, rfl, rfl⟩
  riHead := by rw [hri]
  riTail := by rw [hri]
  loop := by rw [hls]
  elements := by rw [hls]
  loopTimers := by rw [hls]; exact ⟨rfl, rfl, rfl⟩
  tx := htx
  rx := hrx
  ruHead := by rw [hru]
  ring := by rw [hcu]; exact ⟨rfl, rfl, rfl, rfl⟩
  write := .inl (by rw [hcu])
  round := by rw [hsc]; exact ⟨rfl, rfl⟩
  outside := hout
  choices := hch

theorem workKeeps_putStation (a : Addr) (x : Station) (s : State) : WorkKeeps s (putStation a x s) :=
  .of_tables rfl rfl rfl rfl rfl rfl rfl rfl ⟨rfl, rfl, rfl, rfl⟩ rfl

theorem workKeeps_putEntry (p : PoolIx) (e : Option PoolEntry) (s : State) : WorkKeeps s (putEntry p e s) :=
  .of_tables rfl rfl rfl rfl rfl rfl rfl rfl ⟨rfl, rfl, rfl, rfl⟩ rfl

theorem workKeeps_modEntry (p : PoolIx) (f : PoolEntry → PoolEntry) (s : State) : WorkKeeps s (modEntry p f s) := by
  unfold modEntry
  split
  · exact workKeeps_putEntry ..
  · exact .refl s

theorem workKeeps_putList (l : ListId) (ps : List PoolIx) (s : State) : WorkKeeps s (putList l ps s) := by
  cases l <;> exact .of_tables rfl rfl rfl rfl rfl rfl rfl rfl ⟨rfl, rfl, rfl, rfl⟩ rfl

theorem workKeeps_requestAccess (x : Access) (s : State) : WorkKeeps s (requestAccess x s) :=
  { WorkKeeps.refl s with hp := rfl }

theorem workKeeps_startPayload (p : PoolIx) (s : State) : WorkKeeps s (startPayload p s) := by
  obtain h | ⟨e, -, h | h⟩ := startPayload_cases p s <;> rw [h]
  · exact .refl s
  · exact workKeeps_putEntry ..
  · exact (workKeeps_putEntry ..).trans (workKeeps_requestAccess ..)

theorem workKeeps_putHeadTimer (a : Addr) (t : Timer) (s : State) : WorkKeeps s (putHeadTimer a t s) :=
  { WorkKeeps.refl s with hp := rfl }

theorem workKeeps_becomeHead (l : ListId) (s : State) : WorkKeeps s (becomeHead l s) := by
  have harm : ∀ e, WorkKeeps s (armHeadTimer l e s) := fun e => by
    cases l with
    | control => exact .refl s
    | station a => exact workKeeps_putHeadTimer ..
  unfold becomeHead
  split
  · exact .refl s
  · split
    · exact (harm _).trans (workKeeps_startPayload ..)
    · exact (harm _).trans (workKeeps_modEntry ..)

theorem workKeeps_discardAccesses (p : PoolIx) (s : State) : WorkKeeps s (discardAccesses p s) :=
  { WorkKeeps.refl s with
    hp := rfl
    bus := fun b hb => by
      simp only [discardAccesses, Option.map_eq_some_iff] at hb
      obtain ⟨b', hb', rfl⟩ := hb
      refine ⟨b', hb', rfl, ?_⟩
      unfold discardedFor
      split <;> rfl }

theorem workKeeps_leaveList (l : ListId) (p : PoolIx) (s : State) : WorkKeeps s (leaveList l p s) := by
  cases l with
  | control => exact workKeeps_putList .control _ s
  | station a => exact (workKeeps_putList ..).trans (workKeeps_putHeadTimer ..)

theorem workKeeps_clearOutstanding (l : ListId) (p : PoolIx) (s : State) : WorkKeeps s (clearOutstanding l p s) := by
  cases l with
  | control => exact .refl s
  | station a =>
    simp only [clearOutstanding]
    split
    · exact workKeeps_putStation ..
    · exact .refl s

theorem workKeeps_finishRequest (p : PoolIx) (status : Status) (n m : Nat) (use : SlotUse) (s : State) :
    WorkKeeps s (finishRequest p status n m use s) := by
  unfold finishRequest
  split
  · exact .refl s
  · refine .trans ?_ (workKeeps_becomeHead ..)
    refine .trans ?_ (workKeeps_clearOutstanding ..)
    refine .trans ?_ (workKeeps_leaveList ..)
    refine .trans ?_ (workKeeps_putEntry ..)
    refine .trans ?_ (workKeeps_discardAccesses ..)
    exact { WorkKeeps.refl s with hp := rfl }

theorem Work.keeps {s t : State} (h : Work s t) : WorkKeeps s t := by
  cases h with
  | finish => exact workKeeps_finishRequest ..
  | request => exact workKeeps_putEntry ..
  | place => exact (workKeeps_putEntry ..).trans (workKeeps_putList ..)
  | station => exact workKeeps_putStation ..
  | roll => exact .of_tables rfl rfl rfl rfl rfl rfl rfl rfl ⟨rfl, rfl, rfl, rfl⟩ rfl
  | scheduler hround => exact { WorkKeeps.refl s with hp := rfl, round := hround }
  | completion _ hwrite hring => exact { WorkKeeps.refl s with hp := rfl, write := hwrite, ring := hring }
  | reports hhead => exact { WorkKeeps.refl s with hp := rfl, ruHead := hhead }
  | intake hhead => exact { WorkKeeps.refl s with hp := rfl, riHead := hhead.1, riTail := hhead.2 }
  | access => exact workKeeps_requestAccess ..
  | sweepSlot =>
    unfold takeSweepSlot
    split
    · exact .refl s
    · exact { WorkKeeps.refl s with hp := rfl, elements := by simp [*] }
  | delay => exact { WorkKeeps.refl s with hp := rfl }

theorem Works.keeps {s t : State} (h : Works s t) : WorkKeeps s t := by
  induction h with
  | refl => exact .refl s
  | tail _ hlast ih => exact ih.trans hlast.keeps

/-! ## What work keeps true -/

theorem Work.poolOk {s t : State} (h : Work s t) (hs : PoolOk s) : PoolOk t := by
  cases h with
  | finish => exact poolOk_finishRequest _ _ _ _ _ hs
  | request he hsame =>
    exact hs.congr (homeOf_putEntry_of_kept he hsame.1 hsame.2) (fun l => listOf_putEntry l _ _ s)
  | place hfree => exact poolOk_join hfree hs
  | station => exact hs.of_rp_eq rfl
  | roll => exact hs.of_rp_eq rfl
  | scheduler => exact hs.of_rp_eq rfl
  | completion => exact hs.of_rp_eq rfl
  | reports => exact hs.of_rp_eq rfl
  | intake => exact hs.of_rp_eq rfl
  | access => exact hs.of_rp_eq rfl
  | sweepSlot =>
    refine hs.of_rp_eq ?_
    unfold takeSweepSlot
    split <;> rfl
  | delay => exact hs.of_rp_eq rfl

theorem Works.poolOk {s t : State} (h : Works s t) (hs : PoolOk s) : PoolOk t := by
  induction h with
  | refl => exact hs
  | tail _ hlast ih => exact hlast.poolOk ih

/-- The notices of the holding queue are not touched by the end of a request. -/
theorem noticesOk_finishRequest (p : PoolIx) (status : Status) (n m : Nat) (use : SlotUse) {s : State} (hs : NoticesOk s) :
    NoticesOk (finishRequest p status n m use s) := by
  cases he : entry s p with
  | none => rwa [finishRequest_of_none he]
  | some e =>
    obtain ⟨hcu, -⟩ := finishRequest_resolves he status n m use
    intro k
    have hk : isNoticeOf k (doneRecord s e status n m) = false := rfl
    rw [hcu]
    simpa [hk] using hs k

theorem NoticesOk.of_queue_eq {s t : State} (hs : NoticesOk s) (h : t.cu.queue = s.cu.queue) : NoticesOk t := fun k => by
  rw [h]
  exact hs k

theorem Work.noticesOk {s t : State} (h : Work s t) (hs : NoticesOk s) : NoticesOk t := by
  cases h with
  | finish => exact noticesOk_finishRequest _ _ _ _ _ hs
  | completion hnotices => exact hnotices hs
  | place => exact hs.of_queue_eq (by rw [putList_cu, putEntry_cu])
  | sweepSlot =>
    refine hs.of_queue_eq ?_
    unfold takeSweepSlot
    split <;> rfl
  | request => exact hs.of_queue_eq rfl
  | station => exact hs.of_queue_eq rfl
  | roll => exact hs.of_queue_eq rfl
  | scheduler => exact hs.of_queue_eq rfl
  | reports => exact hs.of_queue_eq rfl
  | intake => exact hs.of_queue_eq rfl
  | access => exact hs.of_queue_eq rfl
  | delay => exact hs.of_queue_eq rfl

theorem Works.noticesOk {s t : State} (h : Works s t) (hs : NoticesOk s) : NoticesOk t := by
  induction h with
  | refl => exact hs
  | tail _ hlast ih => exact hlast.noticesOk ih

/-- What the ranges of the station table read: states that agree in it keep them (R25, R49, R59, R118). -/
theorem StationsOk.of_eq {s t : State} (hs : StationsOk s) (hst : t.st = s.st) (hturns : t.sc.turns = s.sc.turns)
    (hdelay : t.ls.rawDelay = s.ls.rawDelay) : StationsOk t := by
  unfold StationsOk at hs ⊢
  simpa only [station_congr hst, hst, hturns, hdelay] using hs

/-- A station's entry is replaced by one in range. -/
theorem stationsOk_putStation {a : Addr} {x : Station} {s : State} (hs : StationsOk s)
    (hposition : x.position = (station s a).position)
    (hweight : x.weight = (station s a).weight ∨ 1 ≤ x.weight ∧ x.weight ≤ 4)
    (hfailures : x.failures = (station s a).failures ∨ x.failures ≤ 15) : StationsOk (putStation a x s) := by
  obtain ⟨hw, hf, hp, hnd, hturns, hdelay⟩ := hs
  refine ⟨fun b => ?_, fun b => ?_, fun b => ?_, hnd, hturns, hdelay⟩ <;> rw [station_putStation] <;> split
  · exact hweight.elim (fun h => h ▸ hw a) id
  · exact hw b
  · exact hfailures.elim (fun h => h ▸ hf a) id
  · exact hf b
  · rename_i h
    rw [hposition, hp, h]
    rfl
  · exact hp b

theorem mem_firstShown {a : Addr} {xs : List Addr} (h : a ∈ firstShown xs) : a ∈ xs := by
  induction xs with
  | nil => exact h
  | cons x xs ih =>
    simp only [firstShown, List.mem_cons, List.mem_filter] at h ⊢
    exact h.imp id fun h => ih h.1

/-- No address stands twice in a loop map (R59). -/
theorem nodup_firstShown (xs : List Addr) : (firstShown xs).Nodup := by
  induction xs with
  | nil => exact .nil
  | cons x xs ih =>
    refine List.nodup_cons.mpr ⟨by simp, ih.filter _⟩

/-- A table reads at each index what its function says. -/
@[simp] theorem getElem_tabulate {α : Type} {n : Nat} (f : Fin n → α) (i : Fin n) : (tabulate f)[i] = f i := by
  simp [tabulate]

theorem station_rollTable (s : State) (roll : List (Addr × Bool)) (a : Addr) :
    station { s with st := rollTable s roll } a = stationAfterRoll s roll a := getElem_tabulate _ a

theorem stationsOk_roll (roll : List (Addr × Bool)) {s : State} (hs : StationsOk s) :
    StationsOk { s with st := rollTable s roll } := by
  obtain ⟨hw, hf, -, -, hturns, hdelay⟩ := hs
  refine ⟨fun a => ?_, fun a => ?_, fun a => ?_, nodup_firstShown _, hturns, hdelay⟩ <;> rw [station_rollTable]
  · exact hw a
  · simp only [stationAfterRoll]
    split
    · exact Nat.zero_le _
    · exact hf a
  · rfl

theorem stationsOk_finishRequest (p : PoolIx) (status : Status) (n m : Nat) (use : SlotUse) {s : State} (hs : StationsOk s) :
    StationsOk (finishRequest p status n m use s) := by
  cases he : entry s p with
  | none => rwa [finishRequest_of_none he]
  | some e =>
    obtain ⟨hw, hf, hp, hnd, hturns, hdelay⟩ := hs
    have hround := (workKeeps_finishRequest p status n m use s).round.2
    refine ⟨fun a => ?_, fun a => ?_, fun a => ?_, by rwa [loopMap_finishRequest], by rwa [hround], by
      rwa [finishRequest_ls]⟩ <;> rw [station_finishRequest he]
    · split <;> exact hw a
    · split <;> exact hf a
    · rw [loopMap_finishRequest]
      split <;> exact hp a

theorem Work.stationsOk {s t : State} (h : Work s t) (hs : StationsOk s) : StationsOk t := by
  cases h with
  | finish => exact stationsOk_finishRequest _ _ _ _ _ hs
  | station hposition hweight hfailures => exact stationsOk_putStation hs hposition hweight hfailures
  | roll => exact stationsOk_roll _ hs
  | scheduler hround => exact hs.of_eq rfl hround.2 rfl
  | delay hn =>
    obtain ⟨hw, hf, hp, hnd, hturns, hdelay⟩ := hs
    exact ⟨hw, hf, hp, hnd, hturns, hn.elim (fun h => h.trans hdelay) id⟩
  | place =>
    refine hs.of_eq ?_ ?_ ?_
    · rw [putList_st, putEntry_st]
    · rw [putList_sc, putEntry_sc]
    · rw [putList_ls, putEntry_ls]
  | sweepSlot =>
    unfold takeSweepSlot
    split <;> exact hs.of_eq rfl rfl rfl
  | request => exact hs.of_eq rfl rfl rfl
  | completion => exact hs.of_eq rfl rfl rfl
  | reports => exact hs.of_eq rfl rfl rfl
  | intake => exact hs.of_eq rfl rfl rfl
  | access => exact hs.of_eq rfl rfl rfl

theorem Works.stationsOk {s t : State} (h : Works s t) (hs : StationsOk s) : StationsOk t := by
  induction h with
  | refl => exact hs
  | tail _ hlast ih => exact hlast.stationsOk ih

end Sys2Proof.Machine

/-! ## What a command can do -/

namespace Sys2Proof.Machine

set_option Elab.async false

/-- The effect of command `c` on `s` is `u`: all that a command can do where its event occurs, before the requests of the step join
the list of accesses and the next access is begun. -/
inductive Effect : Instr → State → State → Prop
  /-- Work, which asks for no access in OFF and STARTING. -/
  | work {c : Instr} {s u : State} (hwork : Works s u) (hbus : ringsSet s.hp.engine = true ∨ u.hp = s.hp) : Effect c s u
  /-- A register error (R183). -/
  | error {c : Instr} {s : State} (e : RegisterError) : Effect c s (registerError e s)
  /-- CONFIG ADDRESS is taken (R181). -/
  | configAddress {c : Instr} {s : State} (value : HostWord) : Effect c s { s with hp := { s.hp with configAddress := value } }
  /-- REQUEST TAIL is taken (R137). -/
  | requestTail {c : Instr} {s u : State} {n : Nat} (hset : ringsSet s.hp.engine = true) (hn : n < (configured s).requestSize)
      (hwork : Works { s with ri := { s.ri with tail := n } } u) : Effect c s u
  /-- BUFFER TAIL is taken (R182). -/
  | bufferTail {c : Instr} {s u : State} {n : Nat} (hset : ringsSet s.hp.engine = true) (hn : n < (configured s).bufferSize)
      (hwork : Works { s with hp := { s.hp with bufferTail := n } } u) : Effect c s u
  /-- Entries of the completion ring are released (R168). -/
  | released {c : Instr} {s : State} {occupancy head : Nat} (hset : ringsSet s.hp.engine = true)
      (hoccupancy : occupancy ≤ s.cu.occupancy) (hhead : head = s.cu.head ∨ head < (configured s).completionSize) :
      Effect c s { s with cu := { s.cu with occupancy := occupancy, head := head } }
  /-- START is taken in OFF (R185). -/
  | started {s : State} (hoff : s.hp.engine = .off) : Effect .start s (startFromOff s)
  /-- START is taken in STOPPED (R190). -/
  | resumed {s : State} (hstopped : s.hp.engine = .stopped) : Effect .start s (startFromStopped s)
  /-- STOP is taken in RUNNING (R189). -/
  | stopped {c : Instr} {s : State} (hrunning : s.hp.engine = .running) : Effect c s (stopEngine s)
  /-- A controller reset (R192). -/
  | reset {c : Instr} {s : State} : Effect c s (controllerReset s)
  /-- Power-on reset begins (R193). -/
  | powerOnReset {c : Instr} {s : State} : Effect c s (powerOnReset s)
  /-- Power-on reset ends (R207). -/
  | powerOnResetEnds {c : Instr} {s : State} : Effect c s (powerOnResetEnds s)
  /-- The access on the bus ends without effect: its result is discarded, or no START waits for the configuration (R198). -/
  | ended {c : Instr} {s : State} {b : BusAccess} (hb : s.hp.bus = some b)
      (hnone : b.access.discarded = true ∨ s.hp.engine ≠ .starting) : Effect c s (freeBus s)
  /-- The configuration read delivers an accepted block (R188). -/
  | configured {octets : List Octet} {s : State} {b : BusAccess} {conf : Configuration} (hstarting : s.hp.engine = .starting)
      (hb : s.hp.bus = some b) (hwanted : isWantedConfiguration b.access = true) (hok : badConfigurationField conf = none) :
      Effect (.configurationReadComplete octets) s (passToRunning conf (freeBus s))
  /-- The configuration read faults, or delivers a block with a field that fails (R187). -/
  | startFailed {c : Instr} {s : State} {b : BusAccess} {code : FaultCode} {field : Nat} (hstarting : s.hp.engine = .starting)
      (hb : s.hp.bus = some b) (hwanted : isWantedConfiguration b.access = true) :
      Effect c s (startFailed code field (freeBus s))
  /-- The owner of an access that has ended works on (R196). -/
  | served {c : Instr} {s u : State} {b : BusAccess} (hb : s.hp.bus = some b) (hwanted : b.access.discarded = false)
      (hkind : b.access.kind ≠ .configuration) (hwork : Works (freeBus s) u) : Effect c s u
  /-- A descriptor joins the cache and the buffer ring head advances (R101). -/
  | descriptor {c : Instr} {s u : State} {b : BusAccess} {x : ReportUnit} (hb : s.hp.bus = some b)
      (hwanted : b.access.discarded = false) (hkind : b.access.kind ≠ .configuration)
      (hx : x.head = nextIndex s.ru.head (Machine.configured s).bufferSize) (hwork : Works { freeBus s with ru := x } u) :
      Effect c s u
  /-- The held record is disposed of and the intake head advances (R140). -/
  | disposed {c : Instr} {s v : State} (hrunning : s.hp.engine = .running) (hwork : Works s v) : Effect c s (disposeRecord v)
  /-- A ring access has faulted (R191). -/
  | faulted {c : Instr} {s v : State} {b : BusAccess} (code : FaultCode) (hb : s.hp.bus = some b)
      (hwanted : b.access.discarded = false) (hkind : b.access.kind ≠ .configuration) (hwork : Works (freeBus s) v) :
      Effect c s (enterFaulted code v)
  /-- A record write begins (R165). -/
  | posting {c : Instr} {s : State} (r : CompletionRecord) (hmay : mayPost s.hp.engine = true)
      (hroom : s.cu.occupancy < (Machine.configured s).completionSize) : Effect c s (beginPost r s)
  /-- The phase octet follows the body (R166). -/
  | phase {c : Instr} {s : State} (r : CompletionRecord) {b : BusAccess} (hb : s.hp.bus = some b)
      (hwanted : b.access.discarded = false) (hkind : b.access.kind ≠ .configuration)
      (hmay : mayBeginAccess s.hp.engine = true) (hwrite : s.cu.write = some .body) : Effect c s (beginPhaseWrite r (freeBus s))
  /-- A record is posted (R166). -/
  | posted {c : Instr} {s u : State} {b : BusAccess} {x : CompletionUnit} (hb : s.hp.bus = some b)
      (hwanted : b.access.discarded = false) (hkind : b.access.kind ≠ .configuration) (hwrite : s.cu.write = some .phase)
      (hring : x.write = none ∧ x.occupancy = s.cu.occupancy + 1 ∧
        x.tail = nextIndex s.cu.tail (Machine.configured s).completionSize ∧ x.head = s.cu.head)
      (hnotices : NoticesOk s → NoticesOk { freeBus s with cu := x }) (hwork : Works { freeBus s with cu := x } u) : Effect c s u
  /-- ELEMENT_BEGIN (R15). -/
  | begun {c : Instr} {s : State} : Effect c s (elementBegins s)
  /-- SEND_END (R34). -/
  | sent {c : Instr} {s : State} (x : Sending) (n : Nat) : Effect c s (elementEnds x n s)
  /-- A delivery is judged (R24, R36). -/
  | delivered {c : Instr} {s : State} (d : Delivery) (hnow : receiverDelivers s = true) : Effect c s (deliver d s)
  /-- The return limit or the probe timer has expired (R28, R35). -/
  | lost {c : Instr} {s : State} (timer : Option Nat) :
      Effect c s (loseTrack { s with ls := { s.ls with probeTimer := timer } })
  /-- The hold of BROKEN ends (R44). -/
  | probing {c : Instr} {s : State} (hrunning : s.hp.engine = .running) (hbroken : s.ls.state = .broken) :
      Effect c s (startProbing s)
  /-- An element is handed over at an opportunity (R119). -/
  | handedOver {c : Instr} {s v u : State} {e : TransitEntry} {run : List Symbol} (hopp : opportunity s = true)
      (hwork : Works s v) (hhp : v.hp = s.hp) (hwork' : u = handOver e run v) : Effect c s u
  /-- A station's head is handed over, and the round goes on (R127). -/
  | granted {c : Instr} {s v : State} {e : TransitEntry} {run : List Symbol} {a : Addr} {turns : Vector Nat 32}
      (hopp : opportunity s = true) (hwork : Works s v) (hhp : v.hp = s.hp)
      (hweight : turns[a] < (station s a).weight) (hturns : turns = s.sc.turns ∨ turns = noTurns)
      (u : State) (hu : u = handOver e run v ∨ u = s) : Effect c s (advanceRound a turns u)

/-- An effect that is the end of its step leaves the sequencer as it was, or its list empty. -/
def BusUntouched (s u : State) : Prop :=
  (u.hp.engine = s.hp.engine ∧ u.hp.bus = s.hp.bus ∧ u.hp.queue = s.hp.queue) ∨ u.hp.queue = []

theorem BusUntouched.of_hp_eq {s u : State} (h : u.hp = s.hp) : BusUntouched s u := .inl (by simp [h])

/-- Answer `x` of command `c` in state `s` is a next state: `s` itself, or an effect of the command, at whose end the requests of the
step join and the next access is begun where it touched the sequencer (R195). -/
def Passes (c : Instr) (s : State) (x : Answer) : Prop :=
  ∃ t, x = .next t ∧ (t = s ∨ ∃ u, Effect c s u ∧ (t = settleBus s.hp.queue.length u ∨ t = u ∧ BusUntouched s u))

theorem passes_next (c : Instr) (s : State) : Passes c s (.next s) := ⟨s, rfl, .inl rfl⟩

theorem passes_answer {c : Instr} {ok : Bool} {f : State → State} {s : State}
    (h : ok = true → Effect c s (f s) ∧ BusUntouched s (f s)) : Passes c s (answer ok f s) := by
  cases ok with
  | false => exact passes_next c s
  | true => exact ⟨f s, rfl, .inr ⟨f s, (h rfl).1, .inr ⟨rfl, (h rfl).2⟩⟩⟩

theorem passes_answerWithBus {c : Instr} {ok : Bool} {f : State → State} {s : State} (h : ok = true → Effect c s (f s)) :
    Passes c s (answerWithBus ok f s) := by
  cases ok with
  | false => exact passes_next c s
  | true => exact ⟨_, rfl, .inr ⟨f s, h rfl, .inl rfl⟩⟩

/-- Work with the engine RUNNING. -/
theorem effect_work_of_running {c : Instr} {s u : State} (hrunning : isRunning s = true) (hwork : Works s u) : Effect c s u := by
  refine .work hwork (.inl ?_)
  rw [isRunning, beq_iff_eq] at hrunning
  rw [hrunning]
  rfl

/-- Work that leaves the host port alone, at the end of its step. -/
theorem passes_of_works {c : Instr} {ok : Bool} {f : State → State} {s : State} (hwork : Works s (f s))
    (hhp : (f s).hp = s.hp) : Passes c s (answer ok f s) :=
  passes_answer fun _ => ⟨.work hwork (.inr hhp), .of_hp_eq hhp⟩

/-! ### CONTROL and the register writes -/

theorem passes_registerError {c : Instr} {ok : Bool} {s : State} (e : RegisterError) :
    Passes c s (answer ok (registerError e) s) := passes_answer fun _ => ⟨.error e, .inl ⟨rfl, rfl, rfl⟩⟩

theorem passes_start (s : State) : Passes .start s (execStart s) := by
  unfold execStart
  split
  · exact passes_answerWithBus fun _ => .started ‹_›
  · exact passes_answerWithBus fun _ => .resumed ‹_›
  all_goals exact passes_registerError _

theorem passes_stop (s : State) : Passes .stop s (execStop s) := by
  unfold execStop
  split
  · exact passes_answerWithBus fun _ => .stopped ‹_›
  all_goals exact passes_registerError _

theorem passes_configAddressWrite (v : HostWord) (s : State) :
    Passes (.configAddressWrite v) s (execConfigAddressWrite v s) := by
  refine passes_answer fun _ => ?_
  unfold configAddressWritten
  split
  · exact ⟨.error _, .inl ⟨rfl, rfl, rfl⟩⟩
  · split
    · exact ⟨.configAddress v, .inl ⟨rfl, rfl, rfl⟩⟩
    · exact ⟨.error _, .inl ⟨rfl, rfl, rfl⟩⟩

theorem passes_requestTailWrite (v : HostWord) (s : State) : Passes (.requestTailWrite v) s (execRequestTailWrite v s) := by
  refine passes_answerWithBus fun _ => ?_
  unfold requestTailWritten
  split
  · exact .error _
  · split
    · exact .error _
    · exact .requestTail (n := v.toNat) (by simpa using ‹¬(!ringsSet s.hp.engine) = true›) (by omega) (works_testRecordRead _)

theorem passes_bufferTailWrite (v : HostWord) (s : State) : Passes (.bufferTailWrite v) s (execBufferTailWrite v s) := by
  refine passes_answerWithBus fun _ => ?_
  unfold bufferTailWritten
  split
  · exact .error _
  · split
    · exact .error _
    · exact .bufferTail (n := v.toNat) (by simpa using ‹¬(!ringsSet s.hp.engine) = true›) (by omega)
        (works_testDescriptorRead _)

theorem passes_completionHeadWrite (v : HostWord) (s : State) :
    Passes (.completionHeadWrite v) s (execCompletionHeadWrite v s) := by
  refine passes_answer fun _ => ?_
  unfold completionHeadWritten
  split
  · exact ⟨.error _, .inl ⟨rfl, rfl, rfl⟩⟩
  · have hset : ringsSet s.hp.engine = true := by simpa using ‹¬(!ringsSet s.hp.engine) = true›
    split
    · exact ⟨.error _, .inl ⟨rfl, rfl, rfl⟩⟩
    · simp only [releaseEntries]
      split
      · split
        · exact ⟨.released hset (Nat.zero_le _) (.inl rfl), .inl ⟨rfl, rfl, rfl⟩⟩
        · exact ⟨.work .refl (.inr rfl), .inl ⟨rfl, rfl, rfl⟩⟩
      · split
        · exact ⟨.released hset (Nat.sub_le _ _) (.inr (by omega)), .inl ⟨rfl, rfl, rfl⟩⟩
        · exact ⟨.error _, .inl ⟨rfl, rfl, rfl⟩⟩

theorem passes_registerWrite (reg : Register) (bits : Nat) (s : State) :
    Passes (.registerWrite reg bits) s (execRegisterWrite reg bits s) := by
  unfold execRegisterWrite
  split <;> exact passes_registerError _

/-! ### The ends of accesses -/

theorem onBus_some {s : State} {isKind : AccessKind → Bool} {x : Access} (h : onBus s isKind = some x) :
    ∃ b, s.hp.bus = some b ∧ b.access = x ∧ isKind x.kind = true := by
  unfold onBus at h
  split at h
  · rename_i b hb
    split at h
    · exact ⟨b, hb, Option.some.inj h, Option.some.inj h ▸ ‹_›⟩
    · cases h
  · cases h

/-- The end of an access: what its owner does is an effect where its result is wanted. -/
theorem passes_accessEnds {c : Instr} {isKind : AccessKind → Bool} {owner : AccessKind → State → State} {s : State}
    (h : ∀ b, s.hp.bus = some b → b.access.discarded = false → isKind b.access.kind = true →
      Effect c s (owner b.access.kind (freeBus s))) : Passes c s (accessEnds isKind owner s) := by
  unfold accessEnds
  split
  · exact passes_next c s
  · obtain ⟨b, hb, rfl, hk⟩ := onBus_some ‹_›
    refine passes_answerWithBus fun _ => ?_
    cases hd : b.access.discarded with
    | true => exact .ended hb (.inl hd)
    | false => exact h b hb hd hk

theorem passes_readEnds {c : Instr} {isKind : AccessKind → Bool} {octets : List Octet} {owner : AccessKind → State → State}
    {s : State} (h : ∀ b, s.hp.bus = some b → b.access.discarded = false → isKind b.access.kind = true →
      Effect c s (owner b.access.kind (freeBus s))) : Passes c s (readEnds isKind octets owner s) := by
  unfold readEnds
  split
  · exact passes_next c s
  · obtain ⟨b, hb, rfl, hk⟩ := onBus_some ‹_›
    refine passes_answerWithBus fun _ => ?_
    cases hd : b.access.discarded with
    | true => exact .ended hb (.inl hd)
    | false => exact h b hb hd hk

/-- The fault of the access on the bus is an effect, whatever its kind (R196). -/
theorem effect_accessFaulted {c : Instr} {s : State} {b : BusAccess} (hb : s.hp.bus = some b)
    (hd : b.access.discarded = false) : Effect c s (accessFaulted b.access.kind (freeBus s)) := by
  cases hk : b.access.kind with
  | configuration =>
    simp only [accessFaulted]
    split
    · exact .startFailed ‹_› hb (by simp [isWantedConfiguration, hk, hd])
    · exact .ended hb (.inr ‹_›)
  | requestRecord => exact .faulted _ hb hd (by simp [hk]) (Work.works .intake)
  | descriptor => exact .faulted _ hb hd (by simp [hk]) (Work.works .reports)
  | payload p => exact .served hb hd (by simp [hk]) (works_payloadFaulted p _)
  | response p => exact .served hb hd (by simp [hk]) (works_responseLost p _)
  | report => exact .served hb hd (by simp [hk]) (works_reportWritten true _)
  | snapshot p => exact .served hb hd (by simp [hk]) (works_finishRequest ..)
  | recordBody => exact .faulted _ hb hd (by simp [hk]) (works_recordKept _)
  | recordPhase => exact .faulted _ hb hd (by simp [hk]) (works_recordKept _)

theorem passes_configurationReadComplete (octets : List Octet) (s : State) :
    Passes (.configurationReadComplete octets) s (execConfigurationReadComplete octets s) := by
  refine passes_readEnds fun b hb hd hk => ?_
  have hwanted : isWantedConfiguration b.access = true := by simpa [isWantedConfiguration, hd] using hk
  split
  · rename_i hstarting
    simp only [configurationDelivered]
    split
    · exact .startFailed hstarting hb hwanted
    · exact .configured hstarting hb hwanted ‹_›
  · exact .ended hb (.inr ‹_›)

theorem works_forEntry {f : PoolIx → State → State} (hf : ∀ p s, Works s (f p s)) (k : AccessKind) (s : State) :
    Works s (forEntry f k s) := by
  unfold forEntry
  split
  · exact hf ..
  · exact .refl

theorem effect_bodyWritten {c : Instr} {s : State} {b : BusAccess} (hb : s.hp.bus = some b) (hd : b.access.discarded = false)
    (hk : b.access.kind ≠ .configuration) : Effect c s (bodyWritten (freeBus s)) := by
  unfold bodyWritten
  split
  · split
    · exact .phase _ hb hd hk ‹_› ‹_›
    · exact .served hb hd hk (works_recordKept _)
  · exact .served hb hd hk .refl

theorem effect_phaseWritten {c : Instr} {s : State} {b : BusAccess} (hb : s.hp.bus = some b) (hd : b.access.discarded = false)
    (hk : b.access.kind ≠ .configuration) : Effect c s (phaseWritten (freeBus s)) := by
  unfold phaseWritten
  split
  · rename_i hwrite
    unfold recordPosted
    extract_lets size wraps src posted
    refine .posted (x := applyHeldRaises posted) hb hd hk hwrite ?_ ?_ ((works_answerHeldCallNow _).trans (works_setCause ..))
    · rw [applyHeldRaises_eq]
      exact ⟨rfl, rfl, rfl, rfl⟩
    · intro hn k
      rw [applyHeldRaises_eq]
      refine noticesOk_queueAfterRaises _ _ (fun k => ?_) k
      exact ((List.tail_sublist s.cu.queue).filter _).length_le.trans (hn k)
  · exact .served hb hd hk .refl

theorem passes_accessTimeout (s : State) : Passes .accessTimeout s (execAccessTimeout s) := by
  unfold execAccessTimeout
  split
  · exact passes_next _ s
  · rename_i b hb
    refine passes_answerWithBus fun _ => ?_
    cases hd : b.access.discarded with
    | true => exact .ended hb (.inl hd)
    | false => exact effect_accessFaulted hb hd

/-! ### Intake -/

theorem isRunning_iff (s : State) : isRunning s = true ↔ s.hp.engine = .running := by simp [isRunning]

theorem freeEntry_free {s : State} {named p : PoolIx} (h : freeEntry s named = some p) : entry s p = none := by
  unfold freeEntry at h
  split at h
  · exact Option.some.inj h ▸ ‹_›
  · simpa using List.find?_some h

/-- Marking requests leaves free entries free. -/
theorem entry_markCancelled_of_none {p : PoolIx} {s : State} (h : entry s p = none) (ps : List PoolIx) :
    entry (markCancelled ps s) p = none := by
  unfold markCancelled
  induction ps generalizing s with
  | nil => exact h
  | cons q ps ih =>
    refine ih ?_
    rw [entry_modEntry]
    split
    · rename_i hq
      rw [← hq, h]
      rfl
    · exact h

theorem effect_placeRecord {c : Instr} {p : PoolIx} {kind : RequestKind} {r : RequestRecord} {s : State}
    (hrunning : s.hp.engine = .running) (hfree : entry s p = none) : Effect c s (placeRecord p kind r s) := by
  unfold placeRecord
  extract_lets e
  split
  · rename_i a ha
    extract_lets marks
    refine .disposed hrunning ((works_markCancelled marks s).trans ?_)
    have hhome : ListId.station a = listFor e.kind e.address := by
      change ListId.station a = listFor .flush r.address
      simp [listFor, ha]
    rw [hhome]
    exact works_joinList (e := { e with cancelledCount := marks.length }) (entry_markCancelled_of_none hfree marks)
  · exact .disposed hrunning (works_joinList (e := e) hfree)

theorem passes_placement (named : PoolIx) (s : State) : Passes (.placement named) s (execPlacement named s) := by
  unfold execPlacement
  split
  · exact passes_answerWithBus fun hr => effect_placeRecord ((isRunning_iff s).mp hr) (freeEntry_free ‹_›)
  · exact passes_next _ s

theorem passes_refusal (s : State) : Passes .refusal s (execRefusal s) := by
  unfold execRefusal
  split
  · refine passes_answerWithBus fun hr => ?_
    rw [Bool.and_eq_true, isRunning_iff] at hr
    exact .disposed hr.1 (works_enterRecord rfl _ _)
  · exact passes_next _ s

/-! ### Deliveries and timers of the loop -/

theorem passes_delivery {c : Instr} (possible : Bool) (item : Item) (span : ReturnSpan) (s : State) :
    Passes c s (answerDelivery possible item span s) := by
  refine passes_answerWithBus fun h => .delivered _ ?_
  simp only [arrives, Bool.and_eq_true] at h
  exact h.2.1.1

@[simp] theorem settleWhenIdle_hp (s : State) : (settleWhenIdle s).hp = s.hp := by
  unfold settleWhenIdle
  split <;> rfl

@[simp] theorem elementEnds_hp (x : Sending) (n : Nat) (s : State) : (elementEnds x n s).hp = s.hp := by
  unfold elementEnds
  extract_lets isItsEntry probing tx ls s1
  split
  · exact settleWhenIdle_hp s1
  · rfl

theorem passes_sendEnd (n : Nat) (s : State) : Passes (.sendEnd n) s (execSendEnd n s) := by
  unfold execSendEnd
  split
  · exact passes_next _ s
  · exact passes_answer fun _ => ⟨.sent _ n, .of_hp_eq (elementEnds_hp ..)⟩

theorem passes_settleTimerExpiry (s : State) : Passes .settleTimerExpiry s (execSettleTimerExpiry s) := by
  refine passes_answer fun h => ?_
  simp only [Bool.and_eq_true, beq_iff_eq, isRunning_iff] at h
  exact ⟨.probing h.2 h.1.2, .of_hp_eq rfl⟩

/-! ### Hand-overs -/

theorem opportunity_of_and {s : State} {b : Bool} (h : (opportunity s && b) = true) : opportunity s = true :=
  (Bool.and_eq_true_iff.mp h).1

@[simp] theorem modControlHead_hp (f : PoolEntry → PoolEntry) (s : State) : (modControlHead f s).hp = s.hp := by
  unfold modControlHead
  split
  · exact modEntry_hp ..
  · rfl

/-- The CALL-NOW or SWEEP-NOW an element serves enters IN-TRANSIT. -/
theorem works_demand (demand : Bool) (s : State) : Works s (if demand then modControlHead entersTransit s else s) := by
  cases demand with
  | false => exact .refl
  | true => exact works_modControlHead s

theorem hp_demand (demand : Bool) (s : State) : (if demand then modControlHead entersTransit s else s).hp = s.hp := by
  cases demand with
  | false => rfl
  | true => exact modControlHead_hp ..

theorem passes_dueCall (s : State) : Passes .dueCall s (execDueCall s) := by
  unfold execDueCall
  split
  · rename_i demand _
    refine passes_answer fun h => ?_
    have hhp : (restartCallTimer (reserveSlots (if demand then 1 else 0) (if demand then modControlHead entersTransit s
        else s))).hp = s.hp := hp_demand demand s
    exact ⟨.handedOver h (((works_demand demand s).trans (works_reserveSlots ..)).trans (works_restartCallTimer _)) hhp rfl,
      .of_hp_eq hhp⟩
  · exact passes_next _ s

@[simp] theorem sweepDecided_hp (s : State) : (sweepDecided s).hp = s.hp := by
  simp only [sweepDecided]
  split
  · exact raiseNotice_hp ..
  · rfl

theorem passes_dueSweep (s : State) : Passes .dueSweep s (execDueSweep s) := by
  unfold execDueSweep
  split
  · rename_i demand budget _
    refine passes_answer fun h => ?_
    unfold sendSweep
    extract_lets slots acks s1 s2 reports s3
    have hhp : (sweepDecided s3).hp = s.hp := (sweepDecided_hp s3).trans (hp_demand demand s)
    have hwork : Works s s3 := (((works_demand demand s).trans (works_reserveSlots ..)).trans (works_mapAcks ..)).tail .reports
    exact ⟨.handedOver (opportunity_of_and h) (hwork.trans (works_sweepDecided s3)) hhp rfl, .of_hp_eq hhp⟩
  · exact passes_of_works (works_sweepDecided s) (sweepDecided_hp s)
  · exact passes_next _ s

theorem controlHeadReady_some {s : State} {kind : RequestKind} {p : PoolIx} {e : PoolEntry}
    (h : controlHeadReady s kind = some (p, e)) :
    headEntry s .control = some (p, e) ∧ e.kind = kind ∧ e.phase = .ready := by
  unfold controlHeadReady at h
  split at h
  · rename_i q x hq
    split at h
    · rename_i hx
      cases h
      exact ⟨hq, hx⟩
    · cases h
  · cases h

theorem groupPlan_some {s : State} {p : PoolIx} {e : PoolEntry} (h : groupPlan s = some (p, e)) :
    elementMayReserve s = true ∧ controlHeadReady s .groupPost = some (p, e) := by
  unfold groupPlan at h
  split at h
  · exact ⟨‹_›, h⟩
  · cases h

theorem passes_groupPost (s : State) : Passes .groupPost s (execGroupPost s) := by
  unfold execGroupPost
  split
  · refine passes_answer fun h => ?_
    simp only [Bool.and_eq_true] at h
    have he := (headEntry_some (controlHeadReady_some (groupPlan_some ‹_›).2).1).2
    unfold sendGroup
    extract_lets s1
    have hwork : Works s s1 := Work.works (.request he)
    exact ⟨.handedOver h.1.1 (hwork.trans (works_reserveSlots 1 s1)) (by rfl) rfl, .of_hp_eq rfl⟩
  · exact passes_next _ s

theorem passes_rest (s : State) : Passes .rest s (execRest s) := by
  unfold execRest
  split
  · refine passes_answer fun h => ?_
    simp only [Bool.and_eq_true] at h
    unfold sendRest
    split
    · exact ⟨.work .refl (.inr rfl), .of_hp_eq rfl⟩
    · exact ⟨.handedOver h.1.1.1 (Work.works (.request (headEntry_some ‹_›).2)) rfl rfl, .of_hp_eq rfl⟩
  · exact passes_next _ s

/-- A grant's station has turns left, under the turn counts it is granted with (R127). -/
theorem grantPlan_some {s : State} {a : Addr} {turns : Vector Nat 32} (h : grantPlan s = some (a, turns)) :
    elementMayReserve s = true ∧ eligible s a = true ∧ turns[a] < (station s a).weight ∧
      (turns = s.sc.turns ∨ turns = noTurns) := by
  unfold grantPlan at h
  split at h
  · have hscan : ∀ {t : Vector Nat 32} {b : Addr}, scanRound s t = some b → eligible s b = true ∧ t[b] < (station s b).weight :=
      fun hb => by simpa using List.find?_some hb
    split at h
    · cases h
      exact ⟨‹_›, (hscan ‹_›).1, (hscan ‹_›).2, .inl rfl⟩
    · obtain ⟨b, hb, hbt⟩ := Option.map_eq_some_iff.mp h
      cases hbt
      exact ⟨‹_›, (hscan hb).1, (hscan hb).2, .inr rfl⟩
  · cases h

theorem passes_stationGrant (s : State) : Passes .stationGrant s (execStationGrant s) := by
  unfold execStationGrant
  split
  · obtain ⟨-, -, hlt, hturns⟩ := grantPlan_some ‹_›
    refine passes_answer fun h => ?_
    simp only [Bool.and_eq_true] at h
    have hhp : ∀ u : State, u.hp = s.hp → BusUntouched s (advanceRound ‹_› ‹_› u) := fun u hu => .of_hp_eq hu
    unfold sendStationHead
    split
    · exact ⟨.granted h.1.1.1.1 .refl rfl hlt hturns s (.inr rfl) (e := bareEntry .probe) (run := []), hhp _ rfl⟩
    · extract_lets frame toggle run s1 now s2
      have hentry : Works s s1 := Work.works (.request (headEntry_some ‹_›).2)
      have hstation : Works s s2 := hentry.trans (works_putStation (by rfl) (by rfl) (.inl (by rfl)))
      exact ⟨.granted h.1.1.1.1 (hstation.trans (works_reserveSlots 1 _)) (by rfl) hlt hturns _ (.inl rfl), hhp _ rfl⟩
  · exact passes_next _ s

/-! ### Resolutions and take-ups -/

theorem isRunning_of_mayClaim {s : State} {l : ListId} (h : mayClaim s l = true) : isRunning s = true :=
  (Bool.and_eq_true_iff.mp h).1

theorem takeUpOf_some {s : State} {a : Addr} {kind : RequestKind} {p : PoolIx} {e : PoolEntry}
    (h : takeUpOf s a kind = some (p, e)) :
    stationResolution s a = some (p, e, .takeUp) ∧ e.kind = kind ∧ mayClaim s (.station a) = true := by
  unfold takeUpOf at h
  split at h
  · rename_i q x hq
    split at h
    · rename_i hx
      cases h
      exact ⟨hq, hx⟩
    · cases h
  · cases h

/-- A take-up through a claimed slot is work with the engine RUNNING. -/
theorem passes_takeUp {c : Instr} {s : State} {a : Addr} {kind : RequestKind} {f : PoolIx → PoolEntry → State → State}
    (hf : ∀ p e, Works s (f p e s)) :
    Passes c s (match takeUpOf s a kind with
      | some (p, e) => answerWithBus true (f p e) s
      | none => .next s) := by
  split
  · refine passes_answerWithBus fun _ => effect_work_of_running ?_ (hf _ _)
    exact isRunning_of_mayClaim (takeUpOf_some ‹_›).2.2
  · exact passes_next c s

theorem passes_resolution (l : ListId) (s : State) :
    Passes (.resolutionWithoutLoopTraffic l) s (execResolution l s) := by
  unfold execResolution
  split
  · split
    · refine passes_answerWithBus fun h => effect_work_of_running ?_ (works_finishRequest ..)
      exact isRunning_of_mayClaim (Bool.and_eq_true_iff.mp h).2
    · exact passes_next _ s
  · split
    · exact passes_next _ s
    · split
      · exact passes_next _ s
      · split
        · exact passes_answerWithBus fun h => effect_work_of_running h (works_finishRequest ..)
        · exact passes_answerWithBus fun h => effect_work_of_running (isRunning_of_mayClaim h) (works_finishRequest ..)

theorem passes_query (s : State) : Passes .query s (execQuery s) := by
  unfold execQuery
  split
  · refine passes_answerWithBus fun h => effect_work_of_running ?_ (works_queryTakenUp (headEntry_some ‹_›).2)
    exact isRunning_of_mayClaim (Bool.and_eq_true_iff.mp h).2
  · exact passes_next _ s

theorem passes_post (s : State) : Passes .post s (execPost s) := by
  unfold execPost
  split
  · refine passes_answerWithBus fun h => ?_
    simp only [Bool.and_eq_true, decide_eq_true_eq] at h
    exact .posting _ h.1.1 h.1.2
  · exact passes_next _ s

/-! ### The scheduler's timers -/

@[simp] theorem fetchDelayExpired_hp (p : PoolIx) (s : State) : (fetchDelayExpired p s).hp = s.hp := by
  unfold fetchDelayExpired
  split <;> exact modEntry_hp ..

@[simp] theorem actOnExpiry_hp (a : Addr) (s : State) : (actOnExpiry a s).hp = s.hp := by
  unfold actOnExpiry
  split
  · rfl
  · split <;> rfl

@[simp] theorem headDeadlineExpired_hp (a : Addr) (s : State) : (headDeadlineExpired a s).hp = s.hp := by
  simp only [headDeadlineExpired]
  split
  · exact actOnExpiry_hp ..
  · rfl

theorem passes_fetchDelayExpiry (p : PoolIx) (s : State) : Passes (.fetchDelayExpiry p) s (execFetchDelayExpiry p s) := by
  unfold execFetchDelayExpiry
  split
  · exact passes_of_works (works_fetchDelayExpired p s) (fetchDelayExpired_hp p s)
  · exact passes_next _ s

/-- Every command answers a next state, and what it does is one of the effects. -/
theorem exec_passes (c : Instr) (s : State) : Passes c s (exec c s) := by
  cases c
  case start => exact passes_start s
  case stop => exact passes_stop s
  case reset => exact passes_answer fun _ => ⟨.reset, .inr rfl⟩
  case badCommand => exact passes_registerError _
  case configAddressWrite v => exact passes_configAddressWrite v s
  case requestTailWrite v => exact passes_requestTailWrite v s
  case bufferTailWrite v => exact passes_bufferTailWrite v s
  case completionHeadWrite v => exact passes_completionHeadWrite v s
  case interruptAcknowledge =>
    unfold exec execInterruptAcknowledge
    exact passes_of_works works_completion_of_queue_eq rfl
  case interruptEnable =>
    unfold exec execInterruptEnable
    exact passes_of_works works_completion_of_queue_eq rfl
  case registerWrite reg bits => exact passes_registerWrite reg bits s
  case powerOnReset => exact passes_answer fun _ => ⟨.powerOnReset, .inr rfl⟩
  case powerOnResetEnd => exact passes_answer fun _ => ⟨.powerOnResetEnds, .inl ⟨rfl, rfl, rfl⟩⟩
  case configurationReadComplete octets => exact passes_configurationReadComplete octets s
  case configurationReadFault => exact passes_accessEnds fun b hb hd _ => effect_accessFaulted hb hd
  case requestRecordReadComplete octets =>
    unfold exec execRequestRecordReadComplete
    refine passes_readEnds fun b hb hd hk => ?_
    exact .served hb hd (fun h => by simp [h] at hk) (works_recordDelivered octets _)
  case requestRecordReadFault => exact passes_accessEnds fun b hb hd _ => effect_accessFaulted hb hd
  case placement named => exact passes_placement named s
  case refusal => exact passes_refusal s
  case descriptorReadComplete octets =>
    unfold exec execDescriptorReadComplete
    refine passes_readEnds fun b hb hd hk => ?_
    exact .descriptor hb hd (fun h => by simp [h] at hk) (by rfl) (works_testDescriptorRead _)
  case descriptorReadFault => exact passes_accessEnds fun b hb hd _ => effect_accessFaulted hb hd
  case payloadReadComplete octets =>
    refine passes_readEnds fun b hb hd hk => ?_
    exact .served hb hd (fun h => by simp [h, isPayload] at hk) (works_forEntry (works_payloadDelivered · octets) _ _)
  case payloadReadFault => exact passes_accessEnds fun b hb hd _ => effect_accessFaulted hb hd
  case responseWriteComplete =>
    refine passes_accessEnds fun b hb hd hk => ?_
    exact .served hb hd (fun h => by simp [h, isResponse] at hk) (works_forEntry works_responseWritten _ _)
  case responseWriteFault => exact passes_accessEnds fun b hb hd _ => effect_accessFaulted hb hd
  case reportWriteComplete =>
    unfold exec execReportWriteComplete
    refine passes_accessEnds fun b hb hd hk => ?_
    exact .served hb hd (fun h => by simp [h] at hk) (works_reportWritten false _)
  case reportWriteFault => exact passes_accessEnds fun b hb hd _ => effect_accessFaulted hb hd
  case snapshotWriteComplete =>
    refine passes_accessEnds fun b hb hd hk => ?_
    exact .served hb hd (fun h => by simp [h, isSnapshot] at hk) (works_forEntry (fun p => works_finishRequest p _ _ _ _) _ _)
  case snapshotWriteFault => exact passes_accessEnds fun b hb hd _ => effect_accessFaulted hb hd
  case post => exact passes_post s
  case recordWriteFirstPartComplete =>
    unfold exec execRecordWriteFirstPartComplete
    refine passes_accessEnds fun b hb hd hk => ?_
    exact effect_bodyWritten hb hd fun h => by simp [h] at hk
  case recordWriteSecondPartComplete =>
    unfold exec execRecordWriteSecondPartComplete
    refine passes_accessEnds fun b hb hd hk => ?_
    exact effect_phaseWritten hb hd fun h => by simp [h] at hk
  case recordWriteFault => exact passes_accessEnds fun b hb hd _ => effect_accessFaulted hb hd
  case accessTimeout => exact passes_accessTimeout s
  case elementBegin => exact passes_answer fun _ => ⟨.begun, .of_hp_eq rfl⟩
  case sendEnd n => exact passes_sendEnd n s
  case headFrameReturn => exact passes_delivery ..
  case responseReturn => exact passes_delivery ..
  case turnReturn => exact passes_delivery ..
  case reportReturn => exact passes_delivery ..
  case damagedFrame => exact passes_delivery ..
  case sweepMarkerReturn => exact passes_delivery ..
  case callMarkerReturn => exact passes_delivery ..
  case probeReturn => exact passes_delivery ..
  case damagedMarker => exact passes_delivery ..
  case returnLimitExpiry => exact passes_answerWithBus fun _ => .lost s.ls.probeTimer
  case probeTimerExpiry => exact passes_answerWithBus fun _ => .lost none
  case settleTimerExpiry => exact passes_settleTimerExpiry s
  case fetchDelayExpiry p => exact passes_fetchDelayExpiry p s
  case headDeadlineExpiry a => exact passes_of_works (works_headDeadlineExpired a s) (headDeadlineExpired_hp a s)
  case sweepTimerExpiry =>
    unfold exec execSweepTimerExpiry
    exact passes_of_works (Work.works .scheduler) rfl
  case callTimerExpiry =>
    unfold exec execCallTimerExpiry
    exact passes_of_works (Work.works .scheduler) rfl
  case dueCall => exact passes_dueCall s
  case dueSweep => exact passes_dueSweep s
  case groupPost => exact passes_groupPost s
  case rest => exact passes_rest s
  case stationGrant => exact passes_stationGrant s
  case resolutionWithoutLoopTraffic l => exact passes_resolution l s
  case admission a => exact passes_takeUp (f := fun p _ => admitStation a p) fun p _ => works_admitStation a p s
  case expel a => exact passes_takeUp (f := fun p _ => expelStation a p) fun p _ => works_expelStation a p s
  case setStation a => exact passes_takeUp (f := fun p e => setStationFields a p e) fun p e => works_setStationFields a p e s
  case flush a =>
    exact passes_takeUp (f := fun p e => finishRequest p .ok 0 e.cancelledCount .claimNow) fun _ _ => works_finishRequest ..
  case query => exact passes_query s

end Sys2Proof.Machine

namespace Sys2Proof.Machine

set_option Elab.async false

/-! ## The loop's operations: work, changes of the line, and the end of a drain -/

/-- One move of an operation of the loop: work, a change of line and loop sequencer, or the passage of the engine from STOPPING to
STOPPED. Outside RUNNING and PROBING a move hands no element over, and PROBING is entered in RUNNING alone (R26, R119). -/
inductive Motion : State → State → Prop
  /-- Work. -/
  | work {s t : State} (hwork : Works s t) : Motion s t
  /-- Loop sequencer, transmitter and receiver change. -/
  | line {s : State} {ls : LoopSequencer} {tx : Transmitter} {rx : Receiver}
      (hdelay : ls.rawDelay = s.ls.rawDelay ∨ ls.rawDelay ≤ 65535 := by exact .inl rfl)
      (hwaiting : (∀ x ∈ tx.waiting, x ∈ s.tx.waiting) ∨ s.ls.state = .probing ∨ s.hp.engine = .running := by
        exact .inl fun _ hx => hx)
      (hstate : ls.state = .probing → s.ls.state = .probing ∨ s.hp.engine = .running := by exact fun h => .inl h) :
      Motion s { s with ls := ls, tx := tx, rx := rx }
  /-- The engine passes from STOPPING to STOPPED (R189). -/
  | stopped {s : State} (hstopping : s.hp.engine = .stopping) :
      Motion s (setCause .engine { s with hp := { s.hp with engine := .stopped } })

/-- Moves one after another. -/
abbrev Motions : State → State → Prop := Relation.ReflTransGen Motion

theorem Motion.motions {s t : State} (h : Motion s t) : Motions s t := .single h

theorem motions_work {s t : State} (h : Works s t) : Motions s t := (Motion.work h).motions

/-! ### The loop -/

theorem motions_stopWhenQuiet (s : State) : Motions s (stopWhenQuiet s) := by
  unfold stopWhenQuiet
  split
  · exact Motion.motions (.stopped (‹_ ∧ _›).1)
  · exact .refl

theorem motions_enterQuiet (s : State) : Motions s (enterQuiet s) :=
  .trans (Motion.motions (.line (hstate := by exact nofun))) (motions_stopWhenQuiet _)

theorem motions_quietWhenDrained (s : State) : Motions s (quietWhenDrained s) := by
  unfold quietWhenDrained
  split
  · exact motions_enterQuiet s
  · exact .refl

theorem motions_startProbing {s : State} (hrunning : s.hp.engine = .running) : Motions s (startProbing s) :=
  Motion.motions (.line (hwaiting := .inr (.inr hrunning)) (hstate := fun _ => .inr hrunning))

theorem motions_settleWhenIdle (s : State) : Motions s (settleWhenIdle s) := by
  unfold settleWhenIdle
  split
  · exact (Motion.line).motions
  · exact .refl

theorem motions_enterBroken (s : State) : Motions s (enterBroken s) := by
  unfold enterBroken
  extract_lets ls s1
  have hbreak : Motions s s1 := Motion.motions (.line (hstate := by exact nofun))
  exact ((hbreak.trans (motions_work (works_resolveAll ..))).trans (motions_work (works_raiseNotice ..))).trans
    (motions_settleWhenIdle _)

theorem motions_abandonDrain (s : State) : Motions s (abandonDrain s) := by
  have hgone : Motions s { s with ls := { s.ls with transit := [] } } := (Motion.line).motions
  exact (hgone.trans (motions_work (works_resolveAll ..))).trans (motions_enterQuiet _)

theorem motions_loseTrack (s : State) : Motions s (loseTrack s) := by
  unfold loseTrack
  split
  any_goals exact motions_enterBroken s
  · exact motions_abandonDrain s
  all_goals exact .refl

theorem motions_drainLoop (s : State) : Motions s (drainLoop s) := by
  unfold drainLoop
  split
  any_goals
    split
    · exact motions_enterQuiet s
    · exact Motion.motions (.line (hstate := by exact nofun))
  · exact motions_enterQuiet s
  all_goals exact motions_stopWhenQuiet s

theorem works_dropAll (xs : List Access) (s : State) : Works s (xs.foldl (fun x a => ownerOfDropped a x) s) :=
  works_foldl (fun s x => works_ownerOfDropped x s) xs s

/-! ### Deliveries -/

theorem measuredDelay_le (e : TransitEntry) (n : Nat) : measuredDelay e n ≤ 65535 := by
  unfold measuredDelay
  split
  · exact Nat.min_le_left ..
  · exact Nat.zero_le _

theorem motions_popOldest (s : State) : Motions s (popOldest s) := (Motion.line).motions

theorem motions_probeMeasured (e : TransitEntry) (n : Nat) (s : State) : Motions s (probeMeasured e n s) :=
  Motion.motions (.line (hdelay := .inr (measuredDelay_le e n)))

theorem motions_startCalling {s : State} (hprobing : s.ls.state = .probing) : Motions s (startCalling s) :=
  .trans (motions_work (works_restartCallTimer s)) (Motion.motions (.line (hwaiting := .inr (.inl hprobing)) (hstate := by exact nofun)))

theorem motions_deliverProbing (d : Delivery) {s : State} (hprobing : s.ls.state = .probing) : Motions s (deliverProbing d s) := by
  unfold deliverProbing
  split
  · split
    · exact (motions_probeMeasured ..).trans (motions_startCalling hprobing)
    · exact motions_enterBroken s
  · exact motions_enterBroken s

theorem motions_headFrameMatched (e : TransitEntry) (o : LastOutcome) (copies : Nat) (s : State) :
    Motions s (headFrameMatched e o copies s) := by
  unfold headFrameMatched
  split
  · refine .trans (b := advanceOldest s) ?_ (motions_work (works_withRequest (fun p s => works_writeOutcome p o s) e _))
    unfold advanceOldest
    split
    · exact .refl
    · exact (Motion.line).motions
  · exact (motions_popOldest s).trans (motions_work (works_withStationRequest (fun a p s => works_postReturned a p o s) e _))
  · exact (motions_popOldest s).trans (motions_work (works_withRequest (fun p s => works_groupReturned p o copies s) e _))
  · exact (motions_popOldest s).trans (motions_work (works_withRequest (fun p s => works_restReturned p o s) e _))
  all_goals exact .refl

/-- A discarded CALL: its entry leaves, and the rest is work (R40, R122). -/
theorem works_discardCall (e : TransitEntry) (s : State) : Works (popOldest s) (discardCall e s) := by
  unfold discardCall
  extract_lets s1 sc s2
  have hdue : Works s1 s2 := Work.works .scheduler
  refine .trans (b := s2) hdue ?_
  split
  · split
    · split
      · exact (Work.works (.request (headEntry_some ‹_›).2)).trans (works_giveBackSlots ..)
      · exact works_giveBackSlots ..
    · exact works_giveBackSlots ..
  · exact .refl

/-- An accepted roll call: the CALL's entry leaves, and the rest is work (R57, R123). -/
theorem works_callReturned (e : TransitEntry) (entries : List CallEntry) (s : State) :
    Works (popOldest s) (callReturned e entries s) := by
  unfold callReturned
  split
  · exact works_discardCall e s
  · extract_lets s1
    have hroll : Works (popOldest s) s1 := (works_reconcile ..).trans (works_addJoins ..)
    split
    · exact hroll.trans (works_answerCallNow ..)
    · exact hroll

theorem motions_callingReturned (entries : List CallEntry) (s : State) : Motions s (callingReturned entries s) := by
  unfold callingReturned
  split
  · exact motions_enterBroken s
  · extract_lets s1
    have hroll : Works (popOldest s) s1 := (works_reconcile ..).trans (works_addJoins ..)
    refine ((motions_popOldest s).trans (motions_work hroll)).trans (.trans ?_ (motions_work (works_raiseNotice ..)))
    exact Motion.motions (.line (hstate := by exact nofun))

theorem works_sweepReturned (e : TransitEntry) (acks : List AckPair) (s : State) : Works s (sweepReturned e acks s) := by
  unfold sweepReturned
  exact works_endSweep ..

theorem motions_applyFit (e : TransitEntry) (fit : Fit) (s : State) : Motions s (applyFit e fit s) := by
  unfold applyFit
  split
  · exact motions_headFrameMatched ..
  · exact (motions_popOldest s).trans (motions_work (works_withStationRequest (fun a p s => works_turnReturned a p _ s) e _))
  · exact motions_work (works_reportReturned ..)
  · exact motions_work (works_countReportItem s)
  · exact (motions_popOldest s).trans (motions_work (works_sweepReturned ..))
  · exact (motions_popOldest s).trans (motions_work (works_endSweep ..))
  · split
    · exact motions_callingReturned ..
    · exact (motions_popOldest s).trans (motions_work (works_callReturned ..))
  · split
    · exact motions_enterBroken s
    · exact (motions_popOldest s).trans (motions_work (works_discardCall ..))
  · exact motions_probeMeasured ..

theorem motions_deliver (d : Delivery) (s : State) : Motions s (deliver d s) := by
  have hin : Motions s (deliverInTransit d s) := by
    unfold deliverInTransit
    split
    · exact motions_loseTrack s
    · split
      · exact motions_loseTrack s
      · exact (motions_applyFit ..).trans (motions_quietWhenDrained _)
  unfold deliver
  split
  any_goals exact .refl
  any_goals exact hin
  exact motions_deliverProbing d ‹_›

theorem motions_elementEnds (x : Sending) (n : Nat) (s : State) : Motions s (elementEnds x n s) := by
  unfold elementEnds
  extract_lets isItsEntry probing tx ls s1
  have hends : Motions s s1 := (Motion.line).motions
  split
  · exact hends.trans (motions_settleWhenIdle s1)
  · exact hends

/-! ## The tables: pool, notices, stations, and what lies outside the units -/

/-- The invariants of pool, notices and stations pass from `s` to `t`, and what is outside the units is as before. -/
structure TablesKept (s t : State) : Prop where
  pool : PoolOk s → PoolOk t
  notices : NoticesOk s → NoticesOk t
  stations : StationsOk s → StationsOk t
  outside : OutsideKept s t

theorem TablesKept.refl (s : State) : TablesKept s s := ⟨id, id, id, .refl s⟩

theorem TablesKept.trans {s t u : State} (h : TablesKept s t) (h' : TablesKept t u) : TablesKept s u :=
  ⟨h'.pool ∘ h.pool, h'.notices ∘ h.notices, h'.stations ∘ h.stations, h.outside.trans h'.outside⟩

theorem Works.tablesKept {s t : State} (h : Works s t) : TablesKept s t :=
  ⟨h.poolOk, h.noticesOk, h.stationsOk, h.keeps.outside⟩

/-- States that agree in pool, holding queue, stations and turn counts; the raw loop delay may be measured anew (R27). -/
theorem tablesKept_of_eq {s t : State} (hrp : t.rp = s.rp := by rfl) (hqueue : t.cu.queue = s.cu.queue := by rfl)
    (hst : t.st = s.st := by rfl) (hturns : t.sc.turns = s.sc.turns := by rfl)
    (hdelay : t.ls.rawDelay = s.ls.rawDelay ∨ t.ls.rawDelay ≤ 65535 := by exact .inl rfl)
    (hout : OutsideKept s t := by exact ⟨rfl, rfl, rfl, rfl⟩) : TablesKept s t where
  pool h := h.of_rp_eq hrp
  notices h := h.of_queue_eq hqueue
  stations h := by
    obtain ⟨hw, hf, hp, hnd, ht, hd⟩ := h
    simp only [← station_congr hst, ← hst, ← hturns] at hw hf hp hnd ht
    exact ⟨hw, hf, hp, hnd, ht, hdelay.elim (fun h => h ▸ hd) id⟩
  outside := hout

theorem entry_reset (p : PoolIx) : entry State.reset p = none := by
  simp [entry, State.reset]

theorem listOf_reset (l : ListId) : listOf State.reset l = [] := by
  cases l <;> simp [listOf, State.reset]

theorem station_reset (a : Addr) : station State.reset a = Station.afterReset := by
  simp [station, State.reset]

theorem poolOk_reset : PoolOk State.reset := by
  simp [PoolOk, entry_reset, listOf_reset]

theorem noticesOk_reset : NoticesOk State.reset := fun _ => Nat.zero_le _

theorem stationsOk_reset : StationsOk State.reset := by
  simp only [StationsOk, station_reset]
  simp [Station.afterReset, State.reset]

/-- A reset leaves the tables at their reset values. -/
theorem tablesKept_of_reset {s t : State} (hrp : t.rp = State.reset.rp := by rfl) (hcu : t.cu = State.reset.cu := by rfl)
    (hst : t.st = State.reset.st := by rfl) (hsc : t.sc = State.reset.sc := by rfl) (hls : t.ls = State.reset.ls := by rfl)
    (hout : OutsideKept s t := by exact ⟨rfl, rfl, rfl, rfl⟩) : TablesKept s t where
  pool _ := poolOk_reset.of_rp_eq hrp
  notices _ := noticesOk_reset.of_queue_eq (by rw [hcu])
  stations _ := stationsOk_reset.of_eq hst (by rw [hsc]) (by rw [hls])
  outside := hout

/-! ## The tables through the loop's operations -/

theorem Motion.tablesKept {s t : State} (h : Motion s t) : TablesKept s t := by
  cases h with
  | work hwork => exact hwork.tablesKept
  | line hdelay => exact tablesKept_of_eq (hdelay := hdelay)
  | stopped => exact tablesKept_of_eq

theorem Motions.tablesKept {s t : State} (h : Motions s t) : TablesKept s t := by
  induction h with
  | refl => exact .refl _
  | tail _ hlast ih => exact ih.trans hlast.tablesKept

/-! ### Every command -/

theorem tablesKept_drainLoop (s : State) : TablesKept s (drainLoop s) := (motions_drainLoop s).tablesKept

theorem tablesKept_stopEngine (s : State) : TablesKept s (stopEngine s) :=
  .trans tablesKept_of_eq (tablesKept_drainLoop _)

theorem tablesKept_enterFaulted (code : FaultCode) (s : State) : TablesKept s (enterFaulted code s) := by
  unfold enterFaulted
  extract_lets dropped hp s1
  have hfault : TablesKept s s1 := tablesKept_of_eq
  exact ((hfault.trans (works_dropAll dropped s1).tablesKept).trans (works_stopIntervalTimers _).tablesKept).trans
    (tablesKept_drainLoop _)

theorem tablesKept_startProbing (s : State) : TablesKept s (startProbing s) := tablesKept_of_eq

/-- What is asked and acted on as the engine enters RUNNING from STOPPED (R190). -/
theorem works_resume (s : State) :
    Works s (testDescriptorRead (testRecordRead (resumeControl (allStations.foldl resumeHead
      ((List.finRange 64).foldl (fun x p => releaseHeldFetch p x) s))))) :=
  ((((works_foldl (fun s p => works_releaseHeldFetch p s) _ s).trans (works_foldl works_resumeHead _ _)).trans
    (works_resumeControl _)).trans (works_testRecordRead _)).trans (works_testDescriptorRead _)

theorem tablesKept_startFromStopped (s : State) : TablesKept s (startFromStopped s) := by
  unfold startFromStopped
  extract_lets hp s1 s2 s3
  have hrun : TablesKept s { s with hp := { s.hp with engine := .running } } := tablesKept_of_eq
  have hsweep : TablesKept s s1 := hrun.trans (works_startSweepTimer _).tablesKept
  exact (hsweep.trans (works_resume s1).tablesKept).trans (tablesKept_startProbing _)

theorem tablesKept_passToRunning (conf : Configuration) (s : State) : TablesKept s (passToRunning conf s) := by
  unfold passToRunning
  extract_lets hp ri ru cu s1
  have htaken : TablesKept s s1 := tablesKept_of_eq
  exact (htaken.trans (works_startSweepTimer s1).tablesKept).trans (tablesKept_startProbing _)

/-- A grant keeps the turn counts in range: it is made to a station whose count is below its weight (R127). -/
theorem tablesKept_advanceRound {s v : State} {a : Addr} {turns : Vector Nat 32} (h : TablesKept s v)
    (hweight : turns[a] < (station s a).weight) (hturns : turns = s.sc.turns ∨ turns = noTurns) :
    TablesKept s (advanceRound a turns v) where
  pool hs := (h.pool hs).of_rp_eq rfl
  notices hs := (h.notices hs).of_queue_eq rfl
  outside := h.outside
  stations hs := by
    have hcount : ∀ b : Addr, turns[b] ≤ 4 := by
      rcases hturns with rfl | rfl
      · exact hs.2.2.2.2.1
      · simp [noTurns]
    have hlt : turns[a] < 4 := hweight.trans_le (hs.1 a).2
    obtain ⟨hw, hf, hp, hnd, -, hd⟩ := h.stations hs
    refine ⟨hw, hf, hp, hnd, fun b => ?_, hd⟩
    simp only [advanceRound, Fin.getElem_fin, Vector.getElem_set]
    split
    · exact hlt
    · exact hcount b

theorem tablesKept_handOver (e : TransitEntry) (run : List Symbol) (s : State) : TablesKept s (handOver e run s) :=
  tablesKept_of_eq

theorem Effect.tablesKept {c : Instr} {s t : State} (h : Effect c s t) : TablesKept s t := by
  cases h with
  | work hwork => exact hwork.tablesKept
  | error => exact tablesKept_of_eq
  | configAddress => exact tablesKept_of_eq
  | requestTail _ _ hwork => exact .trans tablesKept_of_eq hwork.tablesKept
  | bufferTail _ _ hwork => exact .trans tablesKept_of_eq hwork.tablesKept
  | released => exact tablesKept_of_eq
  | started => exact tablesKept_of_eq
  | resumed => exact tablesKept_startFromStopped s
  | stopped => exact tablesKept_stopEngine s
  | reset => exact tablesKept_of_reset
  | powerOnReset => exact tablesKept_of_reset
  | powerOnResetEnds => exact tablesKept_of_eq
  | ended => exact tablesKept_of_eq
  | configured => exact .trans tablesKept_of_eq (tablesKept_passToRunning _ (freeBus s))
  | startFailed => exact tablesKept_of_eq
  | served _ _ _ hwork => exact .trans tablesKept_of_eq hwork.tablesKept
  | descriptor _ _ _ _ hwork => exact .trans tablesKept_of_eq hwork.tablesKept
  | disposed _ hwork => exact hwork.tablesKept.trans (.trans tablesKept_of_eq (works_testRecordRead _).tablesKept)
  | faulted _ _ _ _ hwork => exact (TablesKept.trans tablesKept_of_eq hwork.tablesKept).trans (tablesKept_enterFaulted ..)
  | posting => exact tablesKept_of_eq
  | phase => exact tablesKept_of_eq
  | posted _ _ _ _ _ hnotices hwork =>
    exact .trans (t := { freeBus s with cu := _ })
      ⟨fun h => h.of_rp_eq rfl, hnotices, fun h => h.of_eq rfl rfl rfl, ⟨rfl, rfl, rfl, rfl⟩⟩ hwork.tablesKept
  | begun => exact tablesKept_of_eq
  | sent => exact (motions_elementEnds ..).tablesKept
  | delivered => exact (motions_deliver ..).tablesKept
  | lost => exact .trans tablesKept_of_eq (motions_loseTrack _).tablesKept
  | probing => exact tablesKept_startProbing s
  | handedOver _ hwork _ hu => exact hu ▸ hwork.tablesKept.trans (tablesKept_handOver ..)
  | granted _ hwork _ hweight hturns u hu =>
    refine tablesKept_advanceRound ?_ hweight hturns
    rcases hu with rfl | rfl
    · exact hwork.tablesKept.trans (tablesKept_handOver ..)
    · exact .refl _

theorem tablesKept_settleBus (n : Nat) (s : State) : TablesKept s (settleBus n s) := by
  unfold settleBus beginAccess
  split
  · split <;> exact tablesKept_of_eq
  · exact tablesKept_of_eq

/-- A command that answers `t` keeps what every effect keeps, and what the end of a step keeps. -/
theorem exec_keeps {P : State → State → Prop} (hrefl : ∀ s, P s s) (hsettle : ∀ s u n, P s u → P s (settleBus n u))
    {c : Instr} {s t : State} (heffect : ∀ u, Effect c s u → P s u) (h : exec c s = .next t) : P s t := by
  obtain ⟨t', ht, hcases⟩ := exec_passes c s
  obtain rfl : t' = t := Host.Outcome.next.inj (ht.symm.trans h)
  obtain rfl | ⟨u, hu, rfl | ⟨rfl, -⟩⟩ := hcases
  · exact hrefl _
  · exact hsettle s u _ (heffect u hu)
  · exact heffect _ hu

theorem tablesKept_exec {c : Instr} {s t : State} (h : exec c s = .next t) : TablesKept s t :=
  exec_keeps .refl (fun _ _ _ hu => hu.trans (tablesKept_settleBus ..)) (fun _ hu => hu.tablesKept) h

/-- An octet time changes line, clock, pins and the queue of commands. -/
theorem tick_keeps (s : State) :
    (tick s).ri = s.ri ∧ (tick s).rp = s.rp ∧ (tick s).st = s.st ∧ (tick s).sc = s.sc ∧ (tick s).ls = s.ls ∧
    (tick s).ru = s.ru ∧ (tick s).cu = s.cu ∧
    (tick s).hp = { s.hp with pins := (tick s).hp.pins, resetHold := (tick s).hp.resetHold } ∧
    (tick s).choices = s.choices := by
  unfold tick takeInput sendSymbol idleSymbol
  split <;> split <;> (try split) <;> (try split) <;> exact ⟨rfl, rfl, rfl, rfl, rfl, rfl, rfl, rfl, rfl⟩

/-- A step is an octet time, or a command on the queue's rest. -/
theorem step_cases {s t : State} (h : step s = .next t) :
    t = tick s ∨ ∃ c rest, exec c { s with pending := rest } = .next t := by
  unfold step at h
  split at h
  · exact .inl (Host.Outcome.next.inj h).symm
  · exact .inr ⟨_, _, h⟩

end Sys2Proof.Machine

section

set_option Elab.async false

open Sys2Proof.Machine

/-- Settles O3: each command's answer is one of the effects, and each effect keeps what is outside the units. -/
theorem commandsLeaveTheQueueAlone : Obligations.CommandsLeaveTheQueueAlone := by
  unfold Obligations.CommandsLeaveTheQueueAlone
  intro c s
  obtain ⟨t, ht, -⟩ := exec_passes c s
  obtain ⟨hclock, hline, hpins, hpending⟩ := (tablesKept_exec ht).outside
  exact ⟨t, ht, hpending, hline, hpins, hclock⟩

/-- Settles O8: pool and lists are touched by work alone. -/
theorem stepKeepsPool : Obligations.StepKeepsPool := by
  unfold Obligations.StepKeepsPool
  intro s t hs h
  obtain rfl | ⟨c, rest, hc⟩ := step_cases h
  · obtain ⟨-, hrp, -⟩ := tick_keeps s
    exact hs.of_rp_eq hrp
  · exact (tablesKept_exec hc).pool (hs.of_rp_eq rfl)

/-- Settles O9: stations change within their ranges, by work, by a measured delay, and by a grant below a station's weight. -/
theorem stepKeepsStations : Obligations.StepKeepsStations := by
  unfold Obligations.StepKeepsStations
  intro s t hs h
  obtain rfl | ⟨c, rest, hc⟩ := step_cases h
  · obtain ⟨-, -, hst, hsc, hls, -⟩ := tick_keeps s
    exact hs.of_eq hst (by rw [hsc]) (by rw [hls])
  · exact (tablesKept_exec hc).stations (hs.of_eq rfl rfl rfl)

end

/-! ## The host's side: engine, sequencer and rings -/

namespace Sys2Proof.Machine

set_option Elab.async false

/-- What work and the loop's operations leave of the host's side: the engine, unless a drain ends, the configuration, the access on
the bus, and the rings. -/
structure HostSideKept (s t : State) : Prop where
  engine : t.hp.engine = s.hp.engine ∨ s.hp.engine = .stopping ∧ t.hp.engine = .stopped
  config : t.hp.config = s.hp.config
  bufferTail : t.hp.bufferTail = s.hp.bufferTail
  bus : ∀ b, t.hp.bus = some b → ∃ b', s.hp.bus = some b' ∧ b'.begunAt = b.begunAt ∧ b'.access.kind = b.access.kind
  riHead : t.ri.head = s.ri.head
  riTail : t.ri.tail = s.ri.tail
  ruHead : t.ru.head = s.ru.head
  ring : t.cu.tail = s.cu.tail ∧ t.cu.phase = s.cu.phase ∧ t.cu.occupancy = s.cu.occupancy ∧ t.cu.head = s.cu.head
  write : t.cu.write = s.cu.write ∨ t.cu.write = none

theorem HostSideKept.refl (s : State) : HostSideKept s s :=
  ⟨.inl rfl, rfl, rfl, fun b hb => ⟨b, hb, rfl, rfl⟩, rfl, rfl, rfl, ⟨rfl, rfl, rfl, rfl⟩, .inl rfl⟩

theorem HostSideKept.trans {s t u : State} (h : HostSideKept s t) (h' : HostSideKept t u) : HostSideKept s u where
  engine := by
    rcases h.engine with he | ⟨hs, ht⟩
    · rw [← he]
      exact h'.engine
    · rcases h'.engine with he' | ⟨ht', -⟩
      · exact .inr ⟨hs, he'.trans ht⟩
      · rw [ht] at ht'
        cases ht'
  config := h'.config.trans h.config
  bufferTail := h'.bufferTail.trans h.bufferTail
  bus b hb := by
    obtain ⟨b1, hb1, hat1, hk1⟩ := h'.bus b hb
    obtain ⟨b2, hb2, hat2, hk2⟩ := h.bus b1 hb1
    exact ⟨b2, hb2, hat2.trans hat1, hk2.trans hk1⟩
  riHead := h'.riHead.trans h.riHead
  riTail := h'.riTail.trans h.riTail
  ruHead := h'.ruHead.trans h.ruHead
  ring := ⟨h'.ring.1.trans h.ring.1, h'.ring.2.1.trans h.ring.2.1, h'.ring.2.2.1.trans h.ring.2.2.1,
    h'.ring.2.2.2.trans h.ring.2.2.2⟩
  write := h'.write.elim (fun hw => h.write.imp (hw.trans ·) (hw.trans ·)) .inr

theorem HostKept.config_eq {s t : State} (h : HostKept s t) : t.hp.config = s.hp.config := by rw [h]

theorem HostKept.bufferTail_eq {s t : State} (h : HostKept s t) : t.hp.bufferTail = s.hp.bufferTail := by rw [h]

theorem Works.hostSideKept {s t : State} (h : Works s t) : HostSideKept s t where
  engine := .inl h.keeps.hp.engine_eq
  config := h.keeps.hp.config_eq
  bufferTail := h.keeps.hp.bufferTail_eq
  bus := h.keeps.bus
  riHead := h.keeps.riHead
  riTail := h.keeps.riTail
  ruHead := h.keeps.ruHead
  ring := h.keeps.ring
  write := h.keeps.write

theorem Motion.hostSideKept {s t : State} (h : Motion s t) : HostSideKept s t := by
  cases h with
  | work hwork => exact hwork.hostSideKept
  | line => exact { HostSideKept.refl s with }
  | stopped hstopping => exact { HostSideKept.refl s with engine := .inr ⟨hstopping, rfl⟩ }

theorem Motions.hostSideKept {s t : State} (h : Motions s t) : HostSideKept s t := by
  induction h with
  | refl => exact .refl _
  | tail _ hlast ih => exact ih.trans hlast.hostSideKept

theorem hostSideKept_freeBus (s : State) : HostSideKept s (freeBus s) := { HostSideKept.refl s with bus := nofun }

/-! ### What begins an access, and what hands an element over -/

/-- Where no access may begin, none may begin afterwards, and what is on the bus was begun before (R197, R198). -/
def NoneBegun (s t : State) : Prop :=
  mayBeginAccess s.hp.engine = false → mayBeginAccess t.hp.engine = false ∧
    ∀ b, t.hp.bus = some b → ∃ b', s.hp.bus = some b' ∧ b'.begunAt = b.begunAt ∧ b'.access.kind = b.access.kind

theorem HostSideKept.noneBegun {s t : State} (h : HostSideKept s t) : NoneBegun s t := by
  intro hidle
  refine ⟨?_, h.bus⟩
  rcases h.engine with he | ⟨hs, -⟩
  · rwa [he]
  · rw [hs] at hidle
    cases hidle

/-- With an engine in which an access may begin there is nothing to show. -/
theorem NoneBegun.of_busy {s t : State} {e : EngineState} (he : s.hp.engine = e) (h : mayBeginAccess e = true) : NoneBegun s t := by
  intro hidle
  rw [he, h] at hidle
  cases hidle

/-- FAULTED begins no access: the list is dropped, and what the owners ask for joins it (R191, R197). -/
theorem hostSideKept_enterFaulted {code : FaultCode} {s : State} :
    HostSideKept { s with hp := { s.hp with engine := .faulted, faultCode := code, queue := [] } } (enterFaulted code s) := by
  unfold enterFaulted
  extract_lets hp dropped s1
  have hcause : Works { s with hp := { s.hp with engine := .faulted, faultCode := code, queue := [] } } s1 := works_setCause ..
  exact ((hcause.hostSideKept.trans (works_dropAll dropped s1).hostSideKept).trans (works_stopIntervalTimers _).hostSideKept).trans
    (motions_drainLoop _).hostSideKept

theorem Effect.noneBegun {c : Instr} {s t : State} (h : Effect c s t) (hc : c ≠ .start) : NoneBegun s t := by
  cases h with
  | work hwork => exact hwork.hostSideKept.noneBegun
  | error => exact fun hidle => ⟨hidle, fun b hb => ⟨b, hb, rfl, rfl⟩⟩
  | configAddress => exact fun hidle => ⟨hidle, fun b hb => ⟨b, hb, rfl, rfl⟩⟩
  | requestTail _ _ hwork => exact fun hidle => hwork.hostSideKept.noneBegun hidle
  | bufferTail _ _ hwork => exact fun hidle => hwork.hostSideKept.noneBegun hidle
  | released => exact fun hidle => ⟨hidle, fun b hb => ⟨b, hb, rfl, rfl⟩⟩
  | started => exact absurd rfl hc
  | resumed => exact absurd rfl hc
  | stopped hrunning => exact .of_busy hrunning rfl
  | reset =>
    refine fun _ => ⟨rfl, fun b hb => ?_⟩
    obtain ⟨b', hb', rfl⟩ := Option.map_eq_some_iff.mp hb
    exact ⟨b', hb', rfl, rfl⟩
  | powerOnReset => exact fun _ => ⟨rfl, nofun⟩
  | powerOnResetEnds => exact fun hidle => ⟨hidle, fun b hb => ⟨b, hb, rfl, rfl⟩⟩
  | ended => exact (hostSideKept_freeBus s).noneBegun
  | configured hstarting => exact .of_busy hstarting rfl
  | startFailed hstarting => exact .of_busy hstarting rfl
  | served _ _ _ hwork => exact ((hostSideKept_freeBus s).trans hwork.hostSideKept).noneBegun
  | descriptor _ _ _ _ hwork =>
    exact fun hidle => ⟨(hwork.hostSideKept.noneBegun hidle).1, fun b hb => by
      obtain ⟨b', hb', -⟩ := hwork.hostSideKept.bus b hb
      cases hb'⟩
  | disposed hrunning => exact .of_busy hrunning rfl
  | faulted code _ _ _ hwork =>
    refine fun hidle => ⟨(hostSideKept_enterFaulted.noneBegun rfl).1, fun b hb => ?_⟩
    obtain ⟨b1, hb1, -⟩ := hostSideKept_enterFaulted.bus b hb
    obtain ⟨b2, hb2, -⟩ := hwork.hostSideKept.bus b1 hb1
    cases hb2
  | posting r hmay =>
    exact fun hidle => ⟨hidle, fun b hb => ⟨b, hb, rfl, rfl⟩⟩
  | phase _ _ _ _ hmay => exact .of_busy rfl hmay
  | posted _ _ _ _ _ _ hwork =>
    exact fun hidle => ⟨(hwork.hostSideKept.noneBegun hidle).1, fun b hb => by
      obtain ⟨b', hb', -⟩ := hwork.hostSideKept.bus b hb
      cases hb'⟩
  | begun => exact fun hidle => ⟨hidle, fun b hb => ⟨b, hb, rfl, rfl⟩⟩
  | sent => exact (motions_elementEnds ..).hostSideKept.noneBegun
  | delivered => exact (motions_deliver ..).hostSideKept.noneBegun
  | lost => exact fun hidle => (motions_loseTrack _).hostSideKept.noneBegun hidle
  | probing hrunning => exact .of_busy hrunning rfl
  | handedOver hopp =>
    simp only [opportunity, Bool.and_eq_true, isRunning_iff] at hopp
    exact .of_busy hopp.1.1.1.1 rfl
  | granted hopp =>
    simp only [opportunity, Bool.and_eq_true, isRunning_iff] at hopp
    exact .of_busy hopp.1.1.1.1 rfl

/-- The end of a step begins no access where none may begin. -/
theorem noneBegun_settleBus (n : Nat) (s : State) : NoneBegun s (settleBus n s) := by
  intro hidle
  have hsame : settleBus n s = joinRequests n s := by
    unfold settleBus beginAccess
    split
    · rw [if_neg]
      change ¬mayBeginAccess s.hp.engine = true
      simp [hidle]
    · rfl
  rw [hsame]
  exact ⟨hidle, fun b hb => ⟨b, hb, rfl, rfl⟩⟩

theorem noneBegun_exec {c : Instr} {s t : State} (hc : c ≠ .start) (h : exec c s = .next t) : NoneBegun s t := by
  refine exec_keeps (fun s => (HostSideKept.refl s).noneBegun) (fun s u n hu hidle => ?_) (fun u hu => hu.noneBegun hc) h
  obtain ⟨hidle', hbus⟩ := hu hidle
  obtain ⟨hidle'', hbus'⟩ := noneBegun_settleBus n u hidle'
  refine ⟨hidle'', fun b hb => ?_⟩
  obtain ⟨b1, hb1, hat1, hk1⟩ := hbus' b hb
  obtain ⟨b2, hb2, hat2, hk2⟩ := hbus b1 hb1
  exact ⟨b2, hb2, hat2.trans hat1, hk2.trans hk1⟩

/-- Outside RUNNING and PROBING no element is handed over, and neither state is entered. -/
def NoneHandedOver (s t : State) : Prop :=
  s.hp.engine ≠ .running → s.ls.state ≠ .probing →
    t.hp.engine ≠ .running ∧ t.ls.state ≠ .probing ∧ ∀ x ∈ t.tx.waiting, x ∈ s.tx.waiting

theorem NoneHandedOver.trans {s t u : State} (h : NoneHandedOver s t) (h' : NoneHandedOver t u) : NoneHandedOver s u := by
  intro hs hp
  obtain ⟨ht, hp', hx⟩ := h hs hp
  obtain ⟨hu, hp'', hx'⟩ := h' ht hp'
  exact ⟨hu, hp'', fun x hmem => hx x (hx' x hmem)⟩

/-- With the engine, the loop state and the waiting elements as they were there is nothing to show. -/
theorem noneHandedOver_of_eq {s t : State} (he : t.hp.engine = s.hp.engine := by rfl) (hs : t.ls.state = s.ls.state := by rfl)
    (hw : t.tx.waiting = s.tx.waiting := by rfl) : NoneHandedOver s t :=
  fun hr hp => ⟨he ▸ hr, hs ▸ hp, fun _ hx => hw ▸ hx⟩

theorem NoneHandedOver.of_running {s t : State} (h : s.hp.engine = .running) : NoneHandedOver s t := fun hr => absurd h hr

theorem Works.noneHandedOver {s t : State} (h : Works s t) : NoneHandedOver s t :=
  noneHandedOver_of_eq h.keeps.hp.engine_eq h.keeps.loop (by rw [h.keeps.tx])

theorem Motion.noneHandedOver {s t : State} (h : Motion s t) : NoneHandedOver s t := by
  cases h with
  | work hwork => exact hwork.noneHandedOver
  | line _ hwaiting hstate =>
    exact fun hr hp => ⟨hr, fun h => (hstate h).elim hp hr, hwaiting.elim id fun h => (h.elim hp hr).elim⟩
  | stopped => exact fun _ hp => ⟨nofun, hp, fun _ hx => hx⟩

theorem Motions.noneHandedOver {s t : State} (h : Motions s t) : NoneHandedOver s t := by
  induction h with
  | refl => exact noneHandedOver_of_eq
  | tail _ hlast ih => exact ih.trans hlast.noneHandedOver

theorem noneHandedOver_enterFaulted (code : FaultCode) (s : State) : NoneHandedOver s (enterFaulted code s) := by
  unfold enterFaulted
  extract_lets dropped hp s1
  have hfault : NoneHandedOver s s1 := fun _ hp => ⟨nofun, hp, fun _ hx => hx⟩
  exact ((hfault.trans (works_dropAll dropped s1).noneHandedOver).trans (works_stopIntervalTimers _).noneHandedOver).trans
    (motions_drainLoop _).noneHandedOver

theorem Effect.noneHandedOver {c : Instr} {s t : State} (h : Effect c s t) (hc : c ≠ .start)
    (hc' : ∀ octets, c ≠ .configurationReadComplete octets) : NoneHandedOver s t := by
  cases h with
  | work hwork => exact hwork.noneHandedOver
  | error => exact noneHandedOver_of_eq
  | configAddress => exact noneHandedOver_of_eq
  | requestTail _ _ hwork => exact .trans noneHandedOver_of_eq hwork.noneHandedOver
  | bufferTail _ _ hwork => exact .trans noneHandedOver_of_eq hwork.noneHandedOver
  | released => exact noneHandedOver_of_eq
  | started => exact absurd rfl hc
  | resumed => exact absurd rfl hc
  | stopped hrunning => exact .of_running hrunning
  | reset => exact fun _ _ => ⟨nofun, nofun, nofun⟩
  | powerOnReset => exact fun _ _ => ⟨nofun, nofun, nofun⟩
  | powerOnResetEnds => exact noneHandedOver_of_eq
  | ended => exact noneHandedOver_of_eq
  | configured => exact absurd rfl (hc' _)
  | startFailed => exact fun _ hp => ⟨nofun, hp, fun _ hx => hx⟩
  | served _ _ _ hwork => exact .trans noneHandedOver_of_eq hwork.noneHandedOver
  | descriptor _ _ _ _ hwork => exact .trans noneHandedOver_of_eq hwork.noneHandedOver
  | disposed hrunning => exact .of_running hrunning
  | faulted _ _ _ _ hwork =>
    exact (NoneHandedOver.trans noneHandedOver_of_eq hwork.noneHandedOver).trans (noneHandedOver_enterFaulted _ _)
  | posting => exact noneHandedOver_of_eq
  | phase => exact noneHandedOver_of_eq
  | posted _ _ _ _ _ _ hwork => exact .trans noneHandedOver_of_eq hwork.noneHandedOver
  | begun => exact fun hr hp => ⟨hr, hp, fun x hx => List.mem_of_mem_tail hx⟩
  | sent => exact (motions_elementEnds ..).noneHandedOver
  | delivered => exact (motions_deliver ..).noneHandedOver
  | lost => exact .trans noneHandedOver_of_eq (motions_loseTrack _).noneHandedOver
  | probing hrunning => exact .of_running hrunning
  | handedOver hopp =>
    simp only [opportunity, Bool.and_eq_true, isRunning_iff] at hopp
    exact .of_running hopp.1.1.1.1
  | granted hopp =>
    simp only [opportunity, Bool.and_eq_true, isRunning_iff] at hopp
    exact .of_running hopp.1.1.1.1

theorem noneHandedOver_settleBus (n : Nat) (s : State) : NoneHandedOver s (settleBus n s) := by
  unfold settleBus beginAccess
  split
  · split <;> exact noneHandedOver_of_eq
  · exact noneHandedOver_of_eq

end Sys2Proof.Machine

section

set_option Elab.async false

open Sys2Proof.Machine

/-- Settles O11: a step ends with the sequencer settled, or it touched neither bus nor list. -/
theorem stepKeepsBus : Obligations.StepKeepsBus := by
  unfold Obligations.StepKeepsBus
  intro s t hs h
  obtain rfl | ⟨c, rest, hc⟩ := step_cases h
  · obtain ⟨-, -, -, -, -, -, -, hhp, -⟩ := tick_keeps s
    unfold BusOk at hs ⊢
    rw [hhp]
    exact hs
  · obtain ⟨t', ht, hcases⟩ := exec_passes c { s with pending := rest }
    obtain rfl : t' = t := Host.Outcome.next.inj (ht.symm.trans hc)
    obtain rfl | ⟨u, -, rfl | ⟨rfl, hsame | hempty⟩⟩ := hcases
    · exact hs
    · exact busOk_settleBus _ u
    · obtain ⟨hengine, hbus, hqueue⟩ := hsame
      unfold BusOk at hs ⊢
      rw [hengine, hbus, hqueue]
      exact hs
    · exact fun _ _ => hempty

/-- Settles O12: outside START an access begins at the end of a step alone, or as a phase octet, where accesses may begin. -/
theorem noAccessBegunInOffOrFaulted : Obligations.NoAccessBegunInOffOrFaulted := by
  unfold Obligations.NoAccessBegunInOffOrFaulted
  intro c s t hengine hc h
  refine (noneBegun_exec hc h ?_).2
  rcases hengine with he | he <;> rw [he] <;> rfl

/-- Settles O13: elements are handed over at opportunities, from PROBING, and where PROBING is entered; all need RUNNING. -/
theorem noHandOverOutsideRunning : Obligations.NoHandOverOutsideRunning := by
  unfold Obligations.NoHandOverOutsideRunning
  intro c s t hloop hengine hc hc' h
  have hkeeps : NoneHandedOver s t :=
    exec_keeps (P := NoneHandedOver) (fun _ => noneHandedOver_of_eq) (fun s u n hu => hu.trans (noneHandedOver_settleBus n u))
      (fun u hu => hu.noneHandedOver hc hc') h
  refine (hkeeps hengine fun hprobing => ?_).2.2
  unfold EngineLoopOk at hloop
  rw [hprobing] at hloop
  cases he : s.hp.engine <;> simp_all [loopAllowed]

end

/-! ## Engine state, loop state and transit list (spec 02, section 2.1) -/

namespace Sys2Proof.Machine

set_option Elab.async false

/-- The kinds of the elements in transit, oldest first. -/
def elements (s : State) : List ElementKind := s.ls.transit.map (fun e => e.element)

/-- A kind is closing (R14). -/
def isClosingKind (k : ElementKind) : Bool := k == .sweep || k == .call

theorem closingLast_eq (s : State) :
    closingLast s.ls.transit = (elements s).dropLast.all (fun k => !isClosingKind k) := by
  rw [elements, ← List.map_dropLast, List.all_map]
  rfl

/-- What the transit list holds is a matter of the kinds of its elements. -/
theorem TransitOk.of_elements {s t : State} (h : TransitOk s) (hstate : t.ls.state = s.ls.state)
    (helements : elements t = elements s) (hconfig : t.hp.config = s.hp.config) : TransitOk t := by
  have hlength : t.ls.transit.length = s.ls.transit.length := by
    simpa [elements] using congrArg List.length helements
  have hempty : t.ls.transit = [] ↔ s.ls.transit = [] := by
    rw [← List.length_eq_zero_iff, hlength, List.length_eq_zero_iff]
  have hclosing : closingLast t.ls.transit = closingLast s.ls.transit := by
    rw [closingLast_eq, closingLast_eq, helements]
  unfold elements at helements
  unfold TransitOk at h ⊢
  rw [hstate]
  simp only [configured, hconfig, hlength, hclosing, helements, ne_eq, hempty]
  exact h

theorem EngineLoopOk.of_eq {s t : State} (h : EngineLoopOk s) (hengine : t.hp.engine = s.hp.engine)
    (hstate : t.ls.state = s.ls.state) : EngineLoopOk t := by
  unfold EngineLoopOk at h ⊢
  rwa [hengine, hstate]

theorem ConfigOk.of_eq {s t : State} (h : ConfigOk s) (hconfig : t.hp.config = s.hp.config) : ConfigOk t := by
  unfold ConfigOk at h ⊢
  rwa [hconfig]

/-- Engine, configuration, loop state and the elements in transit are as before. -/
structure LoopSame (s t : State) : Prop where
  engine : t.hp.engine = s.hp.engine := by rfl
  config : t.hp.config = s.hp.config := by rfl
  state : t.ls.state = s.ls.state := by rfl
  elements : elements t = elements s := by rfl

theorem LoopSame.refl (s : State) : LoopSame s s := {}

theorem LoopSame.trans {s t u : State} (h : LoopSame s t) (h' : LoopSame t u) : LoopSame s u :=
  ⟨h'.engine.trans h.engine, h'.config.trans h.config, h'.state.trans h.state, h'.elements.trans h.elements⟩

theorem Works.loopSame {s t : State} (h : Works s t) : LoopSame s t :=
  ⟨h.keeps.hp.engine_eq, h.keeps.hp.config_eq, h.keeps.loop, h.keeps.elements⟩

theorem LoopInv.of_same {s t : State} (h : LoopInv s) (hsame : LoopSame s t) : LoopInv t :=
  ⟨h.1.of_eq hsame.engine hsame.state, h.2.1.of_eq hsame.config,
    h.2.2.of_elements hsame.state hsame.elements hsame.config⟩

/-! ### The transit list by loop state -/

theorem transitOk_opened {s : State} (h : s.ls.state = .opened) :
    TransitOk s ↔ s.ls.transit.length ≤ (configured s).inFlightLimit ∧ closingLast s.ls.transit = true := by
  unfold TransitOk
  rw [h]

theorem transitOk_draining {s : State} (h : s.ls.state = .draining) :
    TransitOk s ↔ s.ls.transit ≠ [] ∧ s.ls.transit.length ≤ 4 ∧ closingLast s.ls.transit = true := by
  unfold TransitOk
  rw [h]

theorem transitOk_probing {s : State} (h : s.ls.state = .probing) : TransitOk s ↔ elements s = [.probe] := by
  unfold TransitOk
  rw [h]
  rfl

theorem transitOk_calling {s : State} (h : s.ls.state = .calling) : TransitOk s ↔ elements s = [.call] := by
  unfold TransitOk
  rw [h]
  rfl

theorem transitOk_idle {s : State} (h : s.ls.state = .quiet ∨ s.ls.state = .broken) : TransitOk s ↔ s.ls.transit = [] := by
  unfold TransitOk
  rcases h with h | h <;> rw [h]

theorem elements_eq_nil {s : State} : elements s = [] ↔ s.ls.transit = [] := List.map_eq_nil_iff

/-! ### The loop's operations -/

/-- The engine that an entry to QUIET leaves (R189). -/
def engineWhenQuiet (e : EngineState) : EngineState := if e = .stopping then .stopped else e

theorem enterQuiet_loop (s : State) :
    (enterQuiet s).hp.engine = engineWhenQuiet s.hp.engine ∧ (enterQuiet s).hp.config = s.hp.config ∧
      (enterQuiet s).ls.state = .quiet ∧ (enterQuiet s).ls.transit = [] := by
  unfold enterQuiet stopWhenQuiet engineWhenQuiet
  by_cases h : s.hp.engine = .stopping <;> simp [h, setCause]

/-- QUIET with nothing in transit fits every engine state but RUNNING. -/
theorem loopAllowed_quiet {e : EngineState} (h : e ≠ .running) : loopAllowed (engineWhenQuiet e) .quiet = true := by
  cases e <;> first | rfl | exact absurd rfl h

theorem loopInv_enterQuiet {s : State} (hengine : s.hp.engine ≠ .running) (hconfig : ConfigOk s) : LoopInv (enterQuiet s) := by
  obtain ⟨he, hc, hs, ht⟩ := enterQuiet_loop s
  refine ⟨?_, hconfig.of_eq hc, ?_⟩
  · unfold EngineLoopOk
    rw [he, hs]
    exact loopAllowed_quiet hengine
  · exact (transitOk_idle (.inl hs)).mpr ht

theorem loopSame_settleWhenIdle (s : State) : LoopSame s (settleWhenIdle s) := by
  unfold settleWhenIdle
  split
  · exact {}
  · exact .refl s

theorem enterBroken_loop (s : State) :
    (enterBroken s).hp.engine = s.hp.engine ∧ (enterBroken s).hp.config = s.hp.config ∧
      (enterBroken s).ls.state = .broken ∧ elements (enterBroken s) = [] := by
  unfold enterBroken
  extract_lets ls s1
  have hsame := ((works_resolveAll s.ls.transit s1).loopSame.trans (works_raiseNotice _ _).loopSame).trans
    (loopSame_settleWhenIdle (raiseLoopState .broken (resolveAll s.ls.transit s1)))
  exact ⟨hsame.engine, hsame.config, hsame.state, hsame.elements⟩

theorem loopInv_enterBroken {s : State} (hengine : s.hp.engine = .running) (hconfig : ConfigOk s) : LoopInv (enterBroken s) := by
  obtain ⟨he, hc, hs, ht⟩ := enterBroken_loop s
  refine ⟨?_, hconfig.of_eq hc, ?_⟩
  · unfold EngineLoopOk
    rw [he, hs, hengine]
    rfl
  · exact (transitOk_idle (.inr hs)).mpr (elements_eq_nil.mp ht)

/-- The engine is RUNNING in PROBING, CALLING, OPEN and BROKEN, and there alone. -/
theorem running_iff {s : State} (h : EngineLoopOk s) :
    s.hp.engine = .running ↔
      s.ls.state = .probing ∨ s.ls.state = .calling ∨ s.ls.state = .opened ∨ s.ls.state = .broken := by
  unfold EngineLoopOk at h
  cases he : s.hp.engine <;> cases hs : s.ls.state <;> rw [he, hs] at h <;> simp [loopAllowed] at h ⊢

theorem loopInv_abandonDrain {s : State} (h : LoopInv s) (hdraining : s.ls.state = .draining) : LoopInv (abandonDrain s) := by
  have hsame := (works_resolveAll s.ls.transit { s with ls := { s.ls with transit := [] } }).loopSame
  refine loopInv_enterQuiet ?_ (h.2.1.of_eq hsame.config)
  rw [hsame.engine]
  change s.hp.engine ≠ .running
  rw [Ne, running_iff h.1, hdraining]
  simp

theorem loopInv_loseTrack {s : State} (h : LoopInv s) : LoopInv (loseTrack s) := by
  have hrunning := running_iff h.1
  unfold loseTrack
  split
  · exact loopInv_enterBroken (hrunning.mpr (by simp [*])) h.2.1
  · exact loopInv_enterBroken (hrunning.mpr (by simp [*])) h.2.1
  · exact loopInv_enterBroken (hrunning.mpr (by simp [*])) h.2.1
  · exact loopInv_abandonDrain h ‹_›
  · exact h
  · exact h

/-- A validated configuration has an in-flight limit of at most 4 (R186). -/
theorem inFlightLimit_le {s : State} (h : ConfigOk s) : (configured s).inFlightLimit ≤ 4 := by
  unfold configured
  cases hc : s.hp.config with
  | none => exact Nat.zero_le _
  | some c =>
    have hfield := (badConfigurationField_eq_none_iff c).mp (h c hc) 8 (by decide) (by decide)
    simp only [fieldAccepted] at hfield
    exact hfield.2

theorem stopWhenQuiet_loop (s : State) :
    ((stopWhenQuiet s).hp.engine = if s.ls.state = .quiet then engineWhenQuiet s.hp.engine else s.hp.engine) ∧
      (stopWhenQuiet s).hp.config = s.hp.config ∧ (stopWhenQuiet s).ls = s.ls := by
  unfold stopWhenQuiet engineWhenQuiet
  by_cases h : s.hp.engine = .stopping <;> by_cases hs : s.ls.state = .quiet <;> simp [h, hs, setCause]

/-- The engine has left RUNNING for STOPPING or FAULTED, and the loop drains (R46). -/
theorem loopInv_drainLoop {s : State} (hengine : s.hp.engine = .stopping ∨ s.hp.engine = .faulted) (hconfig : ConfigOk s)
    (htransit : TransitOk s) : LoopInv (drainLoop s) := by
  have hnot : s.hp.engine ≠ .running := by rcases hengine with h | h <;> rw [h] <;> nofun
  have hdrain : ∀ {t : State}, t.hp = s.hp → t.ls.state = .draining → t.ls.transit = s.ls.transit → s.ls.transit ≠ [] →
      s.ls.transit.length ≤ 4 → closingLast s.ls.transit = true → LoopInv t := by
    intro t hhp hst htr hne hlen hclose
    refine ⟨?_, hconfig.of_eq (by rw [hhp]), ?_⟩
    · unfold EngineLoopOk
      rw [hst, hhp]
      rcases hengine with h | h <;> rw [h] <;> rfl
    · rw [transitOk_draining hst, htr]
      exact ⟨hne, hlen, hclose⟩
  have hstop : LoopInv (stopWhenQuiet s) ∨ s.ls.state ≠ .quiet ∧ s.ls.state ≠ .draining := by
    obtain ⟨he, hc, hls⟩ := stopWhenQuiet_loop s
    cases hs : s.ls.state
    case quiet =>
      refine .inl ⟨?_, hconfig.of_eq hc, ?_⟩
      · unfold EngineLoopOk
        rw [he, hls, hs, if_pos rfl]
        exact loopAllowed_quiet hnot
      · exact htransit.of_elements (by rw [hls]) (by simp [elements, hls]) hc
    case draining =>
      refine .inl ⟨?_, hconfig.of_eq hc, ?_⟩
      · unfold EngineLoopOk
        rw [he, hls, hs, if_neg nofun]
        rcases hengine with h | h <;> rw [h] <;> rfl
      · exact htransit.of_elements (by rw [hls]) (by simp [elements, hls]) hc
    all_goals exact .inr ⟨nofun, nofun⟩
  unfold drainLoop
  split
  · rename_i hs
    obtain ⟨hlen, hclose⟩ := (transitOk_opened hs).mp htransit
    split
    · exact loopInv_enterQuiet hnot hconfig
    · exact hdrain rfl rfl rfl ‹_› (hlen.trans (inFlightLimit_le hconfig)) hclose
  · rename_i hs
    rw [transitOk_probing hs] at htransit
    have hlen : s.ls.transit.length = 1 := by simpa [elements] using congrArg List.length htransit
    split
    · exact loopInv_enterQuiet hnot hconfig
    · refine hdrain rfl rfl rfl ‹_› (by omega) ?_
      rw [closingLast_eq, htransit]
      rfl
  · rename_i hs
    rw [transitOk_calling hs] at htransit
    have hlen : s.ls.transit.length = 1 := by simpa [elements] using congrArg List.length htransit
    split
    · exact loopInv_enterQuiet hnot hconfig
    · refine hdrain rfl rfl rfl ‹_› (by omega) ?_
      rw [closingLast_eq, htransit]
      rfl
  · exact loopInv_enterQuiet hnot hconfig
  · exact hstop.elim id fun h => absurd ‹_› h.2
  · exact hstop.elim id fun h => absurd ‹_› h.1

/-! ### Deliveries -/

theorem elements_advanceOldest (s : State) : elements (advanceOldest s) = elements s := by
  unfold advanceOldest
  split
  · rfl
  · simp [elements, *]

theorem loopSame_advanceOldest (s : State) : LoopSame s (advanceOldest s) := by
  refine ⟨?_, ?_, ?_, elements_advanceOldest s⟩ <;> unfold advanceOldest <;> split <;> rfl

/-- A head frame leaves the list, or advances its entry, or is no head frame's. -/
theorem headFrameMatched_loop (e : TransitEntry) (o : LastOutcome) (copies : Nat) (s : State) :
    LoopSame s (headFrameMatched e o copies s) ∨ LoopSame (popOldest s) (headFrameMatched e o copies s) := by
  unfold headFrameMatched
  split
  · exact .inl ((loopSame_advanceOldest s).trans (works_withRequest (fun p s => works_writeOutcome p o s) e _).loopSame)
  · exact .inr (works_withStationRequest (fun a p s => works_postReturned a p o s) e _).loopSame
  · exact .inr (works_withRequest (fun p s => works_groupReturned p o copies s) e _).loopSame
  · exact .inr (works_withRequest (fun p s => works_restReturned p o s) e _).loopSame
  all_goals exact .inl (.refl s)

/-- Outside CALLING a matched item leaves the elements in transit as they are, or takes the oldest one off. -/
theorem applyFit_loop (e : TransitEntry) (fit : Fit) {s : State} (hstate : s.ls.state ≠ .calling) :
    LoopSame s (applyFit e fit s) ∨ LoopSame (popOldest s) (applyFit e fit s) := by
  unfold applyFit
  split
  · exact headFrameMatched_loop ..
  · exact .inr (works_withStationRequest (fun a p s => works_turnReturned a p _ s) e _).loopSame
  · exact .inl (works_reportReturned ..).loopSame
  · exact .inl (works_countReportItem s).loopSame
  · exact .inr (works_sweepReturned ..).loopSame
  · exact .inr (works_endSweep ..).loopSame
  · rw [if_neg hstate]
    exact .inr (works_callReturned ..).loopSame
  · rw [if_neg hstate]
    exact .inr (works_discardCall ..).loopSame
  · exact .inr {}

/-- What fits a CALL is its marker, intact or damaged (R40). -/
theorem fitOf_call {s : State} {e : TransitEntry} {d : Delivery} {fit : Fit} (he : e.element = .call)
    (h : fitOf s e d = some fit) : (∃ entries, fit = .callMarker entries) ∨ fit = .damagedCall := by
  simp only [fitOf, he, callFit] at h
  split at h
  · exact .inl ⟨_, (Option.some.inj h).symm⟩
  · exact .inr (Option.some.inj h).symm
  · cases h

theorem closingLast_tail {es : List TransitEntry} (h : closingLast es = true) : closingLast es.tail = true := by
  unfold closingLast at h ⊢
  rw [← List.tail_dropLast]
  exact List.all_eq_true.mpr fun e he => List.all_eq_true.mp h e (List.mem_of_mem_tail he)

theorem loopInv_popOldest {s : State} (h : LoopInv s) (hopened : s.ls.state = .opened) : LoopInv (popOldest s) := by
  obtain ⟨hengine, hconfig, htransit⟩ := h
  refine ⟨hengine, hconfig, ?_⟩
  obtain ⟨hlen, hclose⟩ := (transitOk_opened hopened).mp htransit
  refine (transitOk_opened (by exact hopened)).mpr ⟨?_, closingLast_tail hclose⟩
  rw [popOldest, List.length_tail]
  exact (Nat.sub_le _ _).trans hlen

theorem loopSame_quietWhenDrained {s : State} (h : s.ls.state ≠ .draining) : quietWhenDrained s = s := by
  simp [quietWhenDrained, h]

/-- In DRAINING the last entry that leaves takes the loop to QUIET (R47). -/
theorem loopInv_drained {s t : State} (h : LoopInv s) (hdraining : s.ls.state = .draining) (hpop : LoopSame (popOldest s) t) :
    LoopInv (quietWhenDrained t) := by
  obtain ⟨hengine, hconfig, htransit⟩ := h
  have hstate : t.ls.state = .draining := hpop.state.trans hdraining
  have hempty : t.ls.transit = [] ↔ (popOldest s).ls.transit = [] := by
    rw [← elements_eq_nil, hpop.elements, elements_eq_nil]
  unfold quietWhenDrained
  split
  · refine loopInv_enterQuiet ?_ (hconfig.of_eq hpop.config)
    rw [hpop.engine]
    change s.hp.engine ≠ .running
    rw [Ne, running_iff hengine, hdraining]
    simp
  · rename_i hmore
    refine ⟨hengine.of_eq hpop.engine hpop.state, hconfig.of_eq hpop.config, ?_⟩
    have hok : TransitOk (popOldest s) := by
      obtain ⟨-, hlen, hclose⟩ := (transitOk_draining hdraining).mp htransit
      refine (transitOk_draining (by exact hdraining)).mpr ⟨fun hnil => hmore ⟨hstate, hempty.mpr hnil⟩, ?_, closingLast_tail hclose⟩
      rw [popOldest, List.length_tail]
      exact (Nat.sub_le _ _).trans hlen
    exact hok.of_elements hpop.state hpop.elements hpop.config

theorem loopInv_callingReturned (entries : List CallEntry) {s : State} (h : LoopInv s) (hcalling : s.ls.state = .calling) :
    LoopInv (callingReturned entries s) := by
  have hrunning : s.hp.engine = .running := (running_iff h.1).mpr (by simp [hcalling])
  obtain ⟨hengine, hconfig, htransit⟩ := h
  unfold callingReturned
  split
  · exact loopInv_enterBroken hrunning hconfig
  · extract_lets s1 ls
    have hroll : LoopSame (popOldest s) s1 := (works_reconcile ..).loopSame.trans (works_addJoins ..).loopSame
    refine LoopInv.of_same (s := { s1 with ls := { s1.ls with state := .opened } }) ⟨?_, hconfig.of_eq hroll.config, ?_⟩
      (works_raiseNotice ..).loopSame
    · unfold EngineLoopOk
      change loopAllowed s1.hp.engine .opened = true
      rw [hroll.engine]
      change loopAllowed s.hp.engine .opened = true
      rw [hrunning]
      rfl
    · have hnone : s1.ls.transit = [] := by
        have hempty : elements s1 = [] := by
          rw [hroll.elements]
          change s.ls.transit.tail.map (fun e => e.element) = []
          rw [List.map_tail]
          exact congrArg List.tail ((transitOk_calling hcalling).mp htransit)
        exact elements_eq_nil.mp hempty
      change s1.ls.transit.length ≤ _ ∧ closingLast s1.ls.transit = true
      rw [hnone]
      exact ⟨Nat.zero_le _, rfl⟩

theorem loopInv_deliverInTransit (d : Delivery) {s : State} (h : LoopInv s)
    (hstate : s.ls.state = .opened ∨ s.ls.state = .calling ∨ s.ls.state = .draining) : LoopInv (deliverInTransit d s) := by
  unfold deliverInTransit
  split
  · exact loopInv_loseTrack h
  · rename_i e rest htransit
    split
    · exact loopInv_loseTrack h
    · rename_i fit hfit
      rcases hstate with hopened | hcalling | hdraining
      · have hne : s.ls.state ≠ .calling := by rw [hopened]; nofun
        have hnot : ∀ {t : State}, t.ls.state = s.ls.state → quietWhenDrained t = t := fun ht =>
          loopSame_quietWhenDrained (by rw [ht, hopened]; nofun)
        obtain hsame | hpop := applyFit_loop e fit hne
        · rw [hnot hsame.state]
          exact h.of_same hsame
        · rw [hnot hpop.state]
          exact (loopInv_popOldest h hopened).of_same hpop
      · have he : e.element = .call := by
          have hok := (transitOk_calling hcalling).mp h.2.2
          rw [elements, htransit] at hok
          exact (List.cons.inj hok).1
        have hinv : LoopInv (applyFit e fit s) ∧ (applyFit e fit s).hp.engine = s.hp.engine := by
          have hrunning : s.hp.engine = .running := (running_iff h.1).mpr (by simp [hcalling])
          obtain ⟨entries, rfl⟩ | rfl := fitOf_call he hfit
          · simp only [applyFit, hcalling, if_true]
            refine ⟨loopInv_callingReturned entries h hcalling, ?_⟩
            refine (motions_callingReturned entries s).hostSideKept.engine.elim id fun hstopping => ?_
            rw [hrunning] at hstopping
            cases hstopping.1
          · simp only [applyFit, hcalling, if_true]
            exact ⟨loopInv_enterBroken hrunning h.2.1, (enterBroken_loop s).1⟩
        rw [loopSame_quietWhenDrained]
        · exact hinv.1
        · have hrunning : s.hp.engine = .running := (running_iff h.1).mpr (by simp [hcalling])
          rcases (running_iff hinv.1.1).mp (hinv.2.trans hrunning) with h | h | h | h <;> rw [h] <;> nofun
      · have hne : s.ls.state ≠ .calling := by rw [hdraining]; nofun
        obtain hsame | hpop := applyFit_loop e fit hne
        · have hmore : (applyFit e fit s).ls.transit ≠ [] := by
            intro hnil
            have := hsame.elements
            simp [elements, hnil, htransit] at this
          rw [quietWhenDrained, if_neg fun hd => hmore hd.2]
          exact h.of_same hsame
        · exact loopInv_drained h hdraining hpop

/-- The loop enters PROBING with nothing in transit (R26). -/
theorem loopInv_startProbing {s : State} (hengine : s.hp.engine = .running) (hconfig : ConfigOk s)
    (hempty : s.ls.transit = []) : LoopInv (startProbing s) := by
  refine ⟨?_, hconfig, ?_⟩
  · change loopAllowed s.hp.engine .probing = true
    rw [hengine]
    rfl
  · change (s.ls.transit ++ _).map _ = _
    rw [hempty]
    rfl

theorem loopInv_deliverProbing (d : Delivery) {s : State} (h : LoopInv s) (hprobing : s.ls.state = .probing) :
    LoopInv (deliverProbing d s) := by
  have hrunning : s.hp.engine = .running := (running_iff h.1).mpr (by simp [hprobing])
  obtain ⟨hengine, hconfig, htransit⟩ := h
  unfold deliverProbing
  split
  · rename_i e rest _ hcons _
    split
    · rw [transitOk_probing hprobing, elements, hcons] at htransit
      have hrest : rest = [] := by simpa using congrArg List.tail htransit
      refine ⟨?_, hconfig, ?_⟩
      · change loopAllowed s.hp.engine .calling = true
        rw [hrunning]
        rfl
      · change (s.ls.transit.tail ++ _).map _ = _
        rw [hcons, hrest]
        rfl
    · exact loopInv_enterBroken hrunning hconfig
  · exact loopInv_enterBroken hrunning hconfig

theorem loopInv_deliver (d : Delivery) {s : State} (h : LoopInv s) : LoopInv (deliver d s) := by
  unfold deliver
  split
  · exact h
  · exact h
  · exact loopInv_deliverProbing d h ‹_›
  · exact loopInv_deliverInTransit d h (.inl ‹_›)
  · exact loopInv_deliverInTransit d h (.inr (.inl ‹_›))
  · exact loopInv_deliverInTransit d h (.inr (.inr ‹_›))

end Sys2Proof.Machine

/-! ## The loop invariant and the ring invariant through every step -/

namespace Sys2Proof.Machine

set_option Elab.async false

theorem isClosing_eq (e : TransitEntry) : isClosing e = isClosingKind e.element := rfl

/-- In OFF, STARTING and STOPPED the loop is QUIET (spec 02, section 2.1). -/
theorem quiet_of_engine {s : State} (h : EngineLoopOk s)
    (hengine : s.hp.engine = .off ∨ s.hp.engine = .starting ∨ s.hp.engine = .stopped) : s.ls.state = .quiet := by
  unfold EngineLoopOk at h
  rcases hengine with he | he | he <;> rw [he] at h <;> simpa [loopAllowed] using h

/-- An opportunity exists in RUNNING and OPEN, with room in transit and no closing element there (R119). -/
theorem opportunity_iff (s : State) :
    opportunity s = true ↔ s.hp.engine = .running ∧ s.ls.state = .opened ∧
      s.ls.transit.length < (configured s).inFlightLimit ∧ (∀ e ∈ s.ls.transit, isClosing e = false) ∧ s.tx.waiting = [] := by
  simp [opportunity, isRunning_iff, and_assoc]

/-- What an opportunity needs is there also after work that leaves the host port alone. -/
theorem loopInv_handOver {s v : State} (e : TransitEntry) (run : List Symbol) (h : LoopInv s) (hopp : opportunity s = true)
    (hwork : Works s v) : LoopInv (handOver e run v) := by
  obtain ⟨-, hopened, hroom, hclosing, -⟩ := (opportunity_iff s).mp hopp
  obtain ⟨hengine, hconfig, -⟩ := h.of_same hwork.loopSame
  have hsame := hwork.loopSame
  refine ⟨hengine, hconfig, (transitOk_opened (by exact hsame.state.trans hopened)).mpr ⟨?_, ?_⟩⟩
  · change (v.ls.transit ++ [_]).length ≤ (configured v).inFlightLimit
    have hlen : v.ls.transit.length = s.ls.transit.length := by
      simpa [elements] using congrArg List.length hsame.elements
    have hlimit : configured v = configured s := by simp only [configured, hsame.config]
    rw [List.length_append, hlen, hlimit]
    exact hroom
  · have hkinds : ∀ k ∈ elements v, isClosingKind k = false := by
      rw [hsame.elements]
      simpa [elements, isClosing_eq] using hclosing
    change (v.ls.transit ++ [_]).dropLast.all _ = true
    rw [List.dropLast_concat, List.all_eq_true]
    intro x hx
    have := hkinds x.element (List.mem_map_of_mem hx)
    simpa [isClosing_eq] using this

theorem loopSame_elementEnds (x : Sending) (n : Nat) (s : State) : LoopSame s (elementEnds x n s) := by
  unfold elementEnds
  extract_lets isItsEntry probing tx ls s1
  have hends : LoopSame s s1 := by
    refine ⟨rfl, rfl, rfl, ?_⟩
    change (s.ls.transit.map _).map _ = s.ls.transit.map _
    rw [List.map_map]
    refine List.map_congr_left fun e _ => ?_
    simp only [Function.comp_apply]
    split <;> rfl
  split
  · exact hends.trans (loopSame_settleWhenIdle s1)
  · exact hends

/-- FAULTED, entered from a state with the invariant (R191, R46). -/
theorem loopInv_enterFaulted (code : FaultCode) {s : State} (h : LoopInv s) : LoopInv (enterFaulted code s) := by
  obtain ⟨-, hconfig, htransit⟩ := h
  unfold enterFaulted
  extract_lets dropped hp s1
  have hsame := (works_dropAll dropped s1).loopSame.trans (works_stopIntervalTimers _).loopSame
  refine loopInv_drainLoop (.inr hsame.engine) (ConfigOk.of_eq (s := s) hconfig hsame.config) ?_
  exact TransitOk.of_elements (s := s) htransit hsame.state hsame.elements hsame.config

theorem loopInv_stopEngine {s : State} (h : LoopInv s) : LoopInv (stopEngine s) :=
  loopInv_drainLoop (.inl rfl) h.2.1 (h.2.2.of_elements rfl rfl rfl)

theorem loopInv_startFromStopped {s : State} (h : LoopInv s) (hstopped : s.hp.engine = .stopped) :
    LoopInv (startFromStopped s) := by
  have hquiet := quiet_of_engine h.1 (.inr (.inr hstopped))
  have hempty := (transitOk_idle (.inl hquiet)).mp h.2.2
  unfold startFromStopped
  extract_lets hp s1 s2 s3
  have hsame := (works_resume s1).loopSame
  have hnone : elements s1 = [] := elements_eq_nil.mpr (by exact hempty)
  have hprobing := loopInv_startProbing (hsame.engine.trans (by rfl)) (ConfigOk.of_eq (s := s) h.2.1 hsame.config)
    (elements_eq_nil.mp (hsame.elements.trans hnone))
  exact hprobing

/-- A reset leaves the loop QUIET and the configuration store empty (R192, R193). -/
theorem loopInv_of_reset {s : State} (he : s.hp.engine = .off := by rfl) (hc : s.hp.config = none := by rfl)
    (hls : s.ls = State.reset.ls := by rfl) : LoopInv s := by
  refine ⟨?_, fun c h => ?_, ?_⟩
  · unfold EngineLoopOk
    rw [he, hls]
    rfl
  · rw [hc] at h
    cases h
  · unfold TransitOk
    rw [hls]
    rfl

theorem loopInv_passToRunning {conf : Configuration} {s : State} (h : LoopInv s) (hstarting : s.hp.engine = .starting)
    (hok : badConfigurationField conf = none) : LoopInv (passToRunning conf s) := by
  have hquiet := quiet_of_engine h.1 (.inr (.inl hstarting))
  have hempty := (transitOk_idle (.inl hquiet)).mp h.2.2
  refine loopInv_startProbing rfl (fun c hc => ?_) hempty
  obtain rfl : conf = c := Option.some.inj hc
  exact hok

/-- A change of the engine state that the loop state of QUIET allows. -/
theorem loopInv_of_quiet {s t : State} (h : LoopInv s) (hquiet : s.ls.state = .quiet) (hls : t.ls = s.ls := by rfl)
    (hengine : t.hp.engine = .off ∨ t.hp.engine = .starting) (hconfig : t.hp.config = s.hp.config := by rfl) : LoopInv t := by
  refine ⟨?_, h.2.1.of_eq hconfig, h.2.2.of_elements (by rw [hls]) (by rw [elements, hls]; rfl) hconfig⟩
  unfold EngineLoopOk
  rw [hls, hquiet]
  rcases hengine with he | he <;> rw [he] <;> rfl

theorem Effect.loopInv {c : Instr} {s t : State} (h : Effect c s t) (hs : LoopInv s) : LoopInv t := by
  cases h with
  | work hwork => exact hs.of_same hwork.loopSame
  | error => exact hs.of_same {}
  | configAddress => exact hs.of_same {}
  | requestTail _ _ hwork => exact hs.of_same (.trans {} hwork.loopSame)
  | bufferTail _ _ hwork => exact hs.of_same (.trans {} hwork.loopSame)
  | released => exact hs.of_same {}
  | started hoff => exact loopInv_of_quiet hs (quiet_of_engine hs.1 (.inl hoff)) rfl (.inr rfl)
  | resumed hstopped => exact loopInv_startFromStopped hs hstopped
  | stopped => exact loopInv_stopEngine hs
  | reset => exact loopInv_of_reset
  | powerOnReset => exact loopInv_of_reset
  | powerOnResetEnds => exact hs.of_same {}
  | ended => exact hs.of_same {}
  | configured hstarting _ _ hok => exact loopInv_passToRunning (hs.of_same {}) hstarting hok
  | startFailed hstarting => exact loopInv_of_quiet hs (quiet_of_engine hs.1 (.inr (.inl hstarting))) rfl (.inl rfl)
  | served _ _ _ hwork => exact hs.of_same (.trans {} hwork.loopSame)
  | descriptor _ _ _ _ hwork => exact hs.of_same (.trans {} hwork.loopSame)
  | disposed _ hwork => exact hs.of_same (hwork.loopSame.trans (.trans {} (works_testRecordRead _).loopSame))
  | faulted code _ _ _ hwork => exact loopInv_enterFaulted code (hs.of_same (.trans {} hwork.loopSame))
  | posting => exact hs.of_same {}
  | phase => exact hs.of_same {}
  | posted _ _ _ _ _ _ hwork => exact hs.of_same (.trans {} hwork.loopSame)
  | begun => exact hs.of_same {}
  | sent x n => exact hs.of_same (loopSame_elementEnds x n s)
  | delivered d => exact loopInv_deliver d hs
  | lost => exact loopInv_loseTrack (hs.of_same {})
  | probing hrunning hbroken =>
    exact loopInv_startProbing hrunning hs.2.1 ((transitOk_idle (.inr hbroken)).mp hs.2.2)
  | handedOver hopp hwork _ hu => exact hu ▸ loopInv_handOver _ _ hs hopp hwork
  | granted hopp hwork _ _ _ u hu =>
    refine LoopInv.of_same (s := u) ?_ {}
    rcases hu with rfl | rfl
    · exact loopInv_handOver _ _ hs hopp hwork
    · exact hs

theorem loopSame_settleBus (n : Nat) (s : State) : LoopSame s (settleBus n s) := by
  unfold settleBus beginAccess
  split
  · split <;> exact {}
  · exact {}

theorem loopSame_tick (s : State) : LoopSame s (tick s) := by
  obtain ⟨-, -, -, -, hls, -, -, hhp, -⟩ := tick_keeps s
  refine ⟨?_, ?_, ?_, ?_⟩
  · rw [hhp]
  · rw [hhp]
  · rw [hls]
  · rw [elements, hls]
    rfl

theorem loopInv_step {s t : State} (hs : LoopInv s) (h : step s = .next t) : LoopInv t := by
  obtain rfl | ⟨c, rest, hc⟩ := step_cases h
  · exact hs.of_same (loopSame_tick s)
  · refine exec_keeps (P := fun s t => LoopInv s → LoopInv t) (fun _ => id)
      (fun s u n hu hs => (hu hs).of_same (loopSame_settleBus n u)) (fun u hu => hu.loopInv) hc (hs.of_same {})

end Sys2Proof.Machine

section

set_option Elab.async false

open Sys2Proof.Machine

/-- Settles O6: engine, loop and transit list fit after each effect. -/
theorem stepKeepsLoopInv : Obligations.StepKeepsLoopInv := by
  unfold Obligations.StepKeepsLoopInv
  exact fun s t hs h => loopInv_step hs h

end

/-! ## The ring invariant (R100, R136, R164, R182, R197) -/

namespace Sys2Proof.Machine

set_option Elab.async false

/-! ### Engine and loop state without the transit list -/

theorem engineLoopOk_enterQuiet {s : State} (hengine : s.hp.engine ≠ .running) : EngineLoopOk (enterQuiet s) := by
  obtain ⟨he, -, hs, -⟩ := enterQuiet_loop s
  unfold EngineLoopOk
  rw [he, hs]
  exact loopAllowed_quiet hengine

/-- In RUNNING the loop may be where it is not QUIET and not draining. -/
theorem engineLoopOk_of_running {s : State} (hengine : s.hp.engine = .running)
    (hstate : s.ls.state = .probing ∨ s.ls.state = .calling ∨ s.ls.state = .opened ∨ s.ls.state = .broken) :
    EngineLoopOk s := by
  unfold EngineLoopOk
  rw [hengine]
  rcases hstate with h | h | h | h <;> rw [h] <;> rfl

theorem engineLoopOk_enterBroken {s : State} (hengine : s.hp.engine = .running) : EngineLoopOk (enterBroken s) := by
  obtain ⟨he, -, hs, -⟩ := enterBroken_loop s
  exact engineLoopOk_of_running (he.trans hengine) (by simp [hs])

theorem not_running_of_draining {s : State} (h : EngineLoopOk s) (hdraining : s.ls.state = .draining) :
    s.hp.engine ≠ .running := by
  rw [Ne, running_iff h, hdraining]
  simp

theorem engineLoopOk_loseTrack {s : State} (h : EngineLoopOk s) : EngineLoopOk (loseTrack s) := by
  have hrunning := running_iff h
  unfold loseTrack
  split
  · exact engineLoopOk_enterBroken (hrunning.mpr (by simp [*]))
  · exact engineLoopOk_enterBroken (hrunning.mpr (by simp [*]))
  · exact engineLoopOk_enterBroken (hrunning.mpr (by simp [*]))
  · refine engineLoopOk_enterQuiet ?_
    rw [(works_resolveAll _ _).loopSame.engine]
    exact not_running_of_draining h ‹_›
  · exact h
  · exact h

theorem engineLoopOk_quietWhenDrained {s : State} (h : EngineLoopOk s) : EngineLoopOk (quietWhenDrained s) := by
  unfold quietWhenDrained
  split
  · exact engineLoopOk_enterQuiet (not_running_of_draining h (‹_ ∧ _›).1)
  · exact h

theorem engineLoopOk_callingReturned (entries : List CallEntry) {s : State} (hrunning : s.hp.engine = .running) :
    EngineLoopOk (callingReturned entries s) := by
  unfold callingReturned
  split
  · exact engineLoopOk_enterBroken hrunning
  · extract_lets s1 ls
    have hroll : LoopSame (popOldest s) s1 := (works_reconcile ..).loopSame.trans (works_addJoins ..).loopSame
    have hraised : LoopSame { s1 with ls := { s1.ls with state := .opened } }
        (raiseLoopState .opened { s1 with ls := { s1.ls with state := .opened } }) := (works_raiseNotice ..).loopSame
    exact engineLoopOk_of_running (hraised.engine.trans (hroll.engine.trans hrunning)) (.inr (.inr (.inl hraised.state)))

theorem engineLoopOk_applyFit (e : TransitEntry) (fit : Fit) {s : State} (h : EngineLoopOk s) : EngineLoopOk (applyFit e fit s) := by
  by_cases hcalling : s.ls.state = .calling
  · have hrunning : s.hp.engine = .running := (running_iff h).mpr (by simp [hcalling])
    have hloop : ∀ {t : State}, LoopSame s t ∨ LoopSame (popOldest s) t → EngineLoopOk t := fun ht =>
      ht.elim (fun hsame => h.of_eq hsame.engine hsame.state) (fun hpop => h.of_eq hpop.engine hpop.state)
    unfold applyFit
    split
    · exact hloop (headFrameMatched_loop ..)
    · exact hloop (.inr (works_withStationRequest (fun a p s => works_turnReturned a p _ s) e _).loopSame)
    · exact hloop (.inl (works_reportReturned ..).loopSame)
    · exact hloop (.inl (works_countReportItem s).loopSame)
    · exact hloop (.inr (works_sweepReturned ..).loopSame)
    · exact hloop (.inr (works_endSweep ..).loopSame)
    · rw [if_pos hcalling]
      exact engineLoopOk_callingReturned _ hrunning
    · rw [if_pos hcalling]
      exact engineLoopOk_enterBroken hrunning
    · exact hloop (.inr {})
  · obtain hsame | hpop := applyFit_loop e fit hcalling
    · exact h.of_eq hsame.engine hsame.state
    · exact h.of_eq hpop.engine hpop.state

theorem engineLoopOk_deliver (d : Delivery) {s : State} (h : EngineLoopOk s) : EngineLoopOk (deliver d s) := by
  have hin : EngineLoopOk (deliverInTransit d s) := by
    unfold deliverInTransit
    split
    · exact engineLoopOk_loseTrack h
    · split
      · exact engineLoopOk_loseTrack h
      · exact engineLoopOk_quietWhenDrained (engineLoopOk_applyFit _ _ h)
  have hprobing : s.ls.state = .probing → EngineLoopOk (deliverProbing d s) := fun hs => by
    have hrunning : s.hp.engine = .running := (running_iff h).mpr (.inl hs)
    unfold deliverProbing
    split
    · split
      · exact engineLoopOk_of_running hrunning (.inr (.inl rfl))
      · exact engineLoopOk_enterBroken hrunning
    · exact engineLoopOk_enterBroken hrunning
  unfold deliver
  split
  any_goals exact h
  any_goals exact hin
  exact hprobing ‹_›

theorem engineLoopOk_drainLoop {s : State} (hengine : s.hp.engine = .stopping ∨ s.hp.engine = .faulted) :
    EngineLoopOk (drainLoop s) := by
  have hnot : s.hp.engine ≠ .running := by rcases hengine with h | h <;> rw [h] <;> nofun
  have hdraining : ∀ {t : State}, t.hp.engine = s.hp.engine → t.ls.state = .draining → EngineLoopOk t := fun he hs => by
    unfold EngineLoopOk
    rw [he, hs]
    rcases hengine with h | h <;> rw [h] <;> rfl
  obtain ⟨he, -, hls⟩ := stopWhenQuiet_loop s
  unfold drainLoop
  split
  any_goals
    split
    · exact engineLoopOk_enterQuiet hnot
    · exact hdraining rfl rfl
  · exact engineLoopOk_enterQuiet hnot
  · rename_i hs
    rw [hs, if_neg nofun] at he
    exact hdraining he (by rw [hls, hs])
  · rename_i hs
    rw [if_pos hs] at he
    unfold EngineLoopOk
    rw [he, hls, hs]
    exact loopAllowed_quiet hnot

theorem engineLoopOk_enterFaulted (code : FaultCode) (s : State) : EngineLoopOk (enterFaulted code s) := by
  unfold enterFaulted
  extract_lets dropped hp s1
  have hsame := (works_dropAll dropped s1).loopSame.trans (works_stopIntervalTimers _).loopSame
  exact engineLoopOk_drainLoop (.inr hsame.engine)

/-- QUIET fits OFF and STARTING. -/
theorem engineLoopOk_of_quiet {s : State} (hquiet : s.ls.state = .quiet)
    (hengine : s.hp.engine = .off ∨ s.hp.engine = .starting) : EngineLoopOk s := by
  unfold EngineLoopOk
  rw [hquiet]
  rcases hengine with he | he <;> rw [he] <;> rfl

@[simp] theorem startProbing_hp (s : State) : (startProbing s).hp = s.hp := rfl

theorem engine_startFromStopped (s : State) : (startFromStopped s).hp.engine = .running := by
  unfold startFromStopped
  extract_lets hp s1 s2 s3
  have hrunning : s1.hp.engine = .running := rfl
  have hprobing : ∀ {x : State}, Works s1 x → (startProbing x).hp.engine = .running := fun hwork =>
    hwork.loopSame.engine.trans hrunning
  exact hprobing (works_resume s1)

/-- The disposal of a record moves the intake head and asks for the next record (R140). -/
theorem loopSame_disposeRecord (s : State) : LoopSame s (disposeRecord s) :=
  .trans (t := { s with ri := { s.ri with held := none, head := nextIndex s.ri.head (configured s).requestSize } }) {}
    (works_testRecordRead _).loopSame

theorem engineLoopOk_handOver {s v : State} (e : TransitEntry) (run : List Symbol) (hopp : opportunity s = true)
    (hwork : Works s v) : EngineLoopOk (handOver e run v) := by
  obtain ⟨hrunning, hopened, -⟩ := (opportunity_iff s).mp hopp
  exact engineLoopOk_of_running (hwork.loopSame.engine.trans hrunning) (.inr (.inr (.inl (hwork.loopSame.state.trans hopened))))

theorem Effect.engineLoopOk {c : Instr} {s t : State} (h : Effect c s t) (hs : EngineLoopOk s) : EngineLoopOk t := by
  cases h with
  | work hwork => exact hs.of_eq hwork.loopSame.engine hwork.loopSame.state
  | error => exact hs
  | configAddress => exact hs
  | requestTail _ _ hwork => exact hs.of_eq hwork.loopSame.engine hwork.loopSame.state
  | bufferTail _ _ hwork => exact hs.of_eq hwork.loopSame.engine hwork.loopSame.state
  | released => exact hs
  | started hoff => exact engineLoopOk_of_quiet (quiet_of_engine (s := s) hs (.inl hoff)) (.inr rfl)
  | resumed => exact engineLoopOk_of_running (engine_startFromStopped s) (.inl rfl)
  | stopped => exact engineLoopOk_drainLoop (.inl rfl)
  | reset => exact engineLoopOk_of_quiet rfl (.inl rfl)
  | powerOnReset => exact engineLoopOk_of_quiet rfl (.inl rfl)
  | powerOnResetEnds => exact hs
  | ended => exact hs
  | configured => exact engineLoopOk_of_running rfl (.inl rfl)
  | startFailed hstarting => exact engineLoopOk_of_quiet (quiet_of_engine (s := s) hs (.inr (.inl hstarting))) (.inl rfl)
  | served _ _ _ hwork => exact hs.of_eq hwork.loopSame.engine hwork.loopSame.state
  | descriptor _ _ _ _ hwork => exact hs.of_eq hwork.loopSame.engine hwork.loopSame.state
  | disposed _ hwork =>
    have hsame := hwork.loopSame.trans (loopSame_disposeRecord _)
    exact hs.of_eq hsame.engine hsame.state
  | faulted => exact engineLoopOk_enterFaulted ..
  | posting => exact hs
  | phase => exact hs
  | posted _ _ _ _ _ _ hwork => exact hs.of_eq hwork.loopSame.engine hwork.loopSame.state
  | begun => exact hs
  | sent x n => exact hs.of_eq (loopSame_elementEnds x n s).engine (loopSame_elementEnds x n s).state
  | delivered d => exact engineLoopOk_deliver d hs
  | lost => exact engineLoopOk_loseTrack hs
  | probing hrunning => exact engineLoopOk_of_running hrunning (.inl rfl)
  | handedOver hopp hwork _ hu => exact hu ▸ engineLoopOk_handOver _ _ hopp hwork
  | granted hopp hwork _ _ _ u hu =>
    refine EngineLoopOk.of_eq (s := u) ?_ rfl rfl
    rcases hu with rfl | rfl
    · exact engineLoopOk_handOver _ _ hopp hwork
    · exact hs

/-! ### The accesses of OFF and STARTING -/

theorem accessOk_of_ringsSet {s : State} (h : ringsSet s.hp.engine = true) : AccessOk s := by
  unfold AccessOk
  split
  · rw [‹s.hp.engine = _›] at h
    cases h
  · rw [‹s.hp.engine = _›] at h
    cases h
  all_goals trivial

theorem accessOk_of_engine {s : State} {e : EngineState} (he : s.hp.engine = e) (h : ringsSet e = true) : AccessOk s :=
  accessOk_of_ringsSet (by rw [he, h])

theorem ringsSet_of_mayPost {e : EngineState} (h : mayPost e = true) : ringsSet e = true := by
  cases e with
  | off => cases h
  | starting => cases h
  | faulted => cases h
  | running => rfl
  | stopping => rfl
  | stopped => rfl

theorem AccessOk.of_hp_eq {s t : State} (h : AccessOk s) (hengine : t.hp.engine = s.hp.engine) (hbus : t.hp.bus = s.hp.bus)
    (hqueue : t.hp.queue = s.hp.queue) : AccessOk t := by
  unfold AccessOk busLeftOver at h ⊢
  rwa [hengine, hbus, hqueue]

theorem accessOk_off {s : State} (h : s.hp.engine = .off) : AccessOk s ↔ busLeftOver s = true ∧ s.hp.queue = [] := by
  unfold AccessOk
  rw [h]

theorem accessOk_starting {s : State} (h : s.hp.engine = .starting) :
    AccessOk s ↔ (busLeftOver s = true ∧ ∃ x, s.hp.queue = [x] ∧ isWantedConfiguration x = true) ∨
      (s.hp.queue = [] ∧ ∃ b, s.hp.bus = some b ∧ isWantedConfiguration b.access = true) := by
  unfold AccessOk
  rw [h]

/-- An access whose result is wanted, other than the configuration read, is on the bus outside OFF and STARTING alone. -/
theorem ringsSet_of_serving {s : State} (h : AccessOk s) {b : BusAccess} (hb : s.hp.bus = some b)
    (hwanted : b.access.discarded = false) (hkind : b.access.kind ≠ .configuration) : ringsSet s.hp.engine = true := by
  rw [← Bool.not_eq_false, ringsSet_eq_false_iff]
  have hleft : busLeftOver s = false := by simp [busLeftOver, hb, hwanted]
  rintro (he | he)
  · rw [accessOk_off he, hleft] at h
    cases h.1
  · rw [accessOk_starting he, hleft] at h
    rcases h with h | ⟨-, b', hb', hconf⟩
    · cases h.1
    · rw [hb] at hb'
      cases hb'
      simp [isWantedConfiguration, hkind] at hconf

/-- While the configuration read is on the bus nothing is asked of the sequencer (R185). -/
theorem queue_nil_of_starting {s : State} (h : AccessOk s) {b : BusAccess} (hstarting : s.hp.engine = .starting)
    (hb : s.hp.bus = some b) (hwanted : isWantedConfiguration b.access = true) : s.hp.queue = [] := by
  rw [accessOk_starting hstarting] at h
  rcases h with ⟨hleft, -⟩ | ⟨hempty, -⟩
  · simp only [isWantedConfiguration, Bool.and_eq_true, Bool.not_eq_true'] at hwanted
    simp [busLeftOver, hb, hwanted.2] at hleft
  · exact hempty

/-- A list of at most one access is settled as it stands. -/
theorem queue_joinRequests {n : Nat} {s : State} (h : (s.hp.queue.drop n).length ≤ 1) :
    (joinRequests n s).hp.queue = s.hp.queue := by
  change s.hp.queue.take n ++ freeOrder _ _ (s.hp.queue.drop n) = _
  rw [freeOrder_of_length_le_one _ _ _ h, List.take_append_drop]

theorem accessOk_beginAccess {s : State} (h : AccessOk s) : AccessOk (beginAccess s) := by
  unfold beginAccess
  split
  · rename_i x rest hbus hqueue
    split
    · by_cases hset : ringsSet s.hp.engine = true
      · exact accessOk_of_ringsSet hset
      · rcases (ringsSet_eq_false_iff _).mp (Bool.eq_false_iff.mpr hset) with he | he
        · rw [accessOk_off he, hqueue] at h
          cases h.2
        · rw [accessOk_starting he, hqueue, hbus] at h
          rw [accessOk_starting (by exact he)]
          rcases h with ⟨-, y, hy, hconf⟩ | ⟨hnil, -⟩
          · obtain ⟨rfl, rfl⟩ := List.cons.inj hy
            exact .inr ⟨rfl, _, rfl, hconf⟩
          · cases hnil
    · exact h
  · exact h

theorem accessOk_settleBus (n : Nat) {s : State} (h : AccessOk s) : AccessOk (settleBus n s) := by
  refine accessOk_beginAccess ?_
  by_cases hset : ringsSet s.hp.engine = true
  · exact accessOk_of_ringsSet hset
  · refine h.of_hp_eq rfl rfl (queue_joinRequests ?_)
    have hshort : s.hp.queue.length ≤ 1 := by
      rcases (ringsSet_eq_false_iff _).mp (Bool.eq_false_iff.mpr hset) with he | he
      · rw [accessOk_off he] at h
        simp [h.2]
      · rw [accessOk_starting he] at h
        rcases h with ⟨-, x, hx, -⟩ | ⟨hnil, -⟩
        · simp [hx]
        · simp [hnil]
    rw [List.length_drop]
    omega

theorem HostSideKept.ringsSet {s t : State} (h : HostSideKept s t) (hset : ringsSet s.hp.engine = true) :
    Machine.ringsSet t.hp.engine = true := by
  rcases h.engine with he | ⟨-, he⟩
  · rwa [he]
  · rw [he]
    rfl

theorem ringsSet_of_delivering {s : State} (h : EngineLoopOk s) (hnow : receiverDelivers s = true) :
    ringsSet s.hp.engine = true := by
  rw [← Bool.not_eq_false, ringsSet_eq_false_iff]
  intro he
  have hquiet := quiet_of_engine h (he.imp_right .inl)
  simp [receiverDelivers, hquiet] at hnow

/-- The end of an access without effect, in OFF and STARTING (R198). -/
theorem accessOk_freeBus {s : State} {b : BusAccess} (h : AccessOk s) (hb : s.hp.bus = some b)
    (hnone : b.access.discarded = true ∨ s.hp.engine ≠ .starting) : AccessOk (freeBus s) := by
  by_cases hset : ringsSet s.hp.engine = true
  · exact accessOk_of_ringsSet hset
  · rcases (ringsSet_eq_false_iff _).mp (Bool.eq_false_iff.mpr hset) with he | he
    · rw [accessOk_off he] at h
      exact (accessOk_off (s := freeBus s) he).mpr ⟨rfl, h.2⟩
    · rw [accessOk_starting he] at h
      refine (accessOk_starting (s := freeBus s) he).mpr (.inl ⟨rfl, ?_⟩)
      rcases h with ⟨-, hx⟩ | ⟨-, b', hb', hconf⟩
      · exact hx
      · rw [hb] at hb'
        cases hb'
        simp only [isWantedConfiguration, Bool.and_eq_true, Bool.not_eq_true'] at hconf
        rcases hnone with hd | hne
        · rw [hconf.2] at hd
          cases hd
        · exact absurd he hne

theorem Effect.accessOk {c : Instr} {s t : State} (h : Effect c s t) (hloop : EngineLoopOk s) (hs : AccessOk s) : AccessOk t := by
  have hserved : ∀ {b : BusAccess} {u v : State}, s.hp.bus = some b → b.access.discarded = false →
      b.access.kind ≠ .configuration → v.hp.engine = s.hp.engine → HostSideKept v u → AccessOk u := fun hb hd hk he hkept =>
    accessOk_of_ringsSet (hkept.ringsSet (he ▸ ringsSet_of_serving hs hb hd hk))
  cases h with
  | work hwork hbus =>
    rcases hbus with hset | hhp
    · exact accessOk_of_ringsSet (hwork.hostSideKept.ringsSet hset)
    · exact hs.of_hp_eq (by rw [hhp]) (by rw [hhp]) (by rw [hhp])
  | error => exact hs
  | configAddress => exact hs
  | requestTail hset _ hwork => exact accessOk_of_ringsSet (hwork.hostSideKept.ringsSet hset)
  | bufferTail hset _ hwork => exact accessOk_of_ringsSet (hwork.hostSideKept.ringsSet hset)
  | released => exact hs
  | started hoff =>
    rw [accessOk_off hoff] at hs
    refine (accessOk_starting (s := startFromOff s) rfl).mpr (.inl ⟨hs.1, configurationRead s, ?_, rfl⟩)
    change s.hp.queue ++ [_] = _
    rw [hs.2]
    rfl
  | resumed =>
    have hengine := engine_startFromStopped s
    generalize startFromStopped s = u at hengine ⊢
    exact accessOk_of_engine hengine rfl
  | stopped => exact accessOk_of_ringsSet ((motions_drainLoop _).hostSideKept.ringsSet rfl)
  | reset =>
    refine (accessOk_off rfl).mpr ⟨?_, rfl⟩
    have hbus : (controllerReset s).hp.bus = s.hp.bus.map leftOver := rfl
    rw [busLeftOver, hbus, Option.map_map]
    cases s.hp.bus <;> rfl
  | powerOnReset => exact (accessOk_off rfl).mpr ⟨rfl, rfl⟩
  | powerOnResetEnds => exact hs
  | ended hb hnone => exact accessOk_freeBus hs hb hnone
  | configured => exact accessOk_of_ringsSet rfl
  | startFailed hstarting hb hwanted => exact (accessOk_off rfl).mpr ⟨rfl, queue_nil_of_starting (s := s) hs hstarting hb hwanted⟩
  | served hb hd hk hwork => exact hserved hb hd hk (by rfl) hwork.hostSideKept
  | descriptor hb hd hk _ hwork => exact hserved hb hd hk (by rfl) hwork.hostSideKept
  | disposed hrunning hwork =>
    have hsame := hwork.loopSame.trans (loopSame_disposeRecord _)
    exact accessOk_of_ringsSet ((congrArg ringsSet (hsame.engine.trans hrunning)).trans rfl)
  | faulted => exact accessOk_of_ringsSet (hostSideKept_enterFaulted.ringsSet rfl)
  | posting r hmay => exact accessOk_of_ringsSet (ringsSet_of_mayPost hmay)
  | phase r hb hd hk => exact accessOk_of_ringsSet (ringsSet_of_serving (s := s) hs hb hd hk)
  | posted hb hd hk _ _ _ hwork => exact hserved hb hd hk (by rfl) hwork.hostSideKept
  | begun => exact hs
  | sent x n => exact hs.of_hp_eq (by rw [elementEnds_hp]) (by rw [elementEnds_hp]) (by rw [elementEnds_hp])
  | delivered d hnow =>
    exact accessOk_of_ringsSet ((motions_deliver d s).hostSideKept.ringsSet (ringsSet_of_delivering hloop hnow))
  | lost timer =>
    by_cases hset : ringsSet s.hp.engine = true
    · exact accessOk_of_ringsSet ((motions_loseTrack _).hostSideKept.ringsSet hset)
    · have he := (ringsSet_eq_false_iff _).mp (Bool.eq_false_iff.mpr hset)
      have hquiet := quiet_of_engine hloop (he.imp_right .inl)
      simp only [loseTrack, hquiet]
      exact hs
  | probing hrunning =>
    refine accessOk_of_ringsSet ?_
    change ringsSet s.hp.engine = true
    rw [hrunning]
    rfl
  | handedOver hopp _ hhp hu =>
    subst hu
    exact hs.of_hp_eq (by rw [← hhp]; rfl) (by rw [← hhp]; rfl) (by rw [← hhp]; rfl)
  | granted hopp _ hhp _ _ u hu =>
    have hsame : u.hp = s.hp := by
      rcases hu with rfl | rfl
      · exact hhp
      · rfl
    exact hs.of_hp_eq (by rw [← hsame]; rfl) (by rw [← hsame]; rfl) (by rw [← hsame]; rfl)

end Sys2Proof.Machine

/-! ## The ring indices (R100, R136, R164, R182) -/

namespace Sys2Proof.Machine

set_option Elab.async false

/-- The ring indices lie in the rings of a configuration (R100, R136, R164, R182). -/
structure RingsFit (c : Configuration) (s : State) : Prop where
  requestHead : s.ri.head < c.requestSize
  requestTail : s.ri.tail < c.requestSize
  bufferHead : s.ru.head < c.bufferSize
  bufferTail : s.hp.bufferTail < c.bufferSize
  recordTail : s.cu.tail < c.completionSize
  recordHead : s.cu.head < c.completionSize
  occupancy : s.cu.occupancy ≤ c.completionSize
  writing : s.cu.write.isSome = true → s.cu.occupancy < c.completionSize

theorem ringsOk_iff (s : State) :
    RingsOk s ↔ (ringsSet s.hp.engine = true → ∃ c, s.hp.config = some c ∧ RingsFit c s) := by
  refine imp_congr_right fun _ => exists_congr fun c => and_congr_right fun _ => ?_
  exact ⟨fun ⟨h1, h2, h3, h4, h5, h6, h7, h8⟩ => ⟨h1, h2, h3, h4, h5, h6, h7, h8⟩,
    fun ⟨h1, h2, h3, h4, h5, h6, h7, h8⟩ => ⟨h1, h2, h3, h4, h5, h6, h7, h8⟩⟩

theorem RingsFit.of_kept {c : Configuration} {s t : State} (h : RingsFit c s) (hkept : HostSideKept s t) : RingsFit c t := by
  obtain ⟨htail, -, hocc, hhead⟩ := hkept.ring
  refine ⟨hkept.riHead ▸ h.requestHead, hkept.riTail ▸ h.requestTail, hkept.ruHead ▸ h.bufferHead,
    hkept.bufferTail ▸ h.bufferTail, htail ▸ h.recordTail, hhead ▸ h.recordHead, hocc ▸ h.occupancy, fun hwrite => ?_⟩
  rw [hocc]
  rcases hkept.write with hw | hw
  · exact h.writing (hw ▸ hwrite)
  · rw [hw] at hwrite
    cases hwrite

/-- Where the host's side is kept the rings fit as before. -/
theorem RingsOk.of_kept {s t : State} (h : RingsOk s) (hkept : HostSideKept s t) : RingsOk t := by
  rw [ringsOk_iff] at h ⊢
  intro hset
  have hset' : ringsSet s.hp.engine = true := by
    rcases hkept.engine with he | ⟨he, -⟩
    · rwa [← he]
    · rw [he]
      rfl
  obtain ⟨c, hc, hfit⟩ := h hset'
  exact ⟨c, hkept.config.trans hc, hfit.of_kept hkept⟩

theorem RingsOk.of_unset {s : State} {e : EngineState} (he : s.hp.engine = e) (h : ringsSet e = false) : RingsOk s := by
  intro hset
  rw [he, h] at hset
  cases hset

theorem configured_of_some {s : State} {c : Configuration} (h : s.hp.config = some c) : configured s = c := by
  simp [configured, h]

/-- A change of ring indices within their rings, in an engine state that keeps the rings set. -/
theorem RingsOk.modify {s t : State} (h : RingsOk s) (hset : ringsSet s.hp.engine = true)
    (hfit : RingsFit (configured s) s → RingsFit (configured s) t) (hconfig : t.hp.config = s.hp.config := by rfl) : RingsOk t := by
  rw [ringsOk_iff] at h ⊢
  intro _
  obtain ⟨c, hc, hs⟩ := h hset
  rw [configured_of_some hc] at hfit
  exact ⟨c, hconfig.trans hc, hfit hs⟩

theorem nextIndex_lt {i size : Nat} (h : i < size) : nextIndex i size < size := by
  unfold nextIndex
  split <;> omega

/-- The sizes of a validated configuration's rings (R186). -/
theorem ringSizes_pos {c : Configuration} (h : badConfigurationField c = none) :
    0 < c.requestSize ∧ 0 < c.bufferSize ∧ 0 < c.completionSize := by
  have hfield := (badConfigurationField_eq_none_iff c).mp h
  have hrequest := hfield 2 (by decide) (by decide)
  have hcompletion := hfield 4 (by decide) (by decide)
  have hbuffer := hfield 6 (by decide) (by decide)
  simp only [fieldAccepted] at hrequest hcompletion hbuffer
  obtain ⟨⟨k, -, -, hk⟩, -⟩ := hrequest
  exact ⟨hk ▸ Nat.two_pow_pos k, by omega, by omega⟩

theorem ringsOk_passToRunning {conf : Configuration} (s : State) (hok : badConfigurationField conf = none) :
    RingsOk (passToRunning conf s) := by
  obtain ⟨hrequest, hbuffer, hcompletion⟩ := ringSizes_pos hok
  rw [ringsOk_iff]
  exact fun _ => ⟨conf, rfl, hrequest, hrequest, hbuffer, hbuffer, hcompletion, hcompletion, Nat.zero_le _, fun _ => hcompletion⟩

theorem hostSideKept_startFromStopped (s : State) :
    HostSideKept { s with hp := { s.hp with engine := .running } } (startFromStopped s) := by
  have hsweep := works_startSweepTimer { s with hp := { s.hp with engine := .running } }
  have hprobing : ∀ {x : State}, Works { s with hp := { s.hp with engine := .running } } x →
      HostSideKept { s with hp := { s.hp with engine := .running } } (startProbing x) := fun hwork =>
    hwork.hostSideKept.trans (motions_startProbing hwork.loopSame.engine).hostSideKept
  exact hprobing (hsweep.trans (works_resume _))

theorem Effect.ringsOk {c : Instr} {s t : State} (h : Effect c s t) (hloop : EngineLoopOk s) (haccess : AccessOk s)
    (hs : RingsOk s) : RingsOk t := by
  cases h with
  | work hwork => exact hs.of_kept hwork.hostSideKept
  | error => exact hs
  | configAddress => exact hs
  | requestTail hset hn hwork =>
    refine RingsOk.of_kept (hs.modify hset fun hfit => ?_) hwork.hostSideKept
    exact { hfit with requestTail := hn }
  | bufferTail hset hn hwork =>
    refine RingsOk.of_kept (hs.modify hset fun hfit => ?_) hwork.hostSideKept
    exact { hfit with bufferTail := hn }
  | released hset hocc hhead =>
    refine hs.modify hset fun hfit => ?_
    refine { hfit with recordHead := ?_, occupancy := hocc.trans hfit.occupancy, writing := ?_ }
    · exact hhead.elim (fun h => h ▸ hfit.recordHead) id
    · exact fun hw => hocc.trans_lt (hfit.writing hw)
  | started => exact .of_unset rfl rfl
  | resumed hstopped =>
    refine RingsOk.of_kept (hs.modify (by rw [hstopped]; rfl) fun hfit => ?_) (hostSideKept_startFromStopped s)
    exact { hfit with }
  | stopped hrunning =>
    refine RingsOk.of_kept (s := { s with hp := { s.hp with engine := .stopping } })
      (hs.modify (by rw [hrunning]; rfl) fun hfit => { hfit with }) ?_
    exact (works_stopIntervalTimers _).hostSideKept.trans (motions_drainLoop _).hostSideKept
  | reset => exact .of_unset rfl rfl
  | powerOnReset => exact .of_unset rfl rfl
  | powerOnResetEnds => exact hs
  | ended => exact hs
  | configured _ _ _ hok => exact ringsOk_passToRunning _ hok
  | startFailed => exact .of_unset rfl rfl
  | served _ _ _ hwork => exact hs.of_kept ((hostSideKept_freeBus s).trans hwork.hostSideKept)
  | descriptor hb hd hk hx hwork =>
    refine RingsOk.of_kept (hs.modify (ringsSet_of_serving (s := s) haccess hb hd hk) fun hfit => ?_) hwork.hostSideKept
    exact { hfit with bufferHead := hx ▸ nextIndex_lt hfit.bufferHead }
  | @disposed _ _ v hrunning hwork =>
    have hv : RingsOk v := hs.of_kept hwork.hostSideKept
    have hset : ringsSet v.hp.engine = true := by
      rw [hwork.loopSame.engine, hrunning]
      rfl
    refine RingsOk.of_kept (hv.modify hset fun hfit => ?_) (works_testRecordRead _).hostSideKept
    exact { hfit with requestHead := nextIndex_lt hfit.requestHead }
  | @faulted _ _ v _ code hb hd hk hwork =>
    have hv : RingsOk v := hs.of_kept ((hostSideKept_freeBus s).trans hwork.hostSideKept)
    have hset : ringsSet v.hp.engine = true := by
      rw [hwork.loopSame.engine]
      exact ringsSet_of_serving (s := s) haccess hb hd hk
    refine RingsOk.of_kept (hv.modify hset fun hfit => ?_) hostSideKept_enterFaulted
    exact { hfit with }
  | posting r hmay hroom =>
    refine hs.modify (ringsSet_of_mayPost hmay) fun hfit => ?_
    exact { hfit with writing := fun _ => hroom }
  | phase r hb hd hk _ hwrite =>
    refine hs.modify (ringsSet_of_serving haccess hb hd hk) fun hfit => ?_
    exact { hfit with writing := fun _ => hfit.writing (by rw [hwrite]; rfl) }
  | posted hb hd hk hwrite hring _ hwork =>
    obtain ⟨hw, hocc, htail, hhead⟩ := hring
    refine RingsOk.of_kept (hs.modify (ringsSet_of_serving (s := s) haccess hb hd hk) fun hfit => ?_) hwork.hostSideKept
    refine { hfit with recordTail := htail ▸ nextIndex_lt hfit.recordTail, recordHead := hhead ▸ hfit.recordHead,
                       occupancy := ?_, writing := ?_ }
    · rw [hocc]
      exact hfit.writing (by rw [hwrite]; rfl)
    · intro h
      rw [hw] at h
      cases h
  | begun => exact hs
  | sent x n => exact hs.of_kept (motions_elementEnds x n s).hostSideKept
  | delivered d => exact hs.of_kept (motions_deliver d s).hostSideKept
  | lost timer => exact RingsOk.of_kept (s := { s with ls := { s.ls with probeTimer := timer } }) hs (motions_loseTrack _).hostSideKept
  | probing hrunning => exact hs
  | handedOver _ hwork _ hu => exact hu ▸ (hs.of_kept hwork.hostSideKept : RingsOk _)
  | granted _ hwork _ _ _ u hu =>
    rcases hu with rfl | rfl
    · exact (hs.of_kept hwork.hostSideKept : RingsOk _)
    · exact hs

theorem ringsOk_settleBus (n : Nat) {s : State} (h : RingsOk s) : RingsOk (settleBus n s) := by
  unfold settleBus beginAccess
  split
  · split <;> exact h
  · exact h

theorem ConfigOk.of_kept {s t : State} (h : ConfigOk s) (hkept : HostSideKept s t) : ConfigOk t := h.of_eq hkept.config

theorem configOk_of_none {s : State} (h : s.hp.config = none) : ConfigOk s := fun c hc => by
  rw [h] at hc
  cases hc

theorem Effect.configOk {c : Instr} {s t : State} (h : Effect c s t) (hs : ConfigOk s) : ConfigOk t := by
  cases h with
  | work hwork => exact hs.of_kept hwork.hostSideKept
  | error => exact hs
  | configAddress => exact hs
  | requestTail _ _ hwork => exact hs.of_eq hwork.hostSideKept.config
  | bufferTail _ _ hwork => exact hs.of_eq hwork.hostSideKept.config
  | released => exact hs
  | started => exact hs
  | resumed => exact hs.of_eq (hostSideKept_startFromStopped s).config
  | stopped => exact hs.of_eq (motions_drainLoop _).hostSideKept.config
  | reset => exact configOk_of_none rfl
  | powerOnReset => exact configOk_of_none rfl
  | powerOnResetEnds => exact hs
  | ended => exact hs
  | configured _ _ _ hok => exact fun c hc => Option.some.inj hc ▸ hok
  | startFailed => exact hs
  | served _ _ _ hwork => exact hs.of_eq hwork.hostSideKept.config
  | descriptor _ _ _ _ hwork => exact hs.of_eq hwork.hostSideKept.config
  | disposed _ hwork => exact (hs.of_kept hwork.hostSideKept).of_eq (loopSame_disposeRecord _).config
  | faulted _ _ _ _ hwork => exact (hs.of_eq hwork.hostSideKept.config).of_eq hostSideKept_enterFaulted.config
  | posting => exact hs
  | phase => exact hs
  | posted _ _ _ _ _ _ hwork => exact hs.of_eq hwork.hostSideKept.config
  | begun => exact hs
  | sent x n => exact hs.of_kept (motions_elementEnds x n s).hostSideKept
  | delivered d => exact hs.of_kept (motions_deliver d s).hostSideKept
  | lost => exact hs.of_eq (motions_loseTrack _).hostSideKept.config
  | probing => exact hs
  | handedOver _ hwork _ hu => exact hu ▸ hs.of_eq hwork.hostSideKept.config
  | granted _ hwork _ _ _ u hu =>
    rcases hu with rfl | rfl
    · exact hs.of_eq hwork.hostSideKept.config
    · exact hs

theorem Effect.ringInv {c : Instr} {s t : State} (h : Effect c s t) (hs : RingInv s) : RingInv t := by
  obtain ⟨hloop, hconfig, haccess, hrings⟩ := hs
  exact ⟨h.engineLoopOk hloop, h.configOk hconfig, h.accessOk hloop haccess, h.ringsOk hloop haccess hrings⟩

theorem ringInv_step {s t : State} (hs : RingInv s) (h : step s = .next t) : RingInv t := by
  obtain rfl | ⟨c, rest, hc⟩ := step_cases h
  · obtain ⟨hloop, hconfig, haccess, hrings⟩ := hs
    obtain ⟨hri, -, -, -, -, hru, hcu, hhp, -⟩ := tick_keeps s
    have hsame := loopSame_tick s
    refine ⟨hloop.of_eq hsame.engine hsame.state, hconfig.of_eq hsame.config, haccess.of_hp_eq hsame.engine ?_ ?_, ?_⟩
    · rw [hhp]
    · rw [hhp]
    · unfold RingsOk at hrings ⊢
      rw [hri, hru, hcu, hhp]
      exact hrings
  · refine exec_keeps (P := fun s t => RingInv s → RingInv t) (fun _ => id) (fun s u n hu hs => ?_) (fun u hu => hu.ringInv) hc hs
    obtain ⟨hloop, hconfig, haccess, hrings⟩ := hu hs
    have hsame := loopSame_settleBus n u
    exact ⟨hloop.of_eq hsame.engine hsame.state, hconfig.of_eq hsame.config, accessOk_settleBus n haccess,
      ringsOk_settleBus n hrings⟩

end Sys2Proof.Machine

section

set_option Elab.async false

open Sys2Proof.Machine

/-- Settles O7: ring indices move by `nextIndex` or within their ranges, and OFF and STARTING ask for the configuration alone. -/
theorem stepKeepsRingInv : Obligations.StepKeepsRingInv := by
  unfold Obligations.StepKeepsRingInv
  exact fun s t hs h => ringInv_step hs h

end

/-! ## One octet time (R1) -/

namespace Sys2Proof.Machine

set_option Elab.async false

theorem mem_eventIf {ok : Bool} {c i : Instr} : c ∈ eventIf ok i ↔ c = i ∧ ok = true := by
  cases ok <;> simp [eventIf]

theorem reached_iff {s : State} {due : Option Nat} : reached s due = true ↔ ∃ d, due = some d ∧ d ≤ s.clock.cycles := by
  cases due <;> simp [reached]

theorem octetPassed_iff {s : State} {last : Option Nat} :
    octetPassed s last = true ↔ ∃ d, last = some d ∧ d < s.clock.octets := by
  cases last <;> simp [octetPassed]

theorem timerReached_iff {s : State} {t : Timer} : timerReached s t = true ↔ ∃ d, t = .running d ∧ d ≤ s.clock.cycles := by
  cases t <;> simp [timerReached]

theorem returnLimit_eq_some {s : State} {d : Nat} :
    returnLimit s = some d ↔ (s.ls.state = .opened ∨ s.ls.state = .calling ∨ s.ls.state = .draining) ∧
      ∃ e rest, s.ls.transit = e :: rest ∧ e.deadline = some d := by
  unfold returnLimit
  cases hs : s.ls.state <;> cases ht : s.ls.transit <;> simp

/-- The octet-time expiries queued are those that have fallen (R27, R28, R35). -/
theorem mem_octetEvents {s : State} {c : Instr} : c ∈ octetEvents s ↔ OctetExpiry s s.clock.octets c := by
  simp only [octetEvents, List.mem_append, mem_eventIf, octetPassed_iff, returnLimit_eq_some, OctetExpiry]
  refine or_congr (and_congr_right fun _ => ?_) Iff.rfl
  constructor
  · rintro ⟨d, ⟨hs, e, rest, ht, hd⟩, hlt⟩
    exact ⟨hs, e, rest, d, ht, hd, hlt⟩
  · rintro ⟨hs, e, rest, d, ht, hd, hlt⟩
    exact ⟨d, ⟨hs, e, rest, ht, hd⟩, hlt⟩

theorem fetchReached_iff {s : State} {p : PoolIx} :
    fetchReached s p = true ↔ ∃ q d, entry s p = some q ∧ q.fetchTimer = .running d ∧ d ≤ s.clock.cycles := by
  cases he : entry s p <;> simp [fetchReached, he, timerReached_iff]

theorem mem_allStations (a : Addr) : a ∈ allStations := List.mem_finRange a

/-- The expiries counted on REFCLK queued are those that have fallen (R44, R91, R93, R122, R124, R196, R207). -/
theorem mem_timerEvents {s : State} {c : Instr} : c ∈ timerEvents s ↔ CycleExpiry s s.clock.cycles c := by
  have hfetch : (∃ p, fetchReached s p = true ∧ Instr.fetchDelayExpiry p = c) ↔
      ∃ p q d, c = .fetchDelayExpiry p ∧ entry s p = some q ∧ q.fetchTimer = .running d ∧ d ≤ s.clock.cycles := by
    simp only [fetchReached_iff]
    exact ⟨fun ⟨p, ⟨q, d, h⟩, hc⟩ => ⟨p, q, d, hc.symm, h⟩, fun ⟨p, q, d, hc, h⟩ => ⟨p, ⟨q, d, h⟩, hc.symm⟩⟩
  have hhead : (∃ a, timerReached s (headTimer s a) = true ∧ Instr.headDeadlineExpiry a = c) ↔
      ∃ a d, c = .headDeadlineExpiry a ∧ headTimer s a = .running d ∧ d ≤ s.clock.cycles := by
    simp only [timerReached_iff]
    exact ⟨fun ⟨a, ⟨d, h⟩, hc⟩ => ⟨a, d, hc.symm, h⟩, fun ⟨a, d, hc, h⟩ => ⟨a, ⟨d, h⟩, hc.symm⟩⟩
  have hbus : (∃ d, s.hp.bus.map (fun b => b.begunAt + busTimeoutCycles) = some d ∧ d ≤ s.clock.cycles) ↔
      ∃ b, s.hp.bus = some b ∧ b.begunAt + 32000 ≤ s.clock.cycles := by
    cases s.hp.bus <;> simp [busTimeoutCycles, cyclesPerMs]
  simp only [timerEvents, List.mem_append, mem_eventIf, List.mem_map, List.mem_filter, List.mem_finRange, mem_allStations,
    true_and, hfetch, hhead, reached_iff, hbus, resetIsOver, Bool.and_eq_true, CycleExpiry, or_assoc]

theorem eventIf_sublist (ok : Bool) (i : Instr) : (eventIf ok i).Sublist [i] := by
  cases ok <;> simp [eventIf]

/-- Every expiry an octet time can queue, once. -/
def allExpiries : List Instr :=
  ([.returnLimitExpiry] ++ [.probeTimerExpiry]) ++
    ([.settleTimerExpiry] ++ (List.finRange 64).map .fetchDelayExpiry ++ allStations.map .headDeadlineExpiry ++
      [.sweepTimerExpiry] ++ [.callTimerExpiry] ++ [.accessTimeout] ++ [.powerOnResetEnd])

theorem nodup_allExpiries : allExpiries.Nodup := by
  have hfetch : ((List.finRange 64).map Instr.fetchDelayExpiry).Nodup :=
    (List.nodup_finRange 64).map fun _ _ h => Instr.fetchDelayExpiry.inj h
  have hhead : (allStations.map Instr.headDeadlineExpiry).Nodup :=
    (List.nodup_finRange 32).map fun _ _ h => Instr.headDeadlineExpiry.inj h
  have hapart : ∀ (p : PoolIx) (c : Instr), (∃ a ∈ allStations, Instr.headDeadlineExpiry a = c) ∨ c = .sweepTimerExpiry ∨
      c = .callTimerExpiry ∨ c = .accessTimeout ∨ c = .powerOnResetEnd → ¬Instr.fetchDelayExpiry p = c := by
    rintro p c (⟨a, -, rfl⟩ | rfl | rfl | rfl | rfl) <;> nofun
  simpa [allExpiries, List.nodup_append, hfetch, hhead] using hapart

theorem nodup_expiries (s : State) : (octetEvents s ++ timerEvents s).Nodup := by
  refine nodup_allExpiries.sublist (List.Sublist.append ?_ ?_)
  · exact (eventIf_sublist ..).append (eventIf_sublist ..)
  · exact ((((((eventIf_sublist ..).append (List.filter_sublist.map _)).append (List.filter_sublist.map _)).append
      (eventIf_sublist ..)).append (eventIf_sublist ..)).append (eventIf_sublist ..)).append (eventIf_sublist ..)

/-! ### The transmitter -/

theorem waitingBegun_iff (s : State) :
    waitingBegun s = true ↔ ∃ x y rest, s.tx.sending = some x ∧ s.tx.waiting = y :: rest ∧ x.id = y.id := by
  unfold waitingBegun
  cases s.tx.sending <;> cases s.tx.waiting <;> simp

theorem sentToItsEnd_iff (s : State) : sentToItsEnd s = true ↔ ∃ x, s.tx.sending = some x ∧ x.left = [] := by
  unfold sentToItsEnd
  cases s.tx.sending <;> simp

/-- What the transmitter sends in one octet time (R1, R15, R16, R207). -/
theorem sendSymbol_tx (s : State) :
    (s.hp.powerOnReset = true → (sendSymbol s).tx = { s.tx with line := .quiet }) ∧
    (s.hp.powerOnReset = false → s.tx.abortNext = true →
      (sendSymbol s).tx = { s.tx with line := .symbol (.control .abort), abortNext := false }) ∧
    (s.hp.powerOnReset = false → s.tx.abortNext = false →
      (∀ x y left, s.tx.sending = some x → x.left = y :: left →
        (sendSymbol s).tx = { s.tx with line := .symbol y, sending := some { id := x.id, left := left } }) ∧
      (∀ x rest y left, s.tx.sending = none → s.tx.waiting = x :: rest → x.run = y :: left →
        (sendSymbol s).tx = { s.tx with line := .symbol y, sending := some { id := x.id, left := left } }) ∧
      ((∀ x, s.tx.sending = some x → x.left = []) → (s.tx.sending = none → s.tx.waiting = []) →
        (sendSymbol s).tx = { s.tx with line := .symbol (.control .fill) })) := by
  refine ⟨fun h => ?_, fun h ha => ?_, fun h ha => ⟨fun x y left hx hl => ?_, fun x rest y left hx hw hl => ?_, fun hx hw => ?_⟩⟩
  · simp [sendSymbol, h]
  · simp [sendSymbol, h, ha]
  · obtain ⟨id, left'⟩ := x
    obtain rfl : left' = y :: left := hl
    simp [sendSymbol, h, ha, hx]
  · obtain ⟨id, run⟩ := x
    obtain rfl : run = y :: left := hl
    simp [sendSymbol, h, ha, hx, hw]
  · cases hs : s.tx.sending with
    | none => simp [sendSymbol, h, ha, hs, hw hs, idleSymbol]
    | some x =>
      obtain ⟨id, left⟩ := x
      obtain rfl : left = [] := hx _ hs
      simp [sendSymbol, h, ha, hs, idleSymbol]

/-! ### The octet time as a whole -/

/-- The state in which the receiver takes its input: time has passed, the pins are taken, the symbol is sent. -/
def sentOctet (s : State) : State := sendSymbol (takePins (passOctet s))

theorem sendSymbol_kept (s : State) : sendSymbol s = { s with tx := (sendSymbol s).tx } := by
  unfold sendSymbol idleSymbol
  split
  · rfl
  · split
    · rfl
    · split <;> rfl

theorem sentOctet_kept (s : State) : sentOctet s = { takePins (passOctet s) with tx := (sentOctet s).tx } :=
  sendSymbol_kept _

theorem receiverDelivers_eq_false (s : State) : receiverDelivers s = false ↔ s.ls.state = .quiet ∨ s.ls.state = .broken := by
  unfold receiverDelivers
  cases s.ls.state <;> simp

/-- What the receiver takes in this octet time (R18, R24). -/
theorem takeInput_eq (s : State) :
    takeInput s =
      let heard := receive s.clock.octets s.rx (s.lineIn.head?.getD .violation)
      let held := s.ls.state = .quiet ∨ s.ls.state = .broken
      ({ s with lineIn := s.lineIn.tail, rx := if held then .seek else heard.1 }, if held then [] else heard.2) := by
  unfold takeInput
  by_cases h : s.ls.state = .quiet ∨ s.ls.state = .broken
  · simp [h, (receiverDelivers_eq_false s).mpr h]
  · have hd : receiverDelivers s = true := by rw [← Bool.not_eq_false, receiverDelivers_eq_false]; exact h
    simp [h, hd]

/-- A pin takes hold of the part in this octet time (R193, R207). -/
theorem pinEvents_eq (before after : ResetPins) :
    pinEvents before after = if before.released = true ∧ after.released = false then [.powerOnReset] else [] := by
  unfold pinEvents eventIf
  cases before.released <;> cases after.released <;> rfl

/-- What the receiver hears in this octet time, and what it delivers (R18). -/
def heardIn (s : State) : Receiver × List Delivery :=
  receive (s.clock.octets + 1) s.rx (s.lineIn.head?.getD .violation)

/-- The state after the octet time, its events not yet queued. -/
def afterOctet (s : State) : State :=
  { takePins (passOctet s) with
    tx := (sentOctet s).tx
    lineIn := s.lineIn.tail
    rx := if s.ls.state = .quiet ∨ s.ls.state = .broken then .seek else (heardIn s).1 }

theorem takeInput_sentOctet (s : State) :
    takeInput (sentOctet s) =
      (afterOctet s, if s.ls.state = .quiet ∨ s.ls.state = .broken then [] else (heardIn s).2) := by
  rw [takeInput_eq, sentOctet_kept]
  rfl

/-- An octet time: the state it leaves, and the events that fall in it. -/
theorem tick_eq (s : State) :
    tick s = { afterOctet s with
      pending := pinEvents s.hp.pins (afterOctet s).hp.pins ++ octetEvents (afterOctet s) ++ transmitterEvents (afterOctet s) ++
        (if s.ls.state = .quiet ∨ s.ls.state = .broken then [] else (heardIn s).2.map commandOf) ++
        timerEvents (afterOctet s) } := by
  have hmap : (if s.ls.state = .quiet ∨ s.ls.state = .broken then [] else (heardIn s).2).map commandOf =
      if s.ls.state = .quiet ∨ s.ls.state = .broken then [] else (heardIn s).2.map commandOf := by
    split <;> rfl
  rw [← hmap]
  unfold tick
  rw [show takeInput (sendSymbol (takePins (passOctet s))) = _ from takeInput_sentOctet s]

/-- The pins in this octet time, and the 1 ms of power-on reset (R207). -/
theorem resetHold_afterOctet (s : State) :
    ((afterOctet s).hp.pins.released = false → (afterOctet s).hp.resetHold = none) ∧
    ((afterOctet s).hp.pins.released = true → (afterOctet s).hp.resetHold =
      if s.hp.pins.released then s.hp.resetHold else some ((afterOctet s).clock.cycles + 16000)) := by
  have hhold : (afterOctet s).hp.resetHold = resetHoldAfter (afterOctet s).clock.cycles s.hp (afterOctet s).hp.pins := rfl
  constructor <;> intro h <;> rw [hhold, resetHoldAfter, h] <;> rfl

end Sys2Proof.Machine

section

set_option Elab.async false

open Sys2Proof.Machine

/-- Settles O1, which is the step's second case. -/
theorem stepRunsFrontCommand : Obligations.StepRunsFrontCommand := by
  unfold Obligations.StepRunsFrontCommand
  intro c rest s h
  unfold step
  rw [h]

/-- Settles O2: the octet time is taken apart into its parts, and each of its lists of events is read off. -/
theorem idleStepPassesOneOctetTime : Obligations.IdleStepPassesOneOctetTime := by
  unfold Obligations.IdleStepPassesOneOctetTime
  intro s hidle
  have hstep : step s = .next (tick s) := by
    unfold step
    rw [hidle]
  rw [tick_eq] at hstep
  obtain ⟨hquiet, habort, hsymbol⟩ := sendSymbol_tx (takePins (passOctet s))
  obtain ⟨hheld, hfree⟩ := resetHold_afterOctet s
  refine ⟨_, octetEvents (afterOctet s), transmitterEvents (afterOctet s), timerEvents (afterOctet s), hstep, rfl, rfl, rfl, rfl,
    rfl, rfl, rfl, rfl, rfl, rfl, rfl, rfl, hheld, hfree, hquiet, habort, hsymbol, ⟨rfl, ?queue⟩, nodup_expiries _,
    fun c => mem_octetEvents, fun c => mem_timerEvents, ?sublist, ?begin, ?ended⟩
  case queue => rw [pinEvents_eq]; rfl
  case sublist => exact (eventIf_sublist ..).append (eventIf_sublist ..)
  case begin =>
    rw [transmitterEvents, List.mem_append, mem_eventIf, mem_eventIf, waitingBegun_iff]
    simp
  case ended =>
    rw [transmitterEvents, List.mem_append, mem_eventIf, mem_eventIf, sentToItsEnd_iff]
    simp

end

/-! ## The state after reset -/

namespace Sys2Proof.Machine

set_option Elab.async false

theorem ringInv_reset : RingInv State.reset :=
  ⟨engineLoopOk_of_quiet rfl (.inl rfl), configOk_of_none rfl, (accessOk_off rfl).mpr ⟨rfl, rfl⟩, .of_unset rfl rfl⟩

/-- Nothing is reserved, in transit, sent or taken up in a state whose pool, transit list and records are those after reset, and
whose access on the bus is left over. -/
theorem slotInv_of_reset {s : State} (hrp : s.rp = State.reset.rp := by rfl) (hls : s.ls = State.reset.ls := by rfl)
    (hru : s.ru = State.reset.ru := by rfl) (hcu : s.cu = State.reset.cu := by rfl)
    (hbus : ∀ x ∈ accesses s, x.discarded = true) : SlotInv s := by
  have hentry : ∀ p, entry s p = none := fun p => (entry_congr hrp p).trans (entry_reset p)
  have hholds : holdsSlot s = fun _ => false := funext fun p => by simp [holdsSlot, hentry]
  have htransit : s.ls.transit = [] := by rw [hls]; rfl
  have hqueue : s.cu.queue = [] := by rw [hcu]; rfl
  have hreserved : s.cu.reserved = 0 := by rw [hcu]; rfl
  have hanswer : s.cu.callAnswer = none := by rw [hcu]; rfl
  have hsweep : s.ru.sweep = none := by rw [hru]; rfl
  have hreports : s.ru.reports = [] := by rw [hru]; rfl
  have hdecision : s.ru.decision = none := by rw [hru]; rfl
  refine ⟨poolOk_reset.of_rp_eq hrp, ?_, ⟨?_, ?_, ?_⟩, ⟨?_, ?_⟩, fun p q hq => ?_, fun x hx hd => ?_⟩
  · simp [SlotsOk, generalOccupied, hqueue, hreserved]
  · simp [htransit]
  · simp [hsweep]
  · simp [slotsNeeded, htransit, hreports, hdecision, hanswer, hholds]
  · simp [htransit]
  · simp [htransit]
  · rw [hentry] at hq
    cases hq
  · rw [hbus x hx] at hd
    cases hd

theorem slotInv_reset : SlotInv State.reset := slotInv_of_reset (hbus := nofun)

end Sys2Proof.Machine

section

set_option Elab.async false

open Sys2Proof.Machine

/-- Settles O4, register by register and field by field. -/
theorem resetValues : Obligations.ResetValues := by
  unfold Obligations.ResetValues
  refine ⟨rfl, rfl, rfl, rfl, rfl, rfl, rfl, rfl, rfl, rfl, rfl, rfl, rfl, rfl, rfl, rfl, rfl, rfl, rfl, rfl, rfl, station_reset,
    rfl, rfl, rfl, ?acks, rfl, rfl, ?turns, rfl, rfl, rfl, rfl, ?timers, rfl, entry_reset, listOf_reset, rfl, rfl, rfl, rfl, rfl,
    rfl, rfl, rfl, rfl, rfl, rfl, rfl, rfl, rfl, ?registers⟩
  case acks => simp [State.reset]
  case turns => simp [State.reset]
  case timers => simp [headTimer, State.reset]
  case registers => exact fun r => by cases r <;> rfl

/-- Settles O5: each invariant holds where nothing is in transit, placed, reserved or asked for. -/
theorem resetHasTheInvariants : Obligations.ResetHasTheInvariants := by
  unfold Obligations.ResetHasTheInvariants
  exact ⟨loopInv_of_reset, ringInv_reset, poolOk_reset, stationsOk_reset, noticesOk_reset, fun _ _ => rfl, slotInv_reset⟩

end

/-! ## The end of a step that made at most one request (R195) -/

namespace Sys2Proof.Machine

set_option Elab.async false

/-- Beginning an access moves the oldest one of the list to the bus, and changes nothing else. -/
theorem beginAccess_eq (s : State) :
    beginAccess s = { s with hp := { s.hp with bus := (beginAccess s).hp.bus, queue := (beginAccess s).hp.queue } } := by
  unfold beginAccess
  split
  · split <;> rfl
  · rfl

theorem settleBus_of_le {n : Nat} {s : State} (h : s.hp.queue.length ≤ n + 1) : settleBus n s = beginAccess s := by
  rw [settleBus, joinRequests_of_le n s h]

/-- The sequencer of a state with this bus and this list. -/
def withSequencer (bus : Option BusAccess) (queue : List Access) (s : State) : State :=
  { s with hp := { s.hp with bus := bus, queue := queue } }

theorem accesses_settleBus {n : Nat} {s : State} (h : s.hp.queue.length ≤ n + 1) : accesses (settleBus n s) = accesses s := by
  rw [settleBus_of_le h, accesses_beginAccess]

/-- The end of a step that made at most one request moves accesses in the sequencer, and changes nothing else. -/
theorem settleBus_eq {n : Nat} {s : State} (h : s.hp.queue.length ≤ n + 1) :
    ∃ bus queue, settleBus n s = withSequencer bus queue s ∧ accesses (withSequencer bus queue s) = accesses s := by
  refine ⟨(settleBus n s).hp.bus, (settleBus n s).hp.queue, ?_⟩
  have hsettled : settleBus n s = withSequencer (settleBus n s).hp.bus (settleBus n s).hp.queue s := by
    rw [settleBus_of_le h]
    exact beginAccess_eq s
  exact ⟨hsettled, hsettled ▸ accesses_settleBus h⟩

/-! ## STOP and the drain (R46, R189) -/

/-- The loop enters QUIET with the engine STOPPING, which takes it to STOPPED (R189). -/
theorem enterQuiet_of_stopping {s : State} (h : s.hp.engine = .stopping) :
    enterQuiet s = { s with
      hp := { s.hp with engine := .stopped }
      ls := { s.ls with state := .quiet, transit := [], probeTimer := none, settleTimer := none }
      cu := { s.cu with pendingCauses := withEngineCause s.cu.pendingCauses }
      rx := .seek } := by
  unfold enterQuiet stopWhenQuiet
  rw [if_pos ⟨h, rfl⟩]
  rfl

theorem enterQuiet_of_not_stopping {s : State} (h : s.hp.engine ≠ .stopping) :
    enterQuiet s = { s with
      ls := { s.ls with state := .quiet, transit := [], probeTimer := none, settleTimer := none }
      rx := .seek } := by
  unfold enterQuiet stopWhenQuiet
  rw [if_neg fun hq => h hq.1]

/-- The loop drains while something is in transit, in a loop state that has a transit list to drain (R46). -/
theorem drainLoop_of_transit {s : State} (hstate : s.ls.state = .opened ∨ s.ls.state = .probing ∨ s.ls.state = .calling)
    (htransit : s.ls.transit ≠ []) : drainLoop s = { s with ls := { s.ls with state := .draining } } := by
  unfold drainLoop
  rcases hstate with h | h | h <;> rw [h] <;> simp only [if_neg htransit]

/-- With nothing in transit, and from BROKEN, the loop goes to QUIET (R46). -/
theorem drainLoop_of_empty {s : State}
    (h : s.ls.state = .broken ∨
      (s.ls.state = .opened ∨ s.ls.state = .probing ∨ s.ls.state = .calling) ∧ s.ls.transit = []) :
    drainLoop s = enterQuiet s := by
  unfold drainLoop
  rcases h with h | ⟨h | h | h, hempty⟩ <;> rw [h]
  all_goals simp only [if_pos hempty]

/-- STOP, up to the end of its step: the interval timers stop. -/
def stopping (s : State) : State := stopIntervalTimers { s with hp := { s.hp with engine := .stopping } }

theorem stopEngine_of_transit {s : State} (hstate : s.ls.state = .opened ∨ s.ls.state = .probing ∨ s.ls.state = .calling)
    (htransit : s.ls.transit ≠ []) : stopEngine s = { stopping s with ls := { s.ls with state := .draining } } :=
  drainLoop_of_transit (s := stopping s) hstate htransit

/-- STOP with nothing to drain, up to the end of its step (R189). -/
def stoppedAtOnce (s : State) : State :=
  { stopping s with
    hp := { s.hp with engine := .stopped }
    ls := { s.ls with state := .quiet, transit := [], probeTimer := none, settleTimer := none }
    cu := { s.cu with pendingCauses := withEngineCause s.cu.pendingCauses }
    rx := .seek }

theorem stopEngine_of_empty {s : State}
    (h : s.ls.state = .broken ∨
      (s.ls.state = .opened ∨ s.ls.state = .probing ∨ s.ls.state = .calling) ∧ s.ls.transit = []) :
    stopEngine s = stoppedAtOnce s :=
  (drainLoop_of_empty (s := stopping s) h).trans (enterQuiet_of_stopping rfl)

end Sys2Proof.Machine

section

set_option Elab.async false

open Sys2Proof.Machine

/-- Settles O18: by the loop state and the transit list the loop drains, or goes to QUIET and the engine on to STOPPED. -/
theorem stopDrainsOrStops : Obligations.StopDrainsOrStops := by
  unfold Obligations.StopDrainsOrStops
  intro s hpor hrunning hloop
  have hexec := exec_stop_of_running hpor hrunning
  have hstate := (running_iff hloop).mp hrunning
  by_cases hdrains : s.ls.state ≠ .broken ∧ s.ls.transit ≠ []
  · rw [stopEngine_of_transit (by tauto) hdrains.2] at hexec
    obtain ⟨bus, queue, ht, hacc⟩ := settleBus_eq (n := s.hp.queue.length)
      (s := { stopping s with ls := { s.ls with state := .draining } }) (Nat.le_succ _)
    exact ⟨_, hexec.trans (congrArg _ ht), hacc, rfl, rfl, rfl, rfl, rfl, rfl, ⟨rfl, rfl, rfl, rfl⟩,
      fun _ => ⟨rfl, rfl, rfl, rfl⟩, fun h => absurd h (by tauto)⟩
  · rw [stopEngine_of_empty (by tauto)] at hexec
    obtain ⟨bus, queue, ht, hacc⟩ := settleBus_eq (n := s.hp.queue.length) (s := stoppedAtOnce s) (Nat.le_succ _)
    exact ⟨_, hexec.trans (congrArg _ ht), hacc, rfl, rfl, rfl, rfl, rfl, rfl, ⟨rfl, rfl, rfl, rfl⟩, fun h => absurd h hdrains,
      fun _ => ⟨rfl, rfl, rfl, rfl⟩⟩

end

/-! ## The pins and power-on reset (R193, R207) -/

namespace Sys2Proof.Machine

set_option Elab.async false

theorem powerOnReset_eq_false {hp : HostPort} : hp.powerOnReset = false ↔ hp.pins.released = true ∧ hp.resetHold = none := by
  unfold HostPort.powerOnReset
  cases hp.pins.released <;> cases hp.resetHold <;> simp

theorem powerOnReset_of_held {hp : HostPort} (h : hp.pins.released = false) : hp.powerOnReset = true := by
  simp [HostPort.powerOnReset, h]

theorem released_iff (p : ResetPins) : p.released = true ↔ p = { resetHigh := true, vddInRange := true } := by
  obtain ⟨high, range⟩ := p
  cases high <;> cases range <;> simp [ResetPins.released]

/-- The line in an octet time is that of its symbol (R1). -/
theorem tick_tx (s : State) : (tick s).tx = (sentOctet s).tx := by rw [tick_eq]; rfl

/-- The pins after an octet time, and what holds power-on reset then. -/
theorem tick_hp (s : State) : (tick s).hp = (takePins (passOctet s)).hp := by rw [tick_eq]; rfl

theorem tick_hp_pins (s : State) : (tick s).hp.pins = s.pinsIn.head?.getD s.hp.pins := by rw [tick_hp]; rfl

/-- While a pin holds the part the line is quiet (R207). -/
theorem tick_line_of_held {s : State} (h : (tick s).hp.powerOnReset = true) : (tick s).tx.line = .quiet := by
  rw [tick_tx]
  rw [tick_hp] at h
  exact congrArg Transmitter.line ((sendSymbol_tx (takePins (passOctet s))).1 h)

/-- Where both pins have let go before and now, and no 1 ms runs, the part is not in power-on reset. -/
theorem tick_powerOnReset_eq_false {s : State} (h : s.hp.powerOnReset = false)
    (hpins : (s.pinsIn.head?.getD s.hp.pins).released = true) : (tick s).hp.powerOnReset = false := by
  obtain ⟨hreleased, hhold⟩ := powerOnReset_eq_false.mp h
  refine powerOnReset_eq_false.mpr ⟨?_, ?_⟩
  · rw [tick_hp_pins, hpins]
  · have hfree := (resetHold_afterOctet s).2 hpins
    rw [hreleased, if_pos rfl, hhold] at hfree
    rw [tick_hp]
    exact hfree

end Sys2Proof.Machine

section

set_option Elab.async false

open Sys2Proof.Machine

/-- Settles O19: the reset state but for the sequencer's bus and the transmitter, whose next symbol is ABORT or FILL. -/
theorem resetReturnsEveryBlock : Obligations.ResetReturnsEveryBlock := by
  unfold Obligations.ResetReturnsEveryBlock
  intro s hpor
  have hpins : State.reset.hp.pins = s.hp.pins := ((released_iff _).mp (powerOnReset_eq_false.mp hpor).1).symm
  have hfree : (s.pinsIn.head?.getD s.hp.pins).released = true → (tick (controllerReset s)).hp.powerOnReset = false :=
    fun h => tick_powerOnReset_eq_false rfl (by rw [← hpins] at h; exact h)
  have hsends := sendSymbol_tx (takePins (passOctet (controllerReset s)))
  refine ⟨_, exec_reset_of_not_powerOnReset hpor, rfl, rfl, rfl, rfl, rfl, rfl, rfl, rfl, rfl, rfl, rfl,
    fun h => ⟨fun hsending => ?abort, fun hsending habort => ?fill⟩, fun h => ?quiet, rfl, rfl, rfl, rfl⟩
  case abort =>
    rw [tick_tx]
    have hnext : (s.tx.sending.isSome || s.tx.abortNext) = true := by simp [Option.isSome_iff_ne_none.mpr hsending]
    exact congrArg Transmitter.line (hsends.2.1 (by rw [← tick_hp]; exact hfree h) hnext)
  case fill =>
    rw [tick_tx]
    have hnext : (s.tx.sending.isSome || s.tx.abortNext) = false := by simp [hsending, habort]
    exact congrArg Transmitter.line ((hsends.2.2 (by rw [← tick_hp]; exact hfree h) hnext).2.2 nofun fun _ => rfl)
  case quiet =>
    refine tick_line_of_held (powerOnReset_of_held ?_)
    rw [tick_hp_pins]
    rw [← hpins] at h
    exact h

end

/-! ## Power-on reset (R193, R207) -/

namespace Sys2Proof.Machine

set_option Elab.async false

/-- Power-on reset holds the part by a pin, and leaves the level of VDD alone (R193, R207). -/
theorem assertReset_spec (p : ResetPins) :
    (assertReset p).released = false ∧ (assertReset p).vddInRange = p.vddInRange ∧ (p.released = false → assertReset p = p) := by
  obtain ⟨high, range⟩ := p
  cases high <;> cases range <;> simp [assertReset, ResetPins.released]

theorem readRegister_of_powerOnReset {s : State} (h : s.hp.powerOnReset = true) (r : Register) : readRegister r s = 0 := by
  simp [readRegister, h]

theorem interruptLine_of_powerOnReset {s : State} (h : s.hp.powerOnReset = true) : interruptLine s = false := by
  simp [interruptLine, h]

/-- While power-on reset lasts the commands of CONTROL change nothing (R193). -/
theorem exec_control_of_powerOnReset {s : State} (h : s.hp.powerOnReset = true) {c : Instr}
    (hc : c ∈ [Instr.start, .stop, .reset]) : exec c s = .next s := by
  simp only [List.mem_cons, List.not_mem_nil, or_false] at hc
  rcases hc with rfl | rfl | rfl
  · cases he : s.hp.engine <;> simp [exec, execStart, answer, answerWithBus, h, he]
  · cases he : s.hp.engine <;> simp [exec, execStop, answer, answerWithBus, h, he]
  · simp [exec, execReset, answer, h]

/-- While power-on reset lasts the other register writes change nothing (R193). -/
theorem exec_write_of_powerOnReset {s : State} (h : s.hp.powerOnReset = true) (word : HostWord) :
    exec (.badCommand word) s = .next s ∧ exec (.configAddressWrite word) s = .next s ∧
      exec (.requestTailWrite word) s = .next s ∧ exec (.bufferTailWrite word) s = .next s ∧
      exec (.completionHeadWrite word) s = .next s ∧ exec (.interruptAcknowledge word) s = .next s ∧
      exec (.interruptEnable word) s = .next s := by
  simp [exec, execBadCommand, execConfigAddressWrite, execRequestTailWrite, execBufferTailWrite, execCompletionHeadWrite,
    execInterruptAcknowledge, execInterruptEnable, answer, answerWithBus, h]

theorem exec_registerWrite_of_powerOnReset {s : State} (h : s.hp.powerOnReset = true) (r : Register) (bits : Nat) :
    exec (.registerWrite r bits) s = .next s := by
  simp [exec, execRegisterWrite, answer, h]

/-- The end of power-on reset falls only once both pins have let go (R207). -/
theorem exec_powerOnResetEnd_of_held {s : State} (h : s.hp.pins.released = false) : exec .powerOnResetEnd s = .next s := by
  simp [exec, execPowerOnResetEnd, answer, resetIsOver, h]

theorem exec_powerOnResetEnd_of_not_powerOnReset {s : State} (h : s.hp.powerOnReset = false) :
    exec .powerOnResetEnd s = .next s := by
  obtain ⟨-, hhold⟩ := powerOnReset_eq_false.mp h
  simp [exec, execPowerOnResetEnd, answer, resetIsOver, reached, hhold]

theorem exec_powerOnResetEnd {s : State} {due : Nat} (hpins : s.hp.pins.released = true) (hhold : s.hp.resetHold = some due) :
    exec .powerOnResetEnd s = .next (if due ≤ s.clock.cycles then powerOnResetEnds s else s) := by
  simp [exec, execPowerOnResetEnd, answer, resetIsOver, reached, hpins, hhold]

/-- While a pin holds the part no end of power-on reset falls in an octet time (R207). -/
theorem powerOnResetEnd_not_mem_tick {s : State} (h : (s.pinsIn.head?.getD s.hp.pins).released = false) :
    .powerOnResetEnd ∉ (tick s).pending := by
  have hpins : (afterOctet s).hp.pins.released = false := h
  have hcommand : ∀ d, commandOf d ≠ .powerOnResetEnd := fun d => by unfold commandOf; split <;> exact nofun
  rw [tick_eq]
  simp only [List.mem_append, mem_octetEvents, mem_timerEvents, pinEvents_eq, transmitterEvents, mem_eventIf]
  rintro ((((hpin | hoctet) | hsent) | hdelivery) | htimer)
  · split at hpin <;> simp at hpin
  · simp [OctetExpiry] at hoctet
  · simp at hsent
  · split at hdelivery
    · simp at hdelivery
    · obtain ⟨d, -, hd⟩ := List.mem_map.mp hdelivery
      exact hcommand d hd
  · simp [CycleExpiry, hpins] at htimer

end Sys2Proof.Machine

section

set_option Elab.async false

open Sys2Proof.Machine

/-- Settles O20: the reset state under a pin that holds it; while it lasts no register command takes effect, and it ends 1 ms
after both pins let go. -/
theorem powerOnReset : Obligations.PowerOnReset := by
  unfold Obligations.PowerOnReset
  refine ⟨fun s => ?entered, fun s h => ?lasts, fun s hpins => ?held, fun s hheld hpins => ?begins,
    fun s due hpins hhold => ?ends, fun s h => ?not⟩
  case entered =>
    obtain ⟨hheld, hrange, hsame⟩ := assertReset_spec s.hp.pins
    exact ⟨Sys2Proof.Machine.powerOnReset s, rfl, rfl, powerOnReset_of_held hheld, hheld, hrange, hsame,
      rfl, rfl, rfl, rfl, rfl, rfl, rfl, rfl, rfl, rfl, rfl, rfl, rfl⟩
  case lasts =>
    exact ⟨readRegister_of_powerOnReset h, interruptLine_of_powerOnReset h, fun _ => exec_control_of_powerOnReset h,
      exec_write_of_powerOnReset h, exec_registerWrite_of_powerOnReset h⟩
  case held =>
    have hreleased : (tick s).hp.pins.released = false := by rw [tick_hp_pins, hpins]
    have hpor := powerOnReset_of_held hreleased
    refine ⟨hpor, ?_, tick_line_of_held hpor, powerOnResetEnd_not_mem_tick hpins, exec_powerOnResetEnd_of_held hreleased⟩
    rw [tick_hp]
    exact (resetHold_afterOctet s).1 hpins
  case begins =>
    have hhold : (tick s).hp.resetHold = some ((tick s).clock.cycles + 16000) := by
      have hnow := (resetHold_afterOctet s).2 hpins
      rw [hheld, if_neg Bool.false_ne_true] at hnow
      rw [tick_eq]
      exact hnow
    exact ⟨by simp [HostPort.powerOnReset, hhold], hhold⟩
  case ends =>
    rw [exec_powerOnResetEnd hpins hhold]
    refine ⟨fun hdue => ⟨powerOnResetEnds s, by rw [if_pos hdue], powerOnReset_eq_false.mpr ⟨hpins, rfl⟩, rfl⟩, fun hdue => ?_⟩
    rw [if_neg hdue.not_ge]
  case not =>
    exact h.elim exec_powerOnResetEnd_of_not_powerOnReset exec_powerOnResetEnd_of_held

end

/-! ## Ring reads asked for (R101, R138), and the end of a step -/

namespace Sys2Proof.Machine

set_option Elab.async false

/-- With the engine where no access may begin, a step that made at most one request ends as it stands (R197). -/
theorem settleBus_of_not_mayBegin {n : Nat} {s : State} (h : s.hp.queue.length ≤ n + 1)
    (hengine : mayBeginAccess s.hp.engine = false) : settleBus n s = s := by
  rw [settleBus_of_le h]
  unfold beginAccess
  split
  · rw [hengine, if_neg Bool.false_ne_true]
  · rfl

/-- The conditions of a record read (R138). -/
def asksRecord (s : State) : Prop :=
  s.hp.engine = .running ∧ s.ri.head ≠ s.ri.tail ∧ s.ri.held = none ∧ s.ri.reading = false

/-- The conditions of a descriptor read (R101). -/
def asksDescriptor (s : State) : Prop :=
  s.hp.engine = .running ∧ s.ru.cache.length < 8 ∧ s.ru.head ≠ s.hp.bufferTail ∧ s.ru.reading = false

theorem testRecordRead_of_asks {s : State} {c : Configuration} (hc : s.hp.config = some c) (h : asksRecord s) :
    testRecordRead s = requestAccess (recordReadAt c s.ri.head) { s with ri := { s.ri with reading := true } } := by
  obtain ⟨hrunning, hindex, hheld, hreading⟩ := h
  unfold testRecordRead
  rw [if_pos (by simp [isRunning, hrunning, hindex, hheld, hreading]), configured_of_some hc]
  rfl

theorem testRecordRead_of_not_asks {s : State} (h : ¬asksRecord s) : testRecordRead s = s := by
  unfold testRecordRead
  exact if_neg (by simpa [isRunning, asksRecord] using h)

theorem testDescriptorRead_of_asks {s : State} {c : Configuration} (hc : s.hp.config = some c) (h : asksDescriptor s) :
    testDescriptorRead s =
      requestAccess (descriptorReadAt c s.ru.head) { s with ru := { s.ru with reading := true } } := by
  obtain ⟨hrunning, hroom, hindex, hreading⟩ := h
  unfold testDescriptorRead
  rw [if_pos (by simp [isRunning, hrunning, hroom, hindex, hreading]), configured_of_some hc]
  rfl

theorem testDescriptorRead_of_not_asks {s : State} (h : ¬asksDescriptor s) : testDescriptorRead s = s := by
  unfold testDescriptorRead
  exact if_neg (by simpa [isRunning, asksDescriptor] using h)

/-- An index advanced with the wrap is the next one modulo the ring size. -/
theorem nextIndex_eq_mod {i size : Nat} (h : i < size) : nextIndex i size = (i + 1) % size := by
  unfold nextIndex
  split
  · rw [Nat.mod_eq_of_lt ‹_›]
  · rw [show i + 1 = size by omega, Nat.mod_self]

/-- The end of a step that tested for a record read: one is asked for where its conditions hold, and nothing else changes. -/
theorem settleBus_testRecordRead {n : Nat} {s : State} {c : Configuration} (hc : s.hp.config = some c)
    (hn : s.hp.queue.length ≤ n) :
    ∃ bus queue reading,
      settleBus n (testRecordRead s) = withSequencer bus queue { s with ri := { s.ri with reading := reading } } ∧
      (asksRecord s → reading = true ∧
        accesses (withSequencer bus queue s) = accesses s ++ [recordReadAt c s.ri.head]) ∧
      (¬asksRecord s → reading = s.ri.reading ∧ accesses (withSequencer bus queue s) = accesses s) := by
  by_cases h : asksRecord s
  · rw [testRecordRead_of_asks hc h]
    obtain ⟨bus, queue, ht, hacc⟩ := settleBus_eq (n := n)
      (s := requestAccess (recordReadAt c s.ri.head) { s with ri := { s.ri with reading := true } })
      (by simpa [requestAccess] using hn)
    exact ⟨bus, queue, true, ht, fun _ => ⟨rfl, hacc.trans (accesses_requestAccess ..)⟩, fun hn => absurd h hn⟩
  · rw [testRecordRead_of_not_asks h]
    obtain ⟨bus, queue, ht, hacc⟩ := settleBus_eq (n := n) (s := s) (by omega)
    exact ⟨bus, queue, s.ri.reading, ht, fun hy => absurd hy h, fun _ => ⟨rfl, hacc⟩⟩

/-- The end of a step that tested for a descriptor read: one is asked for where its conditions hold, and nothing else changes. -/
theorem settleBus_testDescriptorRead {n : Nat} {s : State} {c : Configuration} (hc : s.hp.config = some c)
    (hn : s.hp.queue.length ≤ n) :
    ∃ bus queue reading,
      settleBus n (testDescriptorRead s) = withSequencer bus queue { s with ru := { s.ru with reading := reading } } ∧
      (asksDescriptor s → reading = true ∧
        accesses (withSequencer bus queue s) = accesses s ++ [descriptorReadAt c s.ru.head]) ∧
      (¬asksDescriptor s → reading = s.ru.reading ∧ accesses (withSequencer bus queue s) = accesses s) := by
  by_cases h : asksDescriptor s
  · rw [testDescriptorRead_of_asks hc h]
    obtain ⟨bus, queue, ht, hacc⟩ := settleBus_eq (n := n)
      (s := requestAccess (descriptorReadAt c s.ru.head) { s with ru := { s.ru with reading := true } })
      (by simpa [requestAccess] using hn)
    exact ⟨bus, queue, true, ht, fun _ => ⟨rfl, hacc.trans (accesses_requestAccess ..)⟩, fun hn => absurd h hn⟩
  · rw [testDescriptorRead_of_not_asks h]
    obtain ⟨bus, queue, ht, hacc⟩ := settleBus_eq (n := n) (s := s) (by omega)
    exact ⟨bus, queue, s.ru.reading, ht, fun hy => absurd hy h, fun _ => ⟨rfl, hacc⟩⟩

/-! ## The accesses a step asks for (R195) -/

/-- Between `s` and `t` the sequencer was asked for accesses that satisfy `P`, and otherwise left alone. -/
def AsksFor (P : Access → Prop) (s t : State) : Prop :=
  t.hp.bus = s.hp.bus ∧ ∃ made, t.hp.queue = s.hp.queue ++ made ∧ ∀ x ∈ made, P x

theorem AsksFor.of_eq {P : Access → Prop} {s t : State} (h : t.hp = s.hp) : AsksFor P s t := by
  rw [AsksFor, h]
  exact ⟨rfl, [], by simp, by simp⟩

theorem AsksFor.refl {P : Access → Prop} (s : State) : AsksFor P s s := .of_eq rfl

theorem AsksFor.trans {P : Access → Prop} {s t u : State} (h1 : AsksFor P s t) (h2 : AsksFor P t u) : AsksFor P s u := by
  obtain ⟨hbus1, made1, hqueue1, hmade1⟩ := h1
  obtain ⟨hbus2, made2, hqueue2, hmade2⟩ := h2
  refine ⟨hbus2.trans hbus1, made1 ++ made2, by rw [hqueue2, hqueue1, List.append_assoc], fun x hx => ?_⟩
  exact (List.mem_append.mp hx).elim (hmade1 x) (hmade2 x)

theorem AsksFor.foldl {P : Access → Prop} {α : Type} {f : State → α → State} (h : ∀ s a, AsksFor P s (f s a)) (as : List α)
    (s : State) : AsksFor P s (as.foldl f s) := by
  induction as generalizing s with
  | nil => exact .refl s
  | cons a as ih => exact (h s a).trans (ih _)

theorem asksFor_requestAccess {P : Access → Prop} {s t : State} {x : Access} (hx : P x) (h : t.hp = s.hp) :
    AsksFor P s (requestAccess x t) := by
  refine ⟨by rw [← h]; rfl, [x], by rw [← h]; rfl, by simpa using hx⟩

/-- The access is not the configuration read. -/
def notConfiguration (x : Access) : Prop := x.kind ≠ .configuration

theorem asksFor_startPayload (p : PoolIx) (s : State) : AsksFor notConfiguration s (startPayload p s) := by
  obtain h | ⟨e, -, h | h⟩ := startPayload_cases p s <;> rw [h]
  · exact .refl s
  · exact .of_eq rfl
  · exact asksFor_requestAccess (by exact nofun) rfl

theorem asksFor_resumeHead (s : State) (a : Addr) : AsksFor notConfiguration s (resumeHead s a) := by
  have hexpiry : AsksFor notConfiguration s (if headTimer s a = .expired then actOnExpiry a s else s) := by
    split
    · exact .of_eq (actOnExpiry_hp a s)
    · exact .refl s
  unfold resumeHead
  generalize (if headTimer s a = .expired then actOnExpiry a s else s) = u at hexpiry
  dsimp only
  split
  · exact hexpiry.trans (asksFor_startPayload _ _)
  · exact hexpiry

theorem asksFor_resumeControl (s : State) : AsksFor notConfiguration s (resumeControl s) := by
  unfold resumeControl
  split
  · exact asksFor_startPayload _ _
  · exact .refl s

theorem asksFor_testRecordRead (s : State) : AsksFor notConfiguration s (testRecordRead s) := by
  unfold testRecordRead
  split
  · exact asksFor_requestAccess (by exact nofun) rfl
  · exact .refl s

theorem asksFor_testDescriptorRead (s : State) : AsksFor notConfiguration s (testDescriptorRead s) := by
  unfold testDescriptorRead
  split
  · exact asksFor_requestAccess (by exact nofun) rfl
  · exact .refl s

/-- Resuming a stopped run asks for no configuration read (R190). -/
theorem asksFor_startFromStopped (s : State) : AsksFor notConfiguration s (startFromStopped s) := by
  have hfetch : ∀ t p, AsksFor notConfiguration t (releaseHeldFetch p t) := fun _ _ => .of_eq (modEntry_hp _ _ _)
  have hstart : AsksFor notConfiguration s (startSweepTimer { s with hp := { s.hp with engine := .running } }) :=
    ⟨rfl, [], by simp, by simp⟩
  simp only [startFromStopped]
  refine .trans ?_ (.of_eq (startProbing_hp _))
  refine .trans ?_ (asksFor_testDescriptorRead _)
  refine .trans ?_ (asksFor_testRecordRead _)
  refine .trans ?_ (asksFor_resumeControl _)
  refine .trans ?_ (.foldl asksFor_resumeHead _ _)
  exact hstart.trans (.foldl hfetch _ _)

/-- The end of a step begins an access or joins those asked for: none comes in that was not there or asked for (R195). -/
theorem mem_accesses_settleBus {n : Nat} {s : State} {x : Access} (h : x ∈ accesses (settleBus n s)) : x ∈ accesses s := by
  rw [settleBus, accesses_beginAccess] at h
  unfold accesses joinRequests at h
  unfold accesses
  simp only [List.mem_append] at h ⊢
  rcases h with h | h | h
  · exact .inl h
  · exact .inr (List.mem_of_mem_take h)
  · exact .inr (List.mem_of_mem_drop ((freeOrder_perm ..).subset h))

theorem AsksFor.mem_accesses {P : Access → Prop} {s t : State} {x : Access} (h : AsksFor P s t) (hx : x ∈ accesses t) :
    x ∈ accesses s ∨ P x := by
  obtain ⟨hbus, made, hqueue, hmade⟩ := h
  rw [accesses, hbus, hqueue, ← List.append_assoc, List.mem_append] at hx
  exact hx.imp id (hmade x)

end Sys2Proof.Machine

/-! ## CONFIG ADDRESS (R181, R183, R185) -/

namespace Sys2Proof.Machine

set_option Elab.async false

theorem exec_configAddressWrite_of_not_powerOnReset {s : State} (h : s.hp.powerOnReset = false) (v : HostWord) :
    exec (.configAddressWrite v) s = .next (configAddressWritten v s) := by
  simp [exec, execConfigAddressWrite, answer, h]

end Sys2Proof.Machine

section

set_option Elab.async false

open Sys2Proof.Machine

/-- Settles O21: the engine state and the value decide the write; the read of a START in OFF is at CONFIG ADDRESS, and a START
in STOPPED asks for no such read. -/
theorem configAddressWrites : Obligations.ConfigAddressWrites := by
  unfold Obligations.ConfigAddressWrites
  refine ⟨fun s v hpor => ?_, fun s => ⟨_, rfl, rfl⟩⟩
  rw [exec_configAddressWrite_of_not_powerOnReset hpor]
  unfold configAddressWritten
  refine ⟨fun he => by rw [if_pos he]; rfl, fun he hv => by rw [if_neg he, if_neg hv]; rfl,
    fun he hv => by rw [if_neg he, if_pos hv], fun he => ?off, fun he => ?stopped,
    ⟨_, exec_reset_of_not_powerOnReset hpor, rfl⟩⟩
  case off =>
    obtain ⟨bus, queue, ht, hacc⟩ := settleBus_eq (n := s.hp.queue.length) (s := startFromOff s) (by simp [startFromOff, requestAccess])
    exact ⟨_, (exec_start_of_off hpor he).trans (congrArg _ ht), configurationRead s,
      hacc.trans (accesses_requestAccess ..), rfl, rfl⟩
  case stopped =>
    refine ⟨_, exec_start_of_stopped hpor he, ?_, fun x hx hkind => ?_⟩
    · have hsettled := hostKept_settleBus s.hp.queue.length (startFromStopped s)
      have hstarted := (hostAndCompletionsKept_startFromStopped s).1
      rw [hsettled.reading_eq HostPort.configAddress fun _ _ _ => rfl,
        hstarted.reading_eq HostPort.configAddress fun _ _ _ => rfl]
    · exact ((asksFor_startFromStopped s).mem_accesses (mem_accesses_settleBus hx)).resolve_right fun h => h hkind

end

/-! ## Ring tail writes (R137, R182, R183) -/

namespace Sys2Proof.Machine

set_option Elab.async false

/-- A state that no run reaches, in which the statement on ring tail writes fails: the engine is STARTING, the bus stands free, and
the configuration read waits in the list all the same. -/
def freeBusWithWaitingRead : State :=
  { State.reset with hp := { State.reset.hp with engine := .starting, queue := [configurationRead State.reset] } }

/-- A REQUEST TAIL write ends like every step that may ask for an access: the bus does not stay free while an access waits (R195). -/
theorem exec_requestTailWrite_freeBusWithWaitingRead :
    exec (.requestTailWrite 0) freeBusWithWaitingRead = .next { afterRegisterError .ringsUnset freeBusWithWaitingRead with
      hp := { freeBusWithWaitingRead.hp with
        registerError := .ringsUnset
        bus := some { access := configurationRead State.reset, begunAt := 0 }
        queue := [] } } := rfl

end Sys2Proof.Machine

section

set_option Elab.async false

open Sys2Proof.Machine

/-- Refutes O22: a refused tail write changes more than the register error where the bus stands free and an access waits, since the
end of its step begins that access. -/
theorem not_ringTailAndRefusedWrites : ¬ Obligations.RingTailAndRefusedWrites := by
  unfold Obligations.RingTailAndRefusedWrites
  intro h
  have hrefused := ((h.1 freeBusWithWaitingRead 0 rfl).1 (.inr rfl)).1
  rw [exec_requestTailWrite_freeBusWithWaitingRead] at hrefused
  have hbus := congrArg (fun t : State => t.hp.bus) (Host.Outcome.next.inj hrefused)
  exact absurd hbus nofun

end

/-! ## The end of a wanted access (R195, R196) -/

namespace Sys2Proof.Machine

set_option Elab.async false

/-- A wanted access on the bus that ends: the bus is freed, and its owner acts (R195, R196). -/
theorem accessEnds_of_onBus {s : State} {k : AccessKind} {isKind : AccessKind → Bool} (h : OnBus s k) (hk : isKind k = true)
    (owner : AccessKind → State → State) :
    accessEnds isKind owner s = .next (settleBus s.hp.queue.length (owner k (freeBus s))) := by
  obtain ⟨b, hb, rfl, hd⟩ := h
  simp [accessEnds, onBus, answerWithBus, hb, hk, hd]

/-- A wanted access on the bus that faults has the consequence of its kind (R196). -/
theorem exec_faultCommand_of_onBus {s : State} {k : AccessKind} (h : OnBus s k) :
    exec (faultCommand k) s = .next (settleBus s.hp.queue.length (accessFaulted k (freeBus s))) := by
  cases k <;> exact accessEnds_of_onBus h rfl accessFaulted

end Sys2Proof.Machine

/-! ## The ends of a start (R187, R188) -/

section

set_option Elab.async false

open Sys2Proof.Machine

/-- Settles O26: a block with every field accepted is loaded and the first PROBE handed over; a bad field or a faulted read takes the
engine back to OFF, where no access may begin. -/
theorem configurationReadEnds : Obligations.ConfigurationReadEnds := by
  unfold Obligations.ConfigurationReadEnds
  intro s hstarting hbus
  refine ⟨fun octets hlength => ?_, ?_⟩
  · have hexec := exec_configurationReadComplete_of_starting hstarting hbus hlength
    refine ⟨fun haccepted => ?_, fun n hbad => ?_⟩
    · rw [configurationDelivered_of_accepted haccepted] at hexec
      obtain ⟨bus, queue, ht, hacc⟩ := settleBus_eq (n := s.hp.queue.length)
        (s := passToRunning (configurationOf octets) (freeBus s)) (Nat.le_succ _)
      exact ⟨_, hexec.trans (congrArg _ ht), rfl, hacc, rfl, rfl, rfl, rfl, rfl, rfl, rfl, rfl, rfl, rfl, rfl, rfl, rfl⟩
    · rw [configurationDelivered_of_bad hbad, settleBus_of_not_mayBegin (n := s.hp.queue.length)
        (s := startFailed .configRange n (freeBus s)) (Nat.le_succ _) rfl] at hexec
      exact hexec
  · have hexec := exec_faultCommand_of_onBus hbus
    unfold accessFaulted at hexec
    dsimp only at hexec
    rw [if_pos ((freeBus_hp_engine s).trans hstarting), settleBus_of_not_mayBegin (n := s.hp.queue.length)
      (s := startFailed .configRead 0 (freeBus s)) (Nat.le_succ _) rfl] at hexec
    exact hexec

end

/-! ## Records and descriptors delivered (R101, R102, R138) -/

namespace Sys2Proof.Machine

set_option Elab.async false

theorem exec_descriptorReadComplete_of_onBus {s : State} {octets : List Octet} (h : OnBus s .descriptor)
    (hl : ∀ b, s.hp.bus = some b → octets.length = b.access.length) :
    exec (.descriptorReadComplete octets) s =
      .next (settleBus s.hp.queue.length (descriptorDelivered octets (freeBus s))) :=
  readEnds_of_onBus h rfl hl (fun _ => descriptorDelivered octets)

/-- A descriptor as its read delivers it (R102). -/
theorem descriptorOf_eq (index : Nat) (octets : List Octet) :
    descriptorOf index octets =
      { index := index, address := leWord octets 0x00, capacity := min 4096 (leHalf octets 0x04) } := by
  rw [← wordAt_eq_leWord]
  rfl

/-- A descriptor has joined the cache: the ring head has advanced, and no read is under way (R101, R102). -/
def withDescriptor (c : Configuration) (octets : List Octet) (s : State) : State :=
  { s with ru := { s.ru with
      reading := false, head := (s.ru.head + 1) % c.bufferSize
      cache := s.ru.cache ++
        [{ index := s.ru.head, address := leWord octets 0x00, capacity := min 4096 (leHalf octets 0x04) }] } }

theorem descriptorDelivered_eq {s : State} {c : Configuration} (hc : s.hp.config = some c) (hhead : s.ru.head < c.bufferSize)
    (octets : List Octet) : descriptorDelivered octets s = testDescriptorRead (withDescriptor c octets s) := by
  unfold descriptorDelivered
  rw [configured_of_some hc, nextIndex_eq_mod hhead, descriptorOf_eq]
  rfl

end Sys2Proof.Machine

section

set_option Elab.async false

open Sys2Proof.Machine

/-- Settles O28: the record is held under its judgment; the descriptor joins the cache, and the test for the next read is made. -/
theorem ringReadsDelivered : Obligations.RingReadsDelivered := by
  unfold Obligations.RingReadsDelivered
  intro s octets hlength
  refine ⟨fun hbus => ?_, fun c hbus hc hhead => ?_⟩
  · have hexec := exec_requestRecordReadComplete_of_onBus hbus hlength
    obtain ⟨bus, queue, ht, hacc⟩ := settleBus_eq (n := s.hp.queue.length) (s := recordDelivered octets (freeBus s))
      (Nat.le_succ _)
    exact ⟨_, requestRecordOf octets, hexec.trans (congrArg _ ht), rfl, hacc, rfl, rfl, rfl, rfl, wordAt_eq_leWord .., wordAt_eq_leWord ..,
      rfl, rfl, wordAt_eq_leWord .., rfl, rfl, rfl⟩
  · have hexec := exec_descriptorReadComplete_of_onBus hbus hlength
    rw [descriptorDelivered_eq (s := freeBus s) hc hhead] at hexec
    obtain ⟨bus, queue, reading, ht, hasks, hnot⟩ := settleBus_testDescriptorRead (n := s.hp.queue.length)
      (s := withDescriptor c octets (freeBus s)) hc le_rfl
    have hiff : asksDescriptor (withDescriptor c octets (freeBus s)) ↔
        s.hp.engine = .running ∧ s.ru.cache.length < 7 ∧ (s.ru.head + 1) % c.bufferSize ≠ s.hp.bufferTail := by
      simp only [asksDescriptor, withDescriptor, freeBus, List.length_append, List.length_cons, List.length_nil]
      grind
    exact ⟨_, hexec.trans (congrArg _ ht), rfl, fun h => hasks (hiff.mpr h), fun h => hnot (fun hy => h (hiff.mp hy))⟩

end

/-! ## Refusals (R143) -/

namespace Sys2Proof.Machine

set_option Elab.async false

/-- The held record is no longer held, and the intake head has advanced (R140). -/
def withoutRecord (c : Configuration) (s : State) : State :=
  { s with ri := { s.ri with held := none, head := (s.ri.head + 1) % c.requestSize } }

theorem disposeRecord_eq {s : State} {c : Configuration} (hc : s.hp.config = some c) (hhead : s.ri.head < c.requestSize) :
    disposeRecord s = testRecordRead (withoutRecord c s) := by
  unfold disposeRecord
  rw [configured_of_some hc, nextIndex_eq_mod hhead]
  rfl

/-- After the disposal of a record the next one is asked for where the ring holds one and no read is under way (R138). -/
theorem asksRecord_withoutRecord {s : State} {c : Configuration} (hrunning : s.hp.engine = .running) :
    asksRecord (withoutRecord c s) ↔ (s.ri.head + 1) % c.requestSize ≠ s.ri.tail ∧ s.ri.reading = false := by
  simp [asksRecord, withoutRecord, hrunning]

end Sys2Proof.Machine

section

set_option Elab.async false

open Sys2Proof.Machine

/-- Settles O30: the record of the refusal enters the queue through a slot it claims, and the held record is disposed of. -/
theorem refusalAnswersTheRecord : Obligations.RefusalAnswersTheRecord := by
  unfold Obligations.RefusalAnswersTheRecord
  intro s r status c hrunning hc hhead hheld
  have hexec : exec .refusal s = answerWithBus (decide (0 < reservable s))
      (fun x => disposeRecord (enterRecord (refusalRecord r status) .claimNow x)) s := by
    simp [exec, execRefusal, hheld, isRunning, hrunning]
  refine ⟨fun hfull => ?_, fun hroom => ?_⟩
  · have hnone : ¬0 < reservable s := by simp only [reservable, generalOccupied]; omega
    rw [hexec, answerWithBus, if_neg (by simpa using hnone)]
  · have hslot : 0 < reservable s := by simp only [reservable, generalOccupied]; omega
    rw [answerWithBus, if_pos (decide_eq_true hslot),
      disposeRecord_eq (s := enterRecord (refusalRecord r status) .claimNow s) hc hhead] at hexec
    obtain ⟨bus, queue, reading, ht, hasks, hnot⟩ := settleBus_testRecordRead (n := s.hp.queue.length)
      (s := withoutRecord c (enterRecord (refusalRecord r status) .claimNow s)) hc le_rfl
    have hiff := asksRecord_withoutRecord (s := enterRecord (refusalRecord r status) .claimNow s) (c := c) hrunning
    refine ⟨_, hexec.trans (congrArg _ ht), rfl, fun h => hasks (hiff.mpr h), fun h => hnot fun hy => h (hiff.mp hy)⟩

end

/-! ## Octets of numbers and words (R199) -/

namespace Sys2Proof.Machine

set_option Elab.async false

theorem toNat_octetOf_of_lt {n : Nat} (h : n < 256) : (octetOf n).toNat = n := by
  simpa [octetOf] using h

/-- The two octets of a number, read as a field, give it back (R199). -/
theorem half_of_octets {n : Nat} (h : n < 65536) : (octetOf n).toNat + 256 * (octetOf (n / 256)).toNat = n := by
  simp only [octetOf, BitVec.toNat_ofNat]
  omega

/-- The four octets of a word, read as a field, give it back (R199). -/
theorem word_of_octets (w : HostWord) :
    BitVec.ofNat 32 ((octetOf w.toNat).toNat + 256 * (octetOf (w.toNat / 256)).toNat +
      65536 * ((octetOf (w.toNat / 65536)).toNat + 256 * (octetOf (w.toNat / 16777216)).toNat)) = w := by
  have hw := w.isLt
  apply BitVec.eq_of_toNat_eq
  simp only [octetOf, BitVec.toNat_ofNat]
  omega

theorem status_code_eq (x : Status) : x.code = statusNumber x := by cases x <;> rfl
theorem stationState_code_eq (x : StationState) : x.code = stationStateNumber x := by cases x <;> rfl
theorem lastOutcome_code_eq (x : LastOutcome) : x.code = lastOutcomeNumber x := by cases x <;> rfl
theorem loopState_code_eq (x : LoopState) : x.code = loopNumber x := by cases x <;> rfl

end Sys2Proof.Machine

section

set_option Elab.async false

open Sys2Proof.Machine

/-- Settles O39: the fields stand at their offsets by construction, and the octets of a number give it back. -/
theorem recordLayout : Obligations.RecordLayout := by
  unfold Obligations.RecordLayout
  refine ⟨fun r => ⟨rfl, ?_, rfl, toNat_octetOf_of_lt, toNat_octetOf_of_lt, word_of_octets r.tag, half_of_octets, half_of_octets,
    ?_, ?_, rfl⟩, rfl, rfl, rfl, rfl, rfl, rfl, rfl, rfl, rfl, rfl⟩
  · rw [← status_code_eq]; rfl
  · cases hstate : r.stationState <;> simp [recordBody, wordOctets, halfOctets, hstate, absentOctet, octetOf, stationState_code_eq]
  · cases hlast : r.lastOutcome <;> simp [recordBody, wordOctets, halfOctets, hlast, absentOctet, octetOf, lastOutcome_code_eq]

end

/-! ## Timeouts, discarded results, and ends that are no event (R196, R198) -/

namespace Sys2Proof.Machine

set_option Elab.async false

/-- The command that says an access of a kind faulted ends it, with the consequence of its kind unless its result is discarded
(R196, R198). -/
theorem exec_faultCommand {s : State} {b : BusAccess} (h : s.hp.bus = some b) :
    exec (faultCommand b.access.kind) s = .next (settleBus s.hp.queue.length
      (if b.access.discarded then freeBus s else accessFaulted b.access.kind (freeBus s))) := by
  have hends : ∀ isKind : AccessKind → Bool, isKind b.access.kind = true → accessEnds isKind accessFaulted s = .next
      (settleBus s.hp.queue.length (if b.access.discarded then freeBus s else accessFaulted b.access.kind (freeBus s))) := by
    intro isKind hk
    simp [accessEnds, onBus, answerWithBus, h, hk]
  generalize b.access.kind = k at hends
  cases k <;> exact hends _ rfl

/-- A command that says how an access ended is one of the two forms of an end, for the kinds it names. -/
theorem exec_of_endsKind {c : Instr} (h : ∃ k, endsKind c k = true) :
    (∃ owner, ∀ s, exec c s = accessEnds (endsKind c) owner s) ∨
    ∃ octets owner, deliveredOctets c = some octets ∧ ∀ s, exec c s = readEnds (endsKind c) octets owner s := by
  obtain ⟨k, hk⟩ := h
  cases c
  case configurationReadComplete o | requestRecordReadComplete o | descriptorReadComplete o | payloadReadComplete o =>
    exact .inr ⟨o, _, rfl, fun s => by
      dsimp only [exec, execConfigurationReadComplete, execRequestRecordReadComplete, execDescriptorReadComplete,
        execPayloadReadComplete]
      rfl⟩
  case configurationReadFault | requestRecordReadFault | descriptorReadFault | payloadReadFault | responseWriteComplete |
      responseWriteFault | reportWriteComplete | reportWriteFault | snapshotWriteComplete | snapshotWriteFault |
      recordWriteFirstPartComplete | recordWriteSecondPartComplete | recordWriteFault =>
    exact .inl ⟨_, fun s => by
      dsimp only [exec, execConfigurationReadFault, execRequestRecordReadFault, execDescriptorReadFault, execPayloadReadFault,
        execResponseWriteComplete, execResponseWriteFault, execReportWriteComplete, execReportWriteFault,
        execSnapshotWriteComplete, execSnapshotWriteFault, execRecordWriteFirstPartComplete,
        execRecordWriteSecondPartComplete, execRecordWriteFault]
      rfl⟩
  all_goals simp [endsKind] at hk

/-- The end of an access that is not on the bus is no event (R195). -/
theorem exec_of_not_onBus {s : State} {c : Instr} (h : ∃ k, endsKind c k = true)
    (hbus : ∀ b, s.hp.bus = some b → endsKind c b.access.kind = false) : exec c s = .next s := by
  have hnone : onBus s (endsKind c) = none := by
    unfold onBus
    split
    · rw [if_neg (by simp [hbus _ ‹_›])]
    · rfl
  obtain ⟨owner, hexec⟩ | ⟨octets, owner, -, hexec⟩ := exec_of_endsKind h
  · rw [hexec, accessEnds, hnone]
  · rw [hexec, readEnds, hnone]

/-- An access whose result is discarded frees the bus, and nothing else follows from its end (R76, R198). -/
theorem exec_of_discarded {s : State} {c : Instr} {b : BusAccess} (hbus : s.hp.bus = some b)
    (hkind : endsKind c b.access.kind = true) (hdiscarded : b.access.discarded = true)
    (hlength : ∀ octets, deliveredOctets c = some octets → octets.length = b.access.length) :
    exec c s = .next (settleBus s.hp.queue.length (freeBus s)) := by
  obtain ⟨owner, hexec⟩ | ⟨octets, owner, hoctets, hexec⟩ := exec_of_endsKind ⟨_, hkind⟩
  · simp [hexec, accessEnds, onBus, answerWithBus, hbus, hkind, hdiscarded]
  · simp [hexec, readEnds, onBus, answerWithBus, hbus, hkind, hdiscarded, hlength octets hoctets]

end Sys2Proof.Machine

section

set_option Elab.async false

open Sys2Proof.Machine

/-- Settles O33: a timeout and a fault end the access on the bus in the same way, a discarded result only frees the bus, and
the end of another access is none. -/
theorem timeoutsAndDiscardedResults : Obligations.TimeoutsAndDiscardedResults := by
  unfold Obligations.TimeoutsAndDiscardedResults
  refine ⟨fun s b hb => ?_, fun s c => ⟨fun b hb hkind hdiscarded hlength => ?_, exec_of_not_onBus⟩⟩
  · have hexec : exec .accessTimeout s = answerWithBus (decide (b.begunAt + 32000 ≤ s.clock.cycles))
        (fun x => if b.access.discarded then freeBus x else accessFaulted b.access.kind (freeBus x)) s := by
      simp only [exec, execAccessTimeout, hb]
      rfl
    rw [hexec, answerWithBus]
    refine ⟨fun hdue => ⟨_, by rw [if_pos (decide_eq_true hdue)], exec_faultCommand hb⟩, fun hearly => ?_⟩
    rw [if_neg (by simpa using hearly)]
  · obtain ⟨bus, queue, ht, hacc⟩ := settleBus_eq (n := s.hp.queue.length) (s := freeBus s) (Nat.le_succ _)
    exact ⟨_, (exec_of_discarded hb hkind hdiscarded hlength).trans (congrArg _ ht), rfl, hacc.trans (accesses_freeBus s)⟩

end

/-! ## Payload reads (R75, R76) -/

namespace Sys2Proof.Machine

set_option Elab.async false

theorem poolKeptBut_putEntry (p : PoolIx) (e : Option PoolEntry) (s : State) : PoolKeptBut p s (putEntry p e s) :=
  ⟨fun l => listOf_putEntry l p e s, fun q hq => by rw [entry_putEntry, if_neg hq]⟩

/-- The head deadline of a request has expired while the engine runs, so its TIMEOUT is due (R93, R131). -/
def timeoutDue (s : State) (e : PoolEntry) : Prop :=
  ∃ a, requestStation e = some a ∧ s.hp.engine = .running ∧ headTimer s a = .expired

theorem payloadDelivered_of_wanted {s : State} {p : PoolIx} {e : PoolEntry} (he : entry s p = some e) (hqueued : e.phase = .queued)
    (hmark : e.cancelMark = false) (htimeout : ¬timeoutDue s e) (octets : List Octet) :
    payloadDelivered p octets s = putEntry p (some { e with payload := octets, phase := .ready }) s := by
  unfold timeoutDue at htimeout
  unfold payloadDelivered
  cases ha : requestStation e <;> simp_all [isRunning]

theorem payloadDelivered_of_unwanted {s : State} {p : PoolIx} {e : PoolEntry} (he : entry s p = some e)
    (h : e.cancelMark = true ∨ timeoutDue s e) (octets : List Octet) : payloadDelivered p octets s = s := by
  unfold payloadDelivered
  rw [he]
  refine if_neg ?_
  rcases h with hmark | ⟨a, ha, hrunning, hexpired⟩
  · simp [hmark]
  · simp [ha, isRunning, hrunning, hexpired]

theorem payloadFaulted_eq {s : State} {p : PoolIx} {e : PoolEntry} (he : entry s p = some e) (hqueued : e.phase = .queued)
    (hmark : e.cancelMark = false) : payloadFaulted p s = putEntry p (some { e with readFaulted := true }) s := by
  simp [payloadFaulted, modEntry, he, hqueued, hmark]

/-- A wanted payload read that completes is delivered to its request (R75, R196). -/
theorem exec_payloadReadComplete_of_onBus {s : State} {p : PoolIx} {octets : List Octet} (h : OnBus s (.payload p))
    (hl : ∀ b, s.hp.bus = some b → octets.length = b.access.length) :
    exec (.payloadReadComplete octets) s = .next (settleBus s.hp.queue.length (payloadDelivered p octets (freeBus s))) :=
  readEnds_of_onBus h rfl hl (forEntry fun p => payloadDelivered p octets)

end Sys2Proof.Machine

section

set_option Elab.async false

open Sys2Proof.Machine

/-- Settles O34: the read's end changes its request alone, or nothing where a cancel mark or an expired deadline comes first. -/
theorem payloadReadEnds : Obligations.PayloadReadEnds := by
  unfold Obligations.PayloadReadEnds
  intro s p e octets hbus he hqueued hlength
  have hfree : entry (freeBus s) p = some e := he
  have hread := exec_payloadReadComplete_of_onBus hbus hlength
  refine ⟨fun hmark htimer => ?_, fun hunwanted => ?_, fun hmark => ?_⟩
  · have hwanted : ¬timeoutDue (freeBus s) e := fun ⟨a, ha, hrunning, hexpired⟩ => htimer a ha hrunning hexpired
    rw [payloadDelivered_of_wanted hfree hqueued hmark hwanted] at hread
    obtain ⟨bus, queue, ht, hacc⟩ := settleBus_eq (n := s.hp.queue.length)
      (s := putEntry p (some { e with payload := octets, phase := .ready }) (freeBus s)) (Nat.le_succ _)
    exact ⟨_, hread.trans (congrArg _ ht), entry_putEntry_same .., poolKeptBut_putEntry p _ s, rfl, hacc⟩
  · rw [payloadDelivered_of_unwanted hfree hunwanted] at hread
    obtain ⟨bus, queue, ht, hacc⟩ := settleBus_eq (n := s.hp.queue.length) (s := freeBus s) (Nat.le_succ _)
    exact ⟨_, hread.trans (congrArg _ ht), rfl, hacc.trans (accesses_freeBus s)⟩
  · have hfault := exec_faultCommand_of_onBus hbus
    simp only [accessFaulted] at hfault
    rw [payloadFaulted_eq hfree hqueued hmark] at hfault
    obtain ⟨bus, queue, ht, hacc⟩ := settleBus_eq (n := s.hp.queue.length)
      (s := putEntry p (some { e with readFaulted := true }) (freeBus s)) (Nat.le_succ _)
    exact ⟨_, hfault.trans (congrArg _ ht), entry_putEntry_same .., poolKeptBut_putEntry p _ s, rfl, hacc⟩

end

/-! ## The end of a request, and of the step in which it falls (R130, R144, R195) -/

namespace Sys2Proof.Machine

set_option Elab.async false

theorem requestStation_eq_some {e : PoolEntry} {a : Addr} : requestStation e = some a ↔ listFor e.kind e.address = .station a := by
  unfold requestStation
  cases listFor e.kind e.address <;> simp

theorem requestStation_eq_none {e : PoolEntry} : requestStation e = none ↔ listFor e.kind e.address = .control := by
  unfold requestStation
  cases listFor e.kind e.address <;> simp

theorem queue_startPayload_le (p : PoolIx) (s : State) : (startPayload p s).hp.queue.length ≤ s.hp.queue.length + 1 := by
  obtain h | ⟨e, -, h | h⟩ := startPayload_cases p s <;> rw [h] <;> simp [requestAccess]

/-- Becoming head asks for one access at most (R75). -/
theorem queue_becomeHead_le (l : ListId) (s : State) : (becomeHead l s).hp.queue.length ≤ s.hp.queue.length + 1 := by
  unfold becomeHead
  split
  · exact Nat.le_succ _
  · rename_i p e hhead
    split
    · exact (queue_startPayload_le p _).trans (by rw [armHeadTimer_hp])
    · rw [modEntry_hp, armHeadTimer_hp]
      exact Nat.le_succ _

/-- The end of a request asks for one access at most, the payload read of the next head (R75, R148). -/
theorem queue_finishRequest_le (p : PoolIx) (status : Status) (length count : Nat) (use : SlotUse) (s : State) :
    (finishRequest p status length count use s).hp.queue.length ≤ s.hp.queue.length + 1 := by
  unfold finishRequest
  split
  · exact Nat.le_succ _
  · refine (queue_becomeHead_le _ _).trans (Nat.succ_le_succ ?_)
    simp only [clearOutstanding_hp, leaveList_hp, putEntry_hp]
    exact List.length_filter_le _ _

/-- What the resolution of a request is said against: only its own entry, the reservation count and the sequencer may differ. -/
theorem Resolves.of_start {s s' t : State} {before : List Access} {p : PoolIx} {e e' : PoolEntry} {r : CompletionRecord}
    (h : Resolves s' t before p e' r) (hkind : e'.kind = e.kind) (haddress : e'.address = e.address)
    (hcu : s'.cu = { s.cu with reserved := s'.cu.reserved }) (hpool : PoolKeptBut p s s') (hhost : HostKept s s')
    (hsc : s'.sc = s.sc) (hri : s'.ri = s.ri) (hru : s'.ru = s.ru) (hline : LineKept s s') (houtside : OutsideKept s s') :
    Resolves s t before p e r := by
  obtain ⟨hlists, hentries⟩ := hpool
  obtain ⟨htx, hrx⟩ := hline
  unfold Resolves at h
  rw [hkind, haddress] at h
  obtain ⟨hcu', hfree, hlist, hothers, hkept, ⟨more, hacc, hhead, hempty⟩, hhost', hsc', htimers, hri', hru', ⟨htx', hrx'⟩, hout'⟩ := h
  refine ⟨?_, hfree, by rw [hlist, hlists], fun m hm => by rw [hothers m hm, hlists],
    fun q hq hne => by rw [hkept q hq hne, hentries q hq], ⟨more, hacc, fun q x hq hne hx => ?_, hempty⟩, hhost.trans hhost',
    by rw [hsc', hsc], fun a ha => by rw [htimers a ha, headTimer_congr hsc], hri'.trans hri, hru'.trans hru,
    ⟨htx'.trans htx, hrx'.trans hrx⟩, houtside.trans hout'⟩
  · rw [hcu', hcu]
  · have hbecomes := hhead q x hq hne (by rw [hentries q hne, hx])
    unfold BecomesHead at hbecomes ⊢
    rwa [hhost.engine_eq, houtside.1] at hbecomes

/-- The step in which a request is resolved ends with the sequencer settled. -/
theorem Resolves.settled {s t : State} {before : List Access} {p : PoolIx} {e : PoolEntry} {r : CompletionRecord} {n : Nat}
    (h : Resolves s t before p e r) (hn : t.hp.queue.length ≤ n + 1) : Resolves s (settleBus n t) before p e r := by
  obtain ⟨bus, queue, ht, hacc⟩ := settleBus_eq hn
  rw [ht]
  obtain ⟨hcu, hfree, hlist, hothers, hkept, ⟨more, hmore, hhead, hempty⟩, hhost, hrest⟩ := h
  refine ⟨hcu, hfree, hlist, hothers, hkept, ⟨more, hacc.trans hmore, hhead, hempty⟩, ?_, hrest⟩
  unfold HostKept withSequencer at *
  dsimp only
  rw [hhost]

/-- A request's end and the end of its step: everything R130 and R144 say, and the slot it uses. -/
theorem finishRequest_settled {s s' : State} {p : PoolIx} {e e' : PoolEntry} {n : Nat} (he : entry s' p = some e')
    (hkind : e'.kind = e.kind) (haddress : e'.address = e.address) (hcu : s'.cu = { s.cu with reserved := s'.cu.reserved })
    (hpool : PoolKeptBut p s s') (hhost : HostKept s s') (hsc : s'.sc = s.sc) (hri : s'.ri = s.ri) (hru : s'.ru = s.ru)
    (hline : LineKept s s') (houtside : OutsideKept s s') (hn : s'.hp.queue.length ≤ n) (status : Status) (length count : Nat)
    (use : SlotUse) :
    Resolves s (settleBus n (finishRequest p status length count use s')) (accessesWithout p s') p e
      (doneRecord s' e' status length count) :=
  ((finishRequest_resolves he status length count use).of_start hkind haddress hcu hpool hhost hsc hri hru hline houtside).settled
    ((queue_finishRequest_le ..).trans (Nat.succ_le_succ hn))

/-- The stations after the end of a station's request: its outstanding link is cleared, and nothing else changes (R50). -/
theorem stations_finishRequest {s : State} {p : PoolIx} {e : PoolEntry} {a : Addr} (he : entry s p = some e)
    (ha : requestStation e = some a) (status : Status) (length count : Nat) (use : SlotUse) :
    StationsKeptBut a s (finishRequest p status length count use s) ∧
    station (finishRequest p status length count use s) a =
      { station s a with outstanding := outstandingWithout p (station s a) } := by
  have hlist := requestStation_eq_some.mp ha
  refine ⟨⟨loopMap_finishRequest .., fun b hb => ?_⟩, ?_⟩
  · rw [station_finishRequest he, hlist, if_neg fun h => hb (ListId.station.inj h.1).symm]
  · rw [station_finishRequest he, hlist, outstandingWithout]
    by_cases ho : (station s a).outstanding = some p <;> simp [ho]

theorem StationsKeptBut.trans {a : Addr} {s t u : State} (h : StationsKeptBut a s t) (h' : StationsKeptBut a t u) :
    StationsKeptBut a s u :=
  ⟨h'.1.trans h.1, fun b hb => (h'.2 b hb).trans (h.2 b hb)⟩

theorem StationsKeptBut.of_eq {a : Addr} {s t : State} (h : t.st = s.st) : StationsKeptBut a s t :=
  ⟨by rw [h], fun b _ => station_congr h b⟩

theorem stationsKeptBut_putStation (a : Addr) (x : Station) (s : State) : StationsKeptBut a s (putStation a x s) :=
  ⟨rfl, fun b hb => by rw [station_putStation, if_neg hb]⟩

/-- The end of a request of the control list leaves the stations alone. -/
theorem st_finishRequest_of_control {s : State} {p : PoolIx} {e : PoolEntry} (he : entry s p = some e)
    (hlist : listFor e.kind e.address = .control) (status : Status) (length count : Nat) (use : SlotUse) :
    (finishRequest p status length count use s).st = s.st := by
  simp [finishRequest, he, hlist, clearOutstanding]

/-- The DONE record of a request of the control list (R99, R113, R123, R171). -/
theorem doneRecord_eq_controlRecord {s : State} {e : PoolEntry} (hlist : listFor e.kind e.address = .control)
    (hkind : e.kind ≠ .exchange) (status : Status) (length count : Nat) :
    doneRecord s e status length count = controlRecord e status length count := by
  simp [doneRecord, controlRecord, requestStation_eq_none.mpr hlist, hkind]
  rfl

end Sys2Proof.Machine

/-! ## Response writes (R85, R86) -/

namespace Sys2Proof.Machine

set_option Elab.async false

theorem responseWritten_eq {s : State} {p : PoolIx} {e : PoolEntry} {n : Nat} (he : entry s p = some e) (hn : e.response = some n) :
    responseWritten p s = finishRequest p (successStatus n e.responseCapacity) n 0 .useReserved s := by
  simp [responseWritten, he, hn]

theorem responseLost_eq {s : State} {p : PoolIx} {e : PoolEntry} {n : Nat} (he : entry s p = some e) (hn : e.response = some n) :
    responseLost p s = finishRequest p .hostFault n 0 .useReserved s := by
  simp [responseLost, he, hn]

/-- The end of a wanted response write ends the EXCHANGE, with a status by the capacity or HOST-FAULT (R85, R86). -/
theorem exec_responseWriteEnds {s : State} {p : PoolIx} {e : PoolEntry} {n : Nat} (hbus : OnBus s (.response p))
    (he : entry s p = some e) (hn : e.response = some n) {c : Instr} {status : Status}
    (hc : c = .responseWriteComplete ∧ n ≤ e.responseCapacity ∧ status = .ok ∨
      c = .responseWriteComplete ∧ e.responseCapacity < n ∧ status = .truncated ∨ c = .responseWriteFault ∧ status = .hostFault) :
    exec c s = .next (settleBus s.hp.queue.length (finishRequest p status n 0 .useReserved (freeBus s))) := by
  have hcomplete : exec .responseWriteComplete s = .next (settleBus s.hp.queue.length (responseWritten p (freeBus s))) :=
    accessEnds_of_onBus hbus rfl (forEntry responseWritten)
  rw [responseWritten_eq (s := freeBus s) he hn, successStatus] at hcomplete
  rcases hc with ⟨rfl, hfits, rfl⟩ | ⟨rfl, hlong, rfl⟩ | ⟨rfl, rfl⟩
  · rwa [if_pos hfits] at hcomplete
  · rwa [if_neg hlong.not_ge] at hcomplete
  · have hfault := exec_faultCommand_of_onBus hbus
    simp only [accessFaulted] at hfault
    rwa [responseLost_eq (s := freeBus s) he hn] at hfault

end Sys2Proof.Machine

section

set_option Elab.async false

open Sys2Proof.Machine

/-- Settles O35: the request ends through its reserved slot, with a status by the way its write ended. -/
theorem responseWriteEnds : Obligations.ResponseWriteEnds := by
  unfold Obligations.ResponseWriteEnds
  intro s p e n a hbus he hkind ha hn hcount c status hc
  have hfree : entry (freeBus s) p = some e := he
  have hresolves := finishRequest_settled (s := s) hfree rfl rfl rfl ⟨fun _ => rfl, fun _ _ => rfl⟩ rfl rfl rfl rfl ⟨rfl, rfl⟩
    (.refl s) (le_refl s.hp.queue.length) status n 0 .useReserved
  rw [doneRecord_eq_workRecord ha hcount, waitsField, if_pos hkind] at hresolves
  obtain ⟨hkept, hstation⟩ := stations_finishRequest hfree ha status n 0 .useReserved
  refine ⟨_, exec_responseWriteEnds hbus he hn hc, hresolves, ?_, ?_, ?_, ?_⟩
  · rw [settleBus_cu, reserved_finishRequest hfree]; rfl
  · rw [settleBus_ls, finishRequest_ls]; rfl
  · exact hkept.trans (.of_eq (settleBus_st ..))
  · rw [station_congr (settleBus_st ..), hstation]; rfl

end

/-! ## The record write (R165, R166, R162) -/

namespace Sys2Proof.Machine

set_option Elab.async false

theorem headEntry_of_isHead {s : State} {l : ListId} {p : PoolIx} {q : PoolEntry} (h : IsHead s l p q) :
    headEntry s l = some (p, q) := by
  simp [headEntry, h.1, h.2]

/-- POST with a record waiting: the conditions of R165 decide. -/
theorem exec_post_of_queue {s : State} {r : CompletionRecord} {rest : List CompletionRecord} (h : s.cu.queue = r :: rest) :
    exec .post s = answerWithBus (mayPost s.hp.engine && decide (s.cu.occupancy < (configured s).completionSize) &&
      s.cu.write.isNone) (beginPost r) s := by
  simp only [exec, execPost, h]

/-- With a record write in progress, with no record waiting, in OFF and in STARTING a POST changes nothing (R165). -/
theorem exec_post_of_not {s : State}
    (h : s.cu.write ≠ none ∨ s.cu.queue = [] ∨ s.hp.engine = .off ∨ s.hp.engine = .starting) : exec .post s = .next s := by
  cases hq : s.cu.queue with
  | nil => simp only [exec, execPost, hq]
  | cons r rest =>
    rw [exec_post_of_queue hq, answerWithBus, if_neg]
    rcases h with hwrite | hempty | hoff | hstarting
    · simpa using fun _ _ => hwrite
    · rw [hempty] at hq; cases hq
    · simp [hoff, mayPost]
    · simp [hstarting, mayPost]

/-- The first part was accepted: the octet with the phase follows at once, ahead of the list (R166, R195). -/
theorem exec_recordWriteFirstPartComplete_of_onBus {s : State} {r : CompletionRecord} {rest : List CompletionRecord}
    (hbus : OnBus s .recordBody) (hqueue : s.cu.queue = r :: rest) (hwrite : s.cu.write = some .body)
    (hmay : mayBeginAccess s.hp.engine = true) :
    exec .recordWriteFirstPartComplete s = .next (beginPhaseWrite r s) := by
  have hends : exec .recordWriteFirstPartComplete s = .next (settleBus s.hp.queue.length (bodyWritten (freeBus s))) :=
    accessEnds_of_onBus hbus rfl (fun _ => bodyWritten)
  have hbody : bodyWritten (freeBus s) = beginPhaseWrite r (freeBus s) := by
    unfold bodyWritten
    rw [freeBus_cu, hqueue, hwrite]
    exact if_pos hmay
  rw [hends, hbody, settleBus_of_le (n := s.hp.queue.length) (s := beginPhaseWrite r (freeBus s)) (Nat.le_succ _)]
  rfl

/-- The completion unit when a record has been posted and the raises that its write held are applied (R162, R166). -/
def postedUnit (c : Configuration) (cu : CompletionUnit) : CompletionUnit :=
  { cu with queue := queueAfterRaises cu.heldRaises cu.queue.tail, heldRaises := [], write := none
            occupancy := cu.occupancy + 1, tail := (cu.tail + 1) % c.completionSize
            phase := if cu.tail + 1 = c.completionSize then !cu.phase else cu.phase }

theorem nextIndex_eq_zero_iff {i size : Nat} (h : i < size) : nextIndex i size = 0 ↔ i + 1 = size := by
  unfold nextIndex
  split
  · constructor <;> intro h' <;> omega
  · constructor <;> intro <;> omega

/-- A record is posted, the raises that its write held are applied, and behind them the record of a held CALL-NOW enters (R166, R162,
R123). -/
theorem recordPosted_eq {s : State} {c : Configuration} (hc : s.hp.config = some c) (htail : s.cu.tail < c.completionSize) :
    recordPosted s =
      setCause .completion (answerHeldCallNow { s with cu := postedUnit c s.cu }) := by
  simp only [recordPosted, configured_of_some hc, applyHeldRaises_eq, nextIndex_eq_zero_iff htail, decide_eq_true_eq]
  rw [nextIndex_eq_mod htail]
  rfl

/-- The phase octet was accepted: the record is posted (R166). -/
theorem exec_recordWriteSecondPartComplete_of_onBus {s : State} (hbus : OnBus s .recordPhase)
    (hwrite : s.cu.write = some .phase) :
    exec .recordWriteSecondPartComplete s = .next (settleBus s.hp.queue.length (recordPosted (freeBus s))) := by
  have hends : exec .recordWriteSecondPartComplete s = .next (settleBus s.hp.queue.length (phaseWritten (freeBus s))) :=
    accessEnds_of_onBus hbus rfl (fun _ => phaseWritten)
  rw [hends, phaseWritten, if_pos ((congrArg CompletionUnit.write (freeBus_cu s)).trans hwrite)]

/-- A CALL-NOW whose answer was held completes now, at the head of the control list (R123). -/
theorem answerHeldCallNow_of_head {s : State} {n : Nat} {p : PoolIx} {q : PoolEntry} (hn : s.cu.callAnswer = some n)
    (hhead : IsHead s .control p q) (hkind : q.kind = .callNow) :
    answerHeldCallNow s = finishRequest p .ok 0 n .useReserved { s with cu := { s.cu with callAnswer := none } } := by
  have hhead' : headEntry { s with cu := { s.cu with callAnswer := none } } .control = some (p, q) :=
    headEntry_of_isHead hhead
  simp [answerHeldCallNow, hn, finishCallNow, hhead', hkind]

theorem answerHeldCallNow_of_none {s : State} (hn : s.cu.callAnswer = none) : answerHeldCallNow s = s := by
  simp [answerHeldCallNow, hn]

/-- A record has been posted, and the CALL-NOW that its write held back is to complete (R123, R166). -/
def postedForCallNow (c : Configuration) (s : State) : State :=
  { freeBus s with cu := { postedUnit c s.cu with callAnswer := none } }

theorem listFor_callNow (address : Octet) : listFor .callNow address = .control := rfl

end Sys2Proof.Machine

section

set_option Elab.async false

open Sys2Proof.Machine

/-- Settles O38: the record is written in its two parts and posted, and what its write held follows it into the queue. -/
theorem recordIsWrittenAndPosted : Obligations.RecordIsWrittenAndPosted := by
  unfold Obligations.RecordIsWrittenAndPosted
  refine ⟨fun s c r rest hc hengine hqueue => ⟨fun hroom hwrite => ?begins, fun hnot => ?not, fun hbus hwrite => ?second⟩,
    fun s h => exec_post_of_not h, fun s c r rest hc htail hbus hqueue hwrite => ⟨fun hnone => ?posted,
      fun n p q hn hhead hkind => ?answered⟩⟩
  case begins =>
    have hmay : mayPost s.hp.engine = true := by rcases hengine with h | h | h <;> rw [h] <;> rfl
    have hexec := exec_post_of_queue hqueue
    rw [configured_of_some hc, answerWithBus, if_pos (by simp [hmay, hroom, hwrite])] at hexec
    obtain ⟨bus, queue, ht, hacc⟩ := settleBus_eq (n := s.hp.queue.length) (s := beginPost r s) (by simp [beginPost, requestAccess])
    refine ⟨_, hexec.trans (congrArg _ ht), rfl, hacc.trans ?_⟩
    rw [beginPost, accesses_requestAccess, tailAddress, configured_of_some hc]
    rfl
  case not =>
    rw [exec_post_of_queue hqueue, configured_of_some hc, answerWithBus, if_neg]
    rcases hnot with hfull | hwrite
    · simp [hfull.not_gt]
    · simpa using fun _ _ => hwrite
  case second =>
    have hmay : mayBeginAccess s.hp.engine = true := by rcases hengine with h | h | h <;> rw [h] <;> rfl
    rw [exec_recordWriteFirstPartComplete_of_onBus hbus hqueue hwrite hmay, beginPhaseWrite, tailAddress, configured_of_some hc]
    rfl
  case posted =>
    have hexec := exec_recordWriteSecondPartComplete_of_onBus hbus hwrite
    rw [recordPosted_eq (s := freeBus s) hc htail, answerHeldCallNow_of_none (s := { freeBus s with cu := postedUnit c (freeBus s).cu }) hnone] at hexec
    obtain ⟨bus, queue, ht, hacc⟩ := settleBus_eq (n := s.hp.queue.length)
      (s := setCause .completion { freeBus s with cu := postedUnit c (freeBus s).cu }) (Nat.le_succ _)
    refine ⟨_, hexec.trans (congrArg _ ht), ⟨rfl, rfl, hnone, rfl, rfl, rfl, rfl, rfl, rfl⟩, hacc, rfl, rfl, ?_⟩
    exact congrArg (fun q : List CompletionRecord => queueAfterRaises s.cu.heldRaises q.tail) hqueue
  case answered =>
    have hexec : exec .recordWriteSecondPartComplete s = .next (settleBus s.hp.queue.length
        (setCause .completion (finishRequest p .ok 0 n .useReserved (postedForCallNow c s)))) := by
      rw [exec_recordWriteSecondPartComplete_of_onBus hbus hwrite, recordPosted_eq (s := freeBus s) hc htail,
        answerHeldCallNow_of_head (s := { freeBus s with cu := postedUnit c (freeBus s).cu }) hn hhead hkind]
      rfl
    have hq : entry (postedForCallNow c s) p = some q := hhead.2
    have hlist : listFor q.kind q.address = .control := by rw [hkind, listFor_callNow]
    obtain ⟨hcu, hfree, -⟩ := finishRequest_resolves hq .ok 0 n .useReserved
    have hreserved := reserved_finishRequest hq .ok 0 n .useReserved
    rw [doneRecord_eq_controlRecord hlist (by rw [hkind]; exact nofun)] at hcu
    have hunit : (setCause .completion (finishRequest p .ok 0 n .useReserved (postedForCallNow c s))).cu =
        { (finishRequest p .ok 0 n .useReserved (postedForCallNow c s)).cu with
          pendingCauses := (finishRequest p .ok 0 n .useReserved (postedForCallNow c s)).cu.pendingCauses.raise .completion } := rfl
    refine ⟨_, hexec, ?_, ?_, ?_, ?_, ?_, ?_, ?_⟩
    · dsimp only
      rw [settleBus_cu, hunit, hcu]
      exact ⟨rfl, rfl, rfl, rfl, rfl, rfl, rfl, rfl, rfl⟩
    · rw [settleBus_cu, hunit, hcu]
      exact congrArg (fun q : List CompletionRecord => queueAfterRaises s.cu.heldRaises q.tail ++ _) hqueue
    · rw [entry_congr (settleBus_rp ..)]; exact hfree
    · rw [settleBus_cu]; exact hreserved
    · rw [settleBus_ls]; exact finishRequest_ls ..
    · rw [settleBus_st]; exact st_finishRequest_of_control hq hlist ..
    · rw [settleBus_ru]; exact finishRequest_ru ..

end

/-! ## The transmitter's events (R15, R34, R44) -/

namespace Sys2Proof.Machine

set_option Elab.async false

theorem exec_elementBegin {s : State} {x : Sending} {y : Element} {rest : List Element} (hx : s.tx.sending = some x)
    (hy : s.tx.waiting = y :: rest) : exec .elementBegin s = .next (if x.id = y.id then elementBegins s else s) := by
  simp [exec, execElementBegin, answer, waitingBegun, hx, hy]

theorem exec_sendEnd {s : State} {x : Sending} (hx : s.tx.sending = some x) (n : Nat) :
    exec (.sendEnd n) s = .next (if x.left = [] ∧ n = s.clock.octets then elementEnds x n s else s) := by
  simp [exec, execSendEnd, answer, hx]

/-- The deadline of R34, kind by kind. -/
theorem deadlineAt_eq {s : State} {c : Configuration} (hc : s.hp.config = some c) (n : Nat) (e : TransitEntry) :
    deadlineAt s n e = match e.element with
      | .probe => none
      | .sweep => some (n + s.ls.rawDelay + c.returnMargin + 256 * e.length)
      | .call => some (n + s.ls.rawDelay + c.returnMargin + 40)
      | .exch | .post | .group | .rest => some (n + s.ls.rawDelay + c.returnMargin) := by
  unfold deadlineAt growthAllowance
  rw [configured_of_some hc]
  cases e.element <;> rfl

/-- All that a send end does: to the transmitter, to the entry of the element, and to the two timers (R27, R34, R44). -/
theorem elementEnds_eq {s : State} {c : Configuration} (hc : s.hp.config = some c) (x : Sending) (n : Nat) :
    elementEnds x n s = { s with
      tx := { s.tx with sending := none }
      ls := { s.ls with
        transit := s.ls.transit.map (fun e => if e.id = x.id then sendEndEntry s n e else e)
        probeTimer := if ∃ e ∈ s.ls.transit, e.id = x.id ∧ e.element = .probe then some (n + c.probeLimit) else s.ls.probeTimer
        settleTimer := if s.ls.state = .broken ∧ s.ls.settleTimer = none ∧ s.tx.waiting = []
          then some (s.clock.cycles + c.settleTime * 16000) else s.ls.settleTimer } } := by
  unfold elementEnds settleWhenIdle transmitterIdle startSettle
  rw [configured_of_some hc]
  by_cases hsettles : s.ls.state = .broken ∧ s.ls.settleTimer = none
  · by_cases hwaiting : s.tx.waiting = [] <;> simp [hsettles, hwaiting, configured, hc, cyclesPerMs]
  · have hnot : ¬(s.ls.state = .broken ∧ s.ls.settleTimer = none ∧ s.tx.waiting = []) := fun h => hsettles ⟨h.1, h.2.1⟩
    rw [if_neg hnot]
    simp [hsettles]

end Sys2Proof.Machine

section

set_option Elab.async false

open Sys2Proof.Machine

/-- Settles O40: each event falls under its condition alone, and a send end sets the deadline and the timers. -/
theorem elementBeginsAndEnds : Obligations.ElementBeginsAndEnds := by
  unfold Obligations.ElementBeginsAndEnds
  refine ⟨fun s x y rest hx hy => ?begin, fun s n h => ?not, fun s x n c hx hleft hn hc => ?ends⟩
  case begin =>
    rw [exec_elementBegin hx hy]
    refine ⟨fun hid => ?_, fun hid => by rw [if_neg hid]⟩
    rw [if_pos hid, elementBegins, hy]
    rfl
  case not =>
    cases hx : s.tx.sending with
    | none => simp only [exec, execSendEnd, hx]
    | some x =>
      rw [exec_sendEnd hx, if_neg]
      rintro ⟨hleft, hnow⟩
      rcases h with hnone | hlater | ⟨y, hy, hyleft⟩
      · rw [hx] at hnone; cases hnone
      · exact hlater hnow
      · rw [hx] at hy; cases hy; exact hyleft hleft
  case ends =>
    have hexec := exec_sendEnd hx n
    rw [if_pos ⟨hleft, hn⟩, elementEnds_eq hc] at hexec
    refine ⟨_, hexec, rfl, rfl, ?_, fun hprobe => if_pos hprobe, fun hnone => if_neg ?_, fun hbroken hstopped hidle => ?_,
      fun hnot => if_neg ?_⟩
    · simp only [sendEndEntry, deadlineAt_eq hc] <;> rfl
    · exact fun ⟨e, he, hid, hprobe⟩ => hnone e he hid hprobe
    · exact if_pos ⟨hbroken, hstopped, hidle⟩
    · tauto

end

/-! ## The timers (R44, R91, R93, R122, R124) -/

namespace Sys2Proof.Machine

set_option Elab.async false

theorem exec_settleTimerExpiry {s : State} {due : Nat} (hdue : s.ls.settleTimer = some due) (hbroken : s.ls.state = .broken)
    (hrunning : s.hp.engine = .running) :
    exec .settleTimerExpiry s = .next (if due ≤ s.clock.cycles then startProbing s else s) := by
  simp [exec, execSettleTimerExpiry, answer, reached, hdue, hbroken, isRunning, hrunning]

theorem exec_fetchDelayExpiry {s : State} {p : PoolIx} {e : PoolEntry} {due : Nat} (he : entry s p = some e)
    (hdue : e.fetchTimer = .running due) (hpaused : e.phase = .paused) :
    exec (.fetchDelayExpiry p) s = .next (if due ≤ s.clock.cycles then fetchDelayExpired p s else s) := by
  simp [exec, execFetchDelayExpiry, answer, he, timerReached, hdue, hpaused]

theorem exec_headDeadlineExpiry {s : State} {a : Addr} {due : Nat} (hdue : headTimer s a = .running due) :
    exec (.headDeadlineExpiry a) s = .next (if due ≤ s.clock.cycles then headDeadlineExpired a s else s) := by
  simp [exec, execHeadDeadlineExpiry, answer, timerReached, hdue]

theorem poolKeptBut_modEntry (p : PoolIx) (f : PoolEntry → PoolEntry) (s : State) : PoolKeptBut p s (modEntry p f s) :=
  ⟨fun l => listOf_modEntry l p f s, fun q hq => by rw [entry_modEntry, if_neg hq]⟩

theorem modEntry_of_entry {s : State} {p : PoolIx} {e : PoolEntry} (he : entry s p = some e) (f : PoolEntry → PoolEntry) :
    modEntry p f s = putEntry p (some (f e)) s := by
  simp [modEntry, he]

/-- The end of a fetch delay changes its request: READY with the engine RUNNING, and held otherwise (R91). -/
theorem fetchDelayExpired_eq {s : State} {p : PoolIx} {e : PoolEntry} (he : entry s p = some e) :
    fetchDelayExpired p s = putEntry p (if s.hp.engine = .running then some { e with phase := .ready, fetchTimer := .stopped }
      else some { e with fetchTimer := .expired }) s := by
  unfold fetchDelayExpired
  rw [modEntry_of_entry he, modEntry_of_entry he]
  by_cases hrunning : s.hp.engine = .running <;> simp [isRunning, hrunning]

/-- The expiry of a head deadline acted on, by the phase of the head (R93). -/
theorem actOnExpiry_eq {s : State} {a : Addr} {p : PoolIx} {e : PoolEntry} (hhead : IsHead s (.station a) p e) :
    actOnExpiry a s =
      if e.phase = .inTransit then putHeadTimer a .stopped (putEntry p (some (deadlineActedOn e)) s)
      else if e.phase = .paused then putEntry p (some (deadlineActedOn e)) s else s := by
  simp only [actOnExpiry, deadlineActedOn, headEntry_of_isHead hhead]
  cases e.phase <;> rfl

theorem deadlineActedOn_of_waiting {e : PoolEntry} (hsent : e.phase ≠ .inTransit) (hpaused : e.phase ≠ .paused) :
    deadlineActedOn e = e := by
  unfold deadlineActedOn
  split <;> simp_all

theorem isHead_putHeadTimer {s : State} {l : ListId} {p : PoolIx} {e : PoolEntry} (h : IsHead s l p e) (a : Addr) (t : Timer) :
    IsHead (putHeadTimer a t s) l p e :=
  ⟨(congrArg List.head? (listOf_congr (putHeadTimer_rp ..) l)).trans h.1, (entry_congr (putHeadTimer_rp ..) p).trans h.2⟩

end Sys2Proof.Machine

section

set_option Elab.async false

open Sys2Proof.Machine

/-- Settles O55: each expiry falls at its instant, and does what its rule says to its request, its timer or its due mark. -/
theorem timersExpire : Obligations.TimersExpire := by
  unfold Obligations.TimersExpire
  refine fun s due => ⟨fun hdue hbroken hrunning => ?settle, fun p e he hdue hpaused => ?fetch, fun a p e hdue hhead => ?head,
    fun hdue => ?sweep, fun hdue => ?call⟩
  case settle =>
    rw [exec_settleTimerExpiry hdue hbroken hrunning]
    exact ⟨fun hreached => by rw [if_pos hreached]; rfl, fun hearly => by rw [if_neg hearly.not_ge]⟩
  case fetch =>
    rw [exec_fetchDelayExpiry he hdue hpaused, fetchDelayExpired_eq he]
    refine ⟨fun hreached => ?_, fun hearly => by rw [if_neg hearly.not_ge]⟩
    rw [if_pos hreached]
    exact ⟨_, rfl, rfl, poolKeptBut_putEntry .., entry_putEntry_same ..⟩
  case head =>
    rw [exec_headDeadlineExpiry hdue]
    refine ⟨fun hreached => ?_, fun hearly => by rw [if_neg hearly.not_ge]⟩
    rw [if_pos hreached]
    refine ⟨_, rfl, ?_⟩
    unfold headDeadlineExpired
    by_cases hrunning : s.hp.engine = .running
    · simp only [isRunning, hrunning, beq_self_eq_true, if_true, true_and,
        actOnExpiry_eq (isHead_putHeadTimer hhead a .expired)]
      by_cases hsent : e.phase = .inTransit
      · rw [if_pos hsent, if_pos hsent]
        refine ⟨rfl, fun b hb => ?_, poolKeptBut_putEntry p _ s, ?_, entry_putEntry_same p _ s⟩
        · rw [headTimer_putHeadTimer, if_neg hb, headTimer_congr (putEntry_sc ..), headTimer_putHeadTimer, if_neg hb]
        · rw [headTimer_putHeadTimer, if_pos rfl]
      · have htimers : ∀ x b, headTimer (putEntry p x (putHeadTimer a .expired s)) b = headTimer (putHeadTimer a .expired s) b :=
          fun x b => headTimer_congr (putEntry_sc ..) b
        rw [if_neg hsent, if_neg hsent]
        by_cases hpaused : e.phase = .paused
        · rw [if_pos hpaused]
          refine ⟨rfl, fun b hb => ?_, poolKeptBut_putEntry p _ s, ?_, entry_putEntry_same p _ s⟩
          · rw [htimers, headTimer_putHeadTimer, if_neg hb]
          · rw [htimers, headTimer_putHeadTimer, if_pos rfl]
        · rw [if_neg hpaused, deadlineActedOn_of_waiting hsent hpaused]
          refine ⟨rfl, fun b hb => ?_, ⟨fun _ => rfl, fun _ _ => rfl⟩, ?_, hhead.2⟩
          · rw [headTimer_putHeadTimer, if_neg hb]
          · rw [headTimer_putHeadTimer, if_pos rfl]
    · have hnot : isRunning s = false := by simpa [isRunning] using hrunning
      rw [if_neg (by rw [hnot]; exact Bool.false_ne_true), if_neg fun h => hrunning h.1, if_neg hrunning]
      refine ⟨rfl, fun b hb => ?_, ⟨fun _ => rfl, fun _ _ => rfl⟩, ?_, hhead.2⟩
      · rw [headTimer_putHeadTimer, if_neg hb]
      · rw [headTimer_putHeadTimer, if_pos rfl]
  case sweep =>
    have hexec : exec .sweepTimerExpiry s = answer (decide (due ≤ s.clock.cycles))
        (fun x => { x with sc := { x.sc with sweepTimer := none, sweepDue := true } }) s := by
      simp [exec, execSweepTimerExpiry, reached, hdue]
    rw [hexec, answer]
    exact ⟨fun h => by rw [if_pos (decide_eq_true h)], fun h => by rw [if_neg (by simpa using h)]⟩
  case call =>
    have hexec : exec .callTimerExpiry s = answer (decide (due ≤ s.clock.cycles))
        (fun x => { x with sc := { x.sc with callTimer := none, callDue := true } }) s := by
      simp [exec, execCallTimerExpiry, reached, hdue]
    rw [hexec, answer]
    exact ⟨fun h => by rw [if_pos (decide_eq_true h)], fun h => by rw [if_neg (by simpa using h)]⟩

end

/-! ## The receiver over a stretch of the stream (R19 to R24) -/

namespace Sys2Proof.Machine

set_option Elab.async false

/-- A stretch that delivers nothing leaves the receiver where the rest of the stream finds it. -/
theorem receiveAll_append_of_silent {now : Nat} {r r' : Receiver} {xs : List LineInput} (h : receiveAll now r xs = (r', []))
    (ys : List LineInput) : receiveAll now r (xs ++ ys) = receiveAll (now + xs.length) r' ys := by
  induction xs generalizing now r with
  | nil =>
    cases h
    rfl
  | cons i rest ih =>
    simp only [receiveAll, Prod.mk.injEq, List.append_eq_nil_iff] at h
    obtain ⟨hstate, hfirst, hrest⟩ := h
    have htail := ih (now := now + 1) (r := (receive now r i).1) (Prod.ext hstate hrest)
    simp only [List.cons_append, receiveAll, htail, hfirst, List.nil_append, List.length_cons]
    rw [show now + (rest.length + 1) = now + 1 + rest.length by omega]

theorem receiveAll_append_silent {now : Nat} {r r' r'' : Receiver} {xs ys : List LineInput} (h : receiveAll now r xs = (r', []))
    (h' : receiveAll (now + xs.length) r' ys = (r'', [])) : receiveAll now r (xs ++ ys) = (r'', []) := by
  rw [receiveAll_append_of_silent h, h']

/-- Past the header every octet is taken as it comes (R20). -/
theorem headerOctetOk_of_long {octets : List Octet} (h : 4 < octets.length) : headerOctetOk octets = true := by
  match octets, h with
  | _ :: _ :: _ :: _ :: _ :: _, _ => rfl

theorem byteAt_append_of_lt {octets : List Octet} {i : Nat} (h : i < octets.length) (more : List Octet) :
    byteAt (octets ++ more) i = byteAt octets i := by
  simp [byteAt, octetAt, List.getElem?_append_left h]

theorem frameOctets_of_header {octets : List Octet} (h : 4 ≤ octets.length) : frameOctets octets = 6 + byteAt octets 3 :=
  if_neg (by omega)

/-- A frame collects the octets that its length still leaves room for (R20). -/
theorem receiveAll_frame_collects {now start : Nat} {octets more : List Octet} (hheader : 4 ≤ octets.length)
    (hroom : octets.length + more.length ≤ 6 + byteAt octets 3) :
    receiveAll now (.frame start octets false []) ((more.map Symbol.data).map .symbol) =
      (.frame start (octets ++ more) false [], []) := by
  induction more generalizing now octets with
  | nil => simp [receiveAll]
  | cons o rest ih =>
    rw [List.length_cons] at hroom
    have hnotFull : ¬(octets.length = frameOctets octets ∧ 4 ≤ octets.length) := by
      rw [frameOctets_of_header hheader]; omega
    have hok : headerOctetOk (octets ++ [o]) = true := headerOctetOk_of_long (by simp; omega)
    have hstep : receive now (.frame start octets false []) (.symbol (.data o)) = (.frame start (octets ++ [o]) false [], []) := by
      simp [receive, frameData, hnotFull, hok]
    have hrest := ih (now := now + 1) (octets := octets ++ [o]) (by simp; omega)
      (by rw [byteAt_append_of_lt (by omega)]; simp; omega)
    simp only [List.map_cons, receiveAll, hstep, hrest, List.nil_append, List.append_assoc, List.cons_append]

/-- OPEN and an acceptable header begin a frame (R19, R20). -/
theorem receiveAll_header {now : Nat} {address kind control length : Octet}
    (hkind : (headFrameOf kind).isSome ∨ kind = responseCode ∨ kind = reportCode) (hcontrol : (toggleOf control).isSome)
    (hlength : length.toNat ≤ 240) :
    receiveAll now .seek (([Symbol.control .opening] ++ [address, kind, control, length].map Symbol.data).map .symbol) =
      (.frame now [address, kind, control, length] false [], []) := by
  have hkindOk : headerOctetOk [address, kind] = true := by
    simpa [headerOctetOk, or_assoc] using hkind
  have hcontrolOk : headerOctetOk [address, kind, control] = true := hcontrol
  have hlengthOk : headerOctetOk [address, kind, control, length] = true := decide_eq_true hlength
  simp [receiveAll, receive, seekInput, frameData, frameOctets, hkindOk, hcontrolOk, hlengthOk, show headerOctetOk [address] = true from rfl]

/-- A frame up to its CLOSE, with any two octets in the check's place: all of it is collected (R20). -/
theorem receiveAll_frame {now : Nat} {address kind control length : Octet} {payload check : List Octet}
    (hkind : (headFrameOf kind).isSome ∨ kind = responseCode ∨ kind = reportCode) (hcontrol : (toggleOf control).isSome)
    (hlength : length.toNat = payload.length) (hpayload : payload.length ≤ 240) (hcheck : check.length = 2) :
    receiveAll now .seek
      (([Symbol.control .opening] ++ ([address, kind, control, length] ++ payload ++ check).map Symbol.data).map .symbol) =
      (.frame now ([address, kind, control, length] ++ payload ++ check) false [], []) := by
  have hcollect := receiveAll_frame_collects (now := now + 5) (start := now) (octets := [address, kind, control, length])
    (more := payload ++ check) (by simp) (by simp [byteAt, octetAt, hlength, hcheck]; omega)
  have hall := receiveAll_append_silent (receiveAll_header hkind hcontrol (hlength.trans_le hpayload)) hcollect
  simpa only [List.map_append, List.append_assoc] using hall

/-- The check octets collected are the check of what they stand behind, or not (R4). -/
theorem frameCheckOk_append {covered check : List Octet} (h : check.length = 2) :
    frameCheckOk (covered ++ check) = true ↔ check = frameCheck covered := by
  have hlength : (covered ++ check).length - 2 = covered.length := by simp [h]
  rw [frameCheckOk, hlength, List.take_left, List.drop_left, beq_iff_eq]

theorem framePayload_append {address kind control length : Octet} {payload check : List Octet} (h : check.length = 2) :
    framePayload ([address, kind, control, length] ++ payload ++ check) = payload := by
  simp [framePayload, h]

theorem octetAt_append_of_lt {octets : List Octet} {i : Nat} (h : i < octets.length) (more : List Octet) :
    octetAt (octets ++ more) i = octetAt octets i := by
  simp [octetAt, List.getElem?_append_left h]

theorem frameOctets_of_complete {address kind control length : Octet} {payload check : List Octet}
    (hlength : length.toNat = payload.length) (hcheck : check.length = 2) :
    ([address, kind, control, length] ++ payload ++ check).length = frameOctets ([address, kind, control, length] ++ payload ++ check) ∧
    4 ≤ ([address, kind, control, length] ++ payload ++ check).length := by
  have hheader : 4 ≤ ([address, kind, control, length] ++ payload ++ check).length := by simp
  refine ⟨?_, hheader⟩
  rw [frameOctets_of_header hheader, List.append_assoc, byteAt_append_of_lt (by simp)]
  simp [byteAt, octetAt, hlength, hcheck]
  omega

/-! ## Head frames (R5, R6, R21) -/

theorem headFrameOf_headFrameCode (k : HeadFrame) : headFrameOf (headFrameCode k) = some k := by cases k <;> rfl

theorem toggleOf_toggleOctet (t : Toggle) : toggleOf (toggleOctet t) = some t := by cases t <;> rfl

/-- The header of a head frame (R3). -/
def headHeader (address : Octet) (kind : HeadFrame) (toggle : Toggle) (length : Nat) : List Octet :=
  [address, headFrameCode kind, toggleOctet toggle, octetOf length]

/-- CLOSE and a trailer end a head frame that was collected whole (R21). -/
theorem receiveAll_headFrame_ends {t start : Nat} {octets : List Octet} (hfull : octets.length = frameOctets octets)
    (hheader : 4 ≤ octets.length) (hhead : (headFrameOf (octetAt octets 1)).isSome) (a b : Octet) :
    receiveAll t (.frame start octets false []) (([Symbol.control .closing] ++ [Symbol.data a, Symbol.data b]).map .symbol) =
      (.seek, [{ item := headFrameItem octets a b, span := { start := start, stop := t + 2 } }]) := by
  have hclose : receive t (.frame start octets false []) (.symbol (.control .closing)) = (.frame start octets true [], []) := by
    simp [receive, frameClose, ← hfull, hheader, hhead]
  simp only [List.cons_append, List.nil_append, List.map_cons, List.map_nil, receiveAll, hclose]
  rfl

/-- A head frame with any octets in the places of check and trailer: it is delivered with its trailer (R20, R21). -/
theorem receiveAll_headFrame {now : Nat} {address : Octet} {kind : HeadFrame} {toggle : Toggle} {payload check : List Octet}
    (hpayload : payload.length ≤ 240) (hcheck : check.length = 2) (a b : Octet) :
    receiveAll now .seek (([Symbol.control .opening] ++ (headHeader address kind toggle payload.length ++ payload ++ check).map Symbol.data
        ++ ([Symbol.control .closing] ++ [Symbol.data a, Symbol.data b])).map .symbol) =
      (.seek, [{ item := headFrameItem (headHeader address kind toggle payload.length ++ payload ++ check) a b
                 span := { start := now, stop := now + payload.length + 9 } }]) := by
  have hlength := toNat_octetOf_of_lt (show payload.length < 256 by omega)
  have hcollected := receiveAll_frame (now := now) (address := address) (kind := headFrameCode kind) (control := toggleOctet toggle)
    (.inl (by rw [headFrameOf_headFrameCode]; rfl)) (by rw [toggleOf_toggleOctet]; rfl) hlength hpayload hcheck
  have hcomplete := frameOctets_of_complete (address := address) (kind := headFrameCode kind) (control := toggleOctet toggle)
    hlength hcheck
  have hhead : (headFrameOf (octetAt ([address, headFrameCode kind, toggleOctet toggle, octetOf payload.length] ++ payload ++ check) 1)).isSome := by
    rw [List.append_assoc, octetAt_append_of_lt (by simp)]
    exact congrArg Option.isSome (headFrameOf_headFrameCode kind)
  have hsize : ([address, headFrameCode kind, toggleOctet toggle, octetOf payload.length] ++ payload ++ check).length =
      payload.length + 6 := by simp [hcheck]
  rw [List.map_append, headHeader, receiveAll_append_of_silent hcollected]
  generalize [address, headFrameCode kind, toggleOctet toggle, octetOf payload.length] ++ payload ++ check = octets at *
  rw [receiveAll_headFrame_ends hcomplete.1 hcomplete.2 hhead, List.length_map, List.length_append, List.length_map, hsize,
    List.length_singleton]
  simp only [show now + (1 + (payload.length + 6)) + 2 = now + payload.length + 9 by omega]

/-- The item of a returned head frame whose check is correct (R21). -/
theorem headFrameItem_of_intact {address : Octet} {kind : HeadFrame} {toggle : Toggle} {payload : List Octet}
    {outcome : TrailerOutcome} {a b : Octet} (houtcome : outcomeOf a = some outcome) (hcopies : b.toNat ≤ 32) :
    headFrameItem (headHeader address kind toggle payload.length ++ payload ++
      frameCheck (headHeader address kind toggle payload.length ++ payload)) a b =
      .headFrame kind address toggle payload outcome b.toNat := by
  have hok := (frameCheckOk_append (covered := headHeader address kind toggle payload.length ++ payload) rfl).mpr rfl
  have hpayload : framePayload (headHeader address kind toggle payload.length ++ payload ++
      frameCheck (headHeader address kind toggle payload.length ++ payload)) = payload := framePayload_append rfl
  unfold headFrameItem
  rw [hok, hpayload]
  simp [headHeader, octetAt, headFrameOf_headFrameCode, toggleOf_toggleOctet, houtcome, hcopies]

/-- A head frame with a wrong check, an unknown outcome or too many copies is damaged (R21). -/
theorem headFrameItem_of_damaged {octets : List Octet} {a b : Octet}
    (h : frameCheckOk octets = false ∨ outcomeOf a = none ∨ 32 < b.toNat) : headFrameItem octets a b = .damagedFrame := by
  unfold headFrameItem
  split
  · rename_i houtcome
    refine if_neg ?_
    rcases h with hcheck | hnone | hcopies
    · simp [hcheck]
    · rw [hnone] at houtcome; cases houtcome
    · simp [hcopies]
  · rfl

theorem outcomeOf_of_large {a : Octet} (h : 4 < a.toNat) : outcomeOf a = none := by
  unfold outcomeOf
  split <;> [omega; omega; omega; omega; omega; rfl]

theorem outcomeOf_number (o : TrailerOutcome) : outcomeOf (BitVec.ofNat 8 (lastOutcomeNumber (lastOutcomeOf o))) = some o := by
  cases o <;> rfl

/-- A head frame as it is sent: its octets with their check, CLOSE, and the trailer NONE, 0 (R3 to R6). -/
theorem headFrameSymbols_eq (address : Octet) (kind : HeadFrame) (toggle : Toggle) (payload : List Octet) :
    headFrameSymbols address kind toggle payload = [Symbol.control .opening] ++
      (headHeader address kind toggle payload.length ++ payload ++
        frameCheck (headHeader address kind toggle payload.length ++ payload)).map Symbol.data ++
      ([Symbol.control .closing] ++ [Symbol.data 0, Symbol.data 0]) := by
  simp [headFrameSymbols, frameSymbols, headHeader, outcomeOctet]

/-! ## Drop frames (R7, R20) -/

/-- The header of a RESPONSE or REPORT (R7). -/
def dropHeader (source kind : Octet) (toggle : Toggle) (length : Nat) : List Octet :=
  [source, kind, toggleOctet toggle, octetOf length]

/-- A drop frame with any octets in the check's place ends at its CLOSE (R7, R20). -/
theorem receiveAll_dropFrame {now : Nat} {source kind : Octet} {toggle : Toggle} {payload check : List Octet}
    (hkind : kind = responseCode ∨ kind = reportCode) (hpayload : payload.length ≤ 240) (hcheck : check.length = 2) :
    receiveAll now .seek (([Symbol.control .opening] ++ (dropHeader source kind toggle payload.length ++ payload ++ check).map Symbol.data
        ++ [Symbol.control .closing]).map .symbol) =
      (.seek, [{ item := dropFrameItem (dropHeader source kind toggle payload.length ++ payload ++ check)
                 span := { start := now, stop := now + payload.length + 7 } }]) := by
  have hlength := toNat_octetOf_of_lt (show payload.length < 256 by omega)
  have hcollected := receiveAll_frame (now := now) (address := source) (kind := kind) (control := toggleOctet toggle)
    (.inr hkind) (by rw [toggleOf_toggleOctet]; rfl) hlength hpayload hcheck
  obtain ⟨hfull, hheader⟩ := frameOctets_of_complete (address := source) (kind := kind) (control := toggleOctet toggle)
    hlength hcheck
  have hdrop : headFrameOf (octetAt ([source, kind, toggleOctet toggle, octetOf payload.length] ++ payload ++ check) 1) = none := by
    rw [List.append_assoc, octetAt_append_of_lt (by simp)]
    rcases hkind with rfl | rfl <;> rfl
  have hsize : ([source, kind, toggleOctet toggle, octetOf payload.length] ++ payload ++ check).length =
      payload.length + 6 := by simp [hcheck]
  rw [List.map_append, dropHeader, receiveAll_append_of_silent hcollected]
  generalize [source, kind, toggleOctet toggle, octetOf payload.length] ++ payload ++ check = octets at *
  have hclose : ∀ t, receive t (.frame now octets false []) (.symbol (.control .closing)) =
      (.seek, [{ item := dropFrameItem octets, span := { start := now, stop := t } }]) := fun t => by
    simp [receive, frameClose, ← hfull, hheader, hdrop, itemEnds]
  rw [List.length_map, List.length_append, List.length_map, hsize, List.length_singleton]
  simp only [List.map_cons, List.map_nil, receiveAll, hclose, List.append_nil,
    show now + (1 + (payload.length + 6)) = now + payload.length + 7 by omega]

/-- The item of a drop frame whose check is correct (R20). -/
theorem dropFrameItem_of_intact {source kind : Octet} {toggle : Toggle} {payload : List Octet} :
    dropFrameItem (dropHeader source kind toggle payload.length ++ payload ++
      frameCheck (dropHeader source kind toggle payload.length ++ payload)) =
      if kind = responseCode then .response source toggle payload else .report source toggle payload := by
  have hok := (frameCheckOk_append (covered := dropHeader source kind toggle payload.length ++ payload) rfl).mpr rfl
  have hpayload : framePayload (dropHeader source kind toggle payload.length ++ payload ++
      frameCheck (dropHeader source kind toggle payload.length ++ payload)) = payload := framePayload_append rfl
  unfold dropFrameItem
  rw [hok, hpayload]
  simp [dropHeader, octetAt, toggleOf_toggleOctet]

theorem dropFrameItem_of_damaged {octets : List Octet} (h : frameCheckOk octets = false) : dropFrameItem octets = .damagedFrame := by
  simp [dropFrameItem, h]

theorem frameCheckOk_eq_false {covered check : List Octet} (hcheck : check.length = 2) (h : check ≠ frameCheck covered) :
    frameCheckOk (covered ++ check) = false := by
  rw [← Bool.not_eq_true, frameCheckOk_append hcheck]
  exact h

/-- A frame's symbols are its octets with their check between OPEN and CLOSE (R3, R4). -/
theorem frameSymbols_eq (header payload : List Octet) :
    frameSymbols header payload = [Symbol.control .opening] ++
      (header ++ payload ++ [highOctet (checkOf (header ++ payload)), lowOctet (checkOf (header ++ payload))]).map Symbol.data ++
      [Symbol.control .closing] := by
  rw [← frameCheck_eq]
  rfl

/-- The symbols of a frame ahead of its check, and the check's own. -/
theorem frame_parts {header payload : List Octet} (hheader : header.length = 4) (behind : List Symbol) :
    (frameSymbols header payload ++ behind).take (payload.length + 5) =
      [Symbol.control .opening] ++ (header ++ payload).map Symbol.data ∧
    ((frameSymbols header payload ++ behind).drop (payload.length + 5)).take 2 =
      (frameCheck (header ++ payload)).map Symbol.data ∧
    (frameSymbols header payload ++ behind).take (payload.length + 8) = frameSymbols header payload := by
  have hlength : ([Symbol.control .opening] ++ (header ++ payload).map Symbol.data).length = payload.length + 5 := by
    simp [hheader]; omega
  have hsplit : frameSymbols header payload ++ behind = ([Symbol.control .opening] ++ (header ++ payload).map Symbol.data) ++
      ((frameCheck (header ++ payload)).map Symbol.data ++ ([Symbol.control .closing] ++ behind)) := by
    simp [frameSymbols]
  refine ⟨?_, ?_, ?_⟩
  · rw [hsplit, List.take_left' hlength]
  · rw [hsplit, List.drop_left' hlength]
    exact List.take_left' rfl
  · exact List.take_left' (by simp [frameSymbols, frameCheck, hheader]; omega)

/-! ## Damaged frames (R23) -/

/-- A data octet that the frame collected so far cannot take ends it damaged (R20). -/
theorem frameData_damaged {start now : Nat} {octets trailer : List Octet} {o : Octet}
    (h : octets.length = 1 ∧ o.toNat ∉ [1, 2, 3, 4, 5, 8, 9] ∨ octets.length = 2 ∧ 1 < o.toNat ∨
      octets.length = 3 ∧ 240 < o.toNat ∨ 4 ≤ octets.length ∧ octets.length = 6 + (octets.getD 3 0).toNat) :
    frameData start now octets false trailer o = itemEnds start now .damagedFrame := by
  unfold frameData
  rw [if_neg Bool.false_ne_true]
  rcases h with ⟨hlength, hkind⟩ | ⟨hlength, hcontrol⟩ | ⟨hlength, hlong⟩ | ⟨hheader, hfull⟩
  · match octets, hlength with
    | [a], _ =>
      have hnone : headerOctetOk [a, o] = false := by
        have hhead : headFrameOf o = none := by
          unfold headFrameOf
          split <;> simp_all
        have hresponse : o ≠ responseCode := fun h => hkind (by simp [h, responseCode])
        have hreport : o ≠ reportCode := fun h => hkind (by simp [h, reportCode])
        simp [headerOctetOk, hhead, hresponse, hreport]
      simp [hnone]
  · match octets, hlength with
    | [a, b], _ =>
      have hnone : toggleOf o = none := by
        have h0 : o ≠ 0 := fun h => by simp [h] at hcontrol
        have h1 : o ≠ 1 := fun h => by simp [h] at hcontrol
        rw [toggleOf, if_neg h0, if_neg h1]
      simp [headerOctetOk, hnone]
  · match octets, hlength with
    | [a, b, c], _ => simp [headerOctetOk, hlong.not_ge]
  · exact if_pos ⟨hfull.trans (frameOctets_of_header hheader).symm, hheader⟩

/-- CLOSE ends a frame damaged before the frame is complete, and in its trailer (R20, R21). -/
theorem frameClose_damaged {start now : Nat} {octets : List Octet} {closed : Bool}
    (h : closed = true ∨ octets.length < 4 ∨ octets.length ≠ 6 + (octets.getD 3 0).toNat) :
    frameClose start now octets closed = itemEnds start now .damagedFrame := by
  unfold frameClose
  split
  · rfl
  · rename_i hopen
    refine if_neg ?_
    rintro ⟨hfull, hheader⟩
    rcases h with h | h | h
    · exact hopen h
    · omega
    · exact h (hfull.trans (frameOctets_of_header hheader))

/-- In SEEK only OPEN and the marker symbols begin an item (R19). -/
theorem seekInput_of_not_beginning {now : Nat} {i : LineInput}
    (h : ∀ k, k = .opening ∨ k = .turn ∨ k = .sweep ∨ k = .call ∨ k = .probe → i ≠ .symbol (.control k)) :
    seekInput now i = .seek := by
  cases i with
  | violation => rfl
  | symbol x =>
    cases x with
    | data o => rfl
    | control k => cases k <;> simp_all [seekInput, markerKindOf]

end Sys2Proof.Machine

section

set_option Elab.async false

open Sys2Proof.Machine

/-- Settles O14: a frame is collected symbol by symbol (`receiveAll_frame`), its last ones decide its item, and every input it cannot
take ends it damaged. -/
theorem framesAreReadAsSent : Obligations.FramesAreReadAsSent := by
  unfold Obligations.FramesAreReadAsSent
  refine ⟨by decide +kernel, fun now kind address toggle payload hpayload => ?head,
    fun now source kind toggle payload hpayload hkind => ?drop, fun now start octets closed trailer => ?damaged,
    fun now i hi => ?seek⟩
  case head =>
    have hheader : (headHeader address kind toggle payload.length).length = 4 := rfl
    have hsent : headFrameSymbols address kind toggle payload = frameSymbols (headHeader address kind toggle payload.length) payload ++
        [Symbol.data (outcomeOctet .noMatch), Symbol.data 0] := rfl
    have hcodes : [address, headKindOctet kind, toggleBit toggle, BitVec.ofNat 8 payload.length] =
        headHeader address kind toggle payload.length := by cases kind <;> cases toggle <;> rfl
    obtain ⟨hahead, hcheck, hframe⟩ := frame_parts (payload := payload) hheader
      [Symbol.data (outcomeOctet .noMatch), Symbol.data 0]
    have hreturned := receiveAll_headFrame (now := now) (address := address) (kind := kind) (toggle := toggle) hpayload
      (check := frameCheck (headHeader address kind toggle payload.length ++ payload)) rfl
    have hsplit (a b : Sys2Proof.Octet) : frameSymbols (headHeader address kind toggle payload.length) payload ++
        [Symbol.data a, Symbol.data b] = [Symbol.control .opening] ++ (headHeader address kind toggle payload.length ++ payload ++
          frameCheck (headHeader address kind toggle payload.length ++ payload)).map Symbol.data ++
          ([Symbol.control .closing] ++ [Symbol.data a, Symbol.data b]) := List.append_assoc _ _ _
    dsimp only
    rw [hcodes, hsent, hahead, hcheck, hframe]
    refine ⟨?_, ?_, fun outcome copies hcopies => ?_, fun a b hab => ?_, fun check trailer htwo htrailer hwrong => ?_⟩
    · rw [frameSymbols_eq, List.append_assoc]
      rfl
    · rw [hsplit, hreturned, headFrameItem_of_intact rfl (by decide)]
      rfl
    · have hcount : (BitVec.ofNat 8 copies).toNat = copies := by simp; omega
      rw [hsplit, hreturned, headFrameItem_of_intact (outcomeOf_number outcome) (hcount.trans_le hcopies), hcount]
    · rw [hsplit, hreturned, headFrameItem_of_damaged (.inr (hab.imp_left outcomeOf_of_large))]
    · obtain ⟨a, b, rfl⟩ := List.length_eq_two.mp htrailer
      have hbad : check ≠ frameCheck (headHeader address kind toggle payload.length ++ payload) := fun h => hwrong (h ▸ rfl)
      have hend := receiveAll_headFrame (now := now) (address := address) (kind := kind) (toggle := toggle) hpayload htwo a b
      rw [headFrameItem_of_damaged (.inl (frameCheckOk_eq_false htwo hbad))] at hend
      simpa only [List.map_append, List.append_assoc, List.map_cons, List.map_nil] using hend
  case drop =>
    have hheader : (dropHeader source kind toggle payload.length).length = 4 := rfl
    have hcodes : [source, kind, toggleBit toggle, BitVec.ofNat 8 payload.length] =
        dropHeader source kind toggle payload.length := by cases toggle <;> rfl
    have hsent : frameSymbols [source, kind, toggleOctet toggle, octetOf payload.length] payload =
        frameSymbols (dropHeader source kind toggle payload.length) payload := rfl
    obtain ⟨hahead, hcheck, -⟩ := frame_parts (payload := payload) hheader []
    rw [List.append_nil] at hahead hcheck
    have hdelivered := fun {check : List Sys2Proof.Octet} (h : check.length = 2) => receiveAll_dropFrame (now := now) (source := source)
      (kind := kind) (toggle := toggle) (payload := payload) hkind hpayload h
    dsimp only
    rw [hcodes, hsent, hahead, hcheck]
    refine ⟨frameSymbols_eq _ _, ?_, fun check htwo hwrong => ?_⟩
    · rw [frameSymbols, hdelivered rfl, dropFrameItem_of_intact]
      rfl
    · have hbad : check ≠ frameCheck (dropHeader source kind toggle payload.length ++ payload) := fun h => hwrong (h ▸ rfl)
      have hend := hdelivered htwo
      rw [dropFrameItem_of_damaged (frameCheckOk_eq_false htwo hbad)] at hend
      simpa only [List.map_append, List.append_assoc] using hend
  case damaged =>
    refine ⟨fun o hopen h => ?_, fun h => frameClose_damaged h, rfl, rfl, rfl, rfl, rfl, rfl, rfl, rfl⟩
    rw [hopen]
    exact frameData_damaged h
  case seek => rw [receive, seekInput_of_not_beginning hi]

end

/-! ## Markers at the receiver (R8 to R11, R22, R24) -/

namespace Sys2Proof.Machine

set_option Elab.async false

/-- The control symbol that begins a marker (R19). -/
def markerControl : MarkerKind → Control
  | .turn => .turn
  | .sweep => .sweep
  | .call => .call
  | .probe => .probe

theorem seekInput_markerControl (now : Nat) (kind : MarkerKind) :
    seekInput now (.symbol (.control (markerControl kind))) = .marker now kind [] := by cases kind <;> rfl

theorem byteAt_append_single {octets : List Octet} (o : Octet) : byteAt (octets ++ [o]) octets.length = o.toNat := by
  simp [byteAt, octetAt]

/-- An octet that a marker may hold there, with content still to come, is collected (R22). -/
theorem receive_marker_collects {now start : Nat} {kind : MarkerKind} {octets : List Octet} {o : Octet}
    (hroom : octets.length ≠ markerOctets kind octets) (hok : markerOctetOk kind (octets ++ [o]) = true) :
    receive now (.marker start kind octets) (.symbol (.data o)) = (.marker start kind (octets ++ [o]), []) := by
  simp [receive, markerData, hroom, hok]

/-- A marker whose content was collected whole ends at its check octet (R22, R24). -/
theorem receiveAll_marker {now : Nat} {kind : MarkerKind} {content : List Octet}
    (hcollected : receiveAll (now + 1) (.marker now kind []) ((content.map Symbol.data).map .symbol) = (.marker now kind content, []))
    (hwhole : content.length = markerOctets kind content) (check : Octet) :
    receiveAll now .seek (([Symbol.control (markerControl kind)] ++ content.map Symbol.data ++ [Symbol.data check]).map .symbol) =
      (.seek, [{ item := if check = markerCheck content then markerItem kind content else .damagedMarker kind
                 span := { start := now, stop := now + content.length + 1 } }]) := by
  have hbegin : receiveAll now .seek ([Symbol.control (markerControl kind)].map .symbol) = (.marker now kind [], []) := by
    simp [receiveAll, receive, seekInput_markerControl]
  have hall := receiveAll_append_silent hbegin hcollected
  rw [List.map_append, List.map_append, receiveAll_append_of_silent hall]
  simp only [List.map_cons, List.map_nil, receiveAll, receive, markerData, if_pos hwhole, itemEnds, List.append_nil,
    List.length_append, List.length_map, List.length_singleton]
  rw [show now + (1 + content.length) = now + content.length + 1 by omega]

/-! ## The content of each marker is collected (R22) -/

/-- The entries of a CALL marker are collected one by one (R22). -/
theorem receiveAll_call_entries {now start : Nat} {octets more : List Octet} (hcount : 1 ≤ octets.length)
    (hroom : octets.length + more.length ≤ 1 + byteAt octets 0) :
    receiveAll now (.marker start .call octets) ((more.map Symbol.data).map .symbol) = (.marker start .call (octets ++ more), []) := by
  induction more generalizing now octets with
  | nil => simp [receiveAll]
  | cons o rest ih =>
    rw [List.length_cons] at hroom
    have hopen : octets.length ≠ markerOctets .call octets := by
      rw [markerOctets, if_neg (by omega)]; omega
    have hok : markerOctetOk .call (octets ++ [o]) = true := if_neg (by rw [List.length_append, List.length_singleton]; omega)
    have hrest := ih (now := now + 1) (octets := octets ++ [o]) (by simp)
      (by rw [byteAt_append_of_lt (by omega)]; simp; omega)
    simp only [List.map_cons, receiveAll, receive_marker_collects hopen hok, hrest, List.nil_append, List.append_assoc, List.cons_append]

theorem receiveAll_call {now start : Nat} {entries : List Octet} (h : entries.length ≤ 32) :
    receiveAll now (.marker start .call []) (((octetOf entries.length :: entries).map Symbol.data).map .symbol) =
      (.marker start .call (octetOf entries.length :: entries), []) := by
  have hcount := toNat_octetOf_of_lt (show entries.length < 256 by omega)
  have hok : markerOctetOk .call ([] ++ [octetOf entries.length]) = true := by
    simp [markerOctetOk, byteAt, octetAt, hcount, h]
  have hfirst := receive_marker_collects (now := now) (start := start) (kind := .call) (octets := [])
    (o := octetOf entries.length) (by simp [markerOctets]) hok
  have hrest := receiveAll_call_entries (now := now + 1) (start := start) (octets := [octetOf entries.length]) (more := entries)
    (by simp) (by simp [byteAt, octetAt, hcount])
  simp only [List.map_cons, receiveAll, hfirst, List.nil_append, hrest, List.cons_append]

/-- The octets of the pairs of a SWEEP marker (R9). -/
def pairOctets (acks : List AckPair) : List Octet := acks.flatMap (fun p => [stationOctet p.address, toggleOctet p.toggle])

theorem length_pairOctets (acks : List AckPair) : (pairOctets acks).length = 2 * acks.length := by
  induction acks with
  | nil => rfl
  | cons p rest ih =>
    rw [pairOctets] at ih
    simp [pairOctets, List.flatMap_cons, ih]
    omega

theorem toNat_stationOctet (a : Addr) : (stationOctet a).toNat = a.val + 1 := by
  have := a.isLt
  simp [stationOctet, stationNumber]
  omega

theorem toNat_toggleOctet_le (t : Toggle) : (toggleOctet t).toNat ≤ 1 := by cases t <;> decide

/-- The pairs of a SWEEP marker are collected octet by octet (R22). -/
theorem receiveAll_sweep_pairs {now start : Nat} {octets : List Octet} {acks : List AckPair} (hcounts : 2 ≤ octets.length)
    (heven : octets.length % 2 = 0) (hroom : octets.length + 2 * acks.length ≤ 2 + 2 * byteAt octets 1) :
    receiveAll now (.marker start .sweep octets) (((pairOctets acks).map Symbol.data).map .symbol) =
      (.marker start .sweep (octets ++ pairOctets acks), []) := by
  induction acks generalizing now octets with
  | nil => simp [receiveAll, pairOctets]
  | cons p rest ih =>
    rw [List.length_cons] at hroom
    have hbyte (o : Octet) : byteAt (octets ++ [o]) 1 = byteAt octets 1 := byteAt_append_of_lt (by omega) _
    have hopen : octets.length ≠ markerOctets .sweep octets := by
      rw [markerOctets, if_neg (by omega)]; omega
    have hopen' : (octets ++ [stationOctet p.address]).length ≠ markerOctets .sweep (octets ++ [stationOctet p.address]) := by
      rw [markerOctets, if_neg (by rw [List.length_append, List.length_singleton]; omega), hbyte, List.length_append,
        List.length_singleton]
      omega
    have hok : markerOctetOk .sweep (octets ++ [stationOctet p.address]) = true := by
      have hrange : within 1 32 (byteAt (octets ++ [stationOctet p.address]) octets.length) = true := by
        rw [byteAt_append_single, toNat_stationOctet]
        simp [within]
      simp only [markerOctetOk, List.length_append, List.length_singleton, Nat.add_sub_cancel]
      rw [if_neg (by omega), if_neg (by omega), if_pos (by omega)]
      exact hrange
    have hok' : markerOctetOk .sweep (octets ++ [stationOctet p.address] ++ [toggleOctet p.toggle]) = true := by
      have hrange : byteAt (octets ++ [stationOctet p.address] ++ [toggleOctet p.toggle]) (octets ++ [stationOctet p.address]).length ≤ 1 := by
        rw [byteAt_append_single]
        exact toNat_toggleOctet_le p.toggle
      rw [List.length_append, List.length_singleton] at hrange
      simp only [markerOctetOk, List.length_append, List.length_singleton, Nat.add_sub_cancel]
      rw [if_neg (by omega), if_neg (by omega), if_neg (by omega)]
      exact decide_eq_true hrange
    have hrest := ih (now := now + 1 + 1) (octets := octets ++ [stationOctet p.address] ++ [toggleOctet p.toggle]) (by simp)
      (by simp; omega) (by rw [byteAt_append_of_lt (by simp; omega), hbyte]; simp; omega)
    have hpairs : pairOctets (p :: rest) = stationOctet p.address :: toggleOctet p.toggle :: pairOctets rest := rfl
    simp only [hpairs, List.map_cons, receiveAll, receive_marker_collects hopen hok, receive_marker_collects hopen' hok', hrest]
    simp

theorem sweepContent_eq (budget : Nat) (acks : List AckPair) :
    sweepContent budget acks = octetOf budget :: octetOf acks.length :: pairOctets acks := rfl

theorem receiveAll_sweep {now start : Nat} {budget : Nat} {acks : List AckPair} (hbudget : budget ≤ 8) (hacks : acks.length ≤ 32) :
    receiveAll now (.marker start .sweep []) (((sweepContent budget acks).map Symbol.data).map .symbol) =
      (.marker start .sweep (sweepContent budget acks), []) := by
  have hb := toNat_octetOf_of_lt (show budget < 256 by omega)
  have hn := toNat_octetOf_of_lt (show acks.length < 256 by omega)
  have hfirst := receive_marker_collects (now := now) (start := start) (kind := .sweep) (octets := []) (o := octetOf budget)
    (by simp [markerOctets]) (by simp [markerOctetOk, byteAt, octetAt, hb, hbudget])
  have hsecond := receive_marker_collects (now := now + 1) (start := start) (kind := .sweep) (octets := [octetOf budget])
    (o := octetOf acks.length) (by simp [markerOctets]) (by simp [markerOctetOk, byteAt, octetAt, hn, hacks])
  have hrest := receiveAll_sweep_pairs (now := now + 1 + 1) (start := start) (octets := [octetOf budget, octetOf acks.length])
    (acks := acks) (by simp) (by simp) (by simp [byteAt, octetAt, hn])
  simp only [sweepContent_eq, List.map_cons, receiveAll, hfirst, hsecond, List.nil_append, List.cons_append, hrest]

theorem stationAt_stationOctet (a : Addr) : stationAt (stationOctet a).toNat = some a := by
  have := a.isLt
  rw [toNat_stationOctet, stationAt, dif_pos (by omega)]
  rfl

theorem toggleOctet_eq_one (t : Toggle) : (toggleOctet t == 1) = t := by cases t <;> rfl

theorem ackPairsOf_pairOctets (acks : List AckPair) : ackPairsOf (pairOctets acks) = acks := by
  induction acks with
  | nil => rfl
  | cons p rest ih =>
    have hpairs : pairOctets (p :: rest) = stationOctet p.address :: toggleOctet p.toggle :: pairOctets rest := rfl
    rw [hpairs, ackPairsOf, stationAt_stationOctet]
    simp only [toggleOctet_eq_one, ih]

/-! ## What a sent marker delivers (R24) -/

/-- `content` is a marker's whole content, with `item` what it delivers. -/
def MarkerContent (kind : MarkerKind) (content : List Octet) (item : Item) : Prop :=
  (∀ now start, receiveAll now (.marker start kind []) ((content.map Symbol.data).map .symbol) = (.marker start kind content, [])) ∧
  content.length = markerOctets kind content ∧ markerItem kind content = item

theorem markerContent_turn : MarkerContent .turn [] .turnMarker := ⟨fun _ _ => rfl, rfl, rfl⟩

theorem markerContent_probe (echo : Octet) : MarkerContent .probe [echo] (.probeMarker echo) :=
  ⟨fun _ _ => by simp [receiveAll, receive, markerData, markerOctets, markerOctetOk], rfl, rfl⟩

theorem markerContent_call {entries : List Octet} (h : entries.length ≤ 32) :
    MarkerContent .call (octetOf entries.length :: entries) (.callMarker (entries.map callEntryOf)) := by
  have hcount := toNat_octetOf_of_lt (show entries.length < 256 by omega)
  refine ⟨fun _ _ => receiveAll_call h, ?_, rfl⟩
  rw [markerOctets, if_neg (by simp)]
  simp [byteAt, octetAt, hcount]
  omega

theorem markerContent_sweep {budget : Nat} {acks : List AckPair} (hbudget : budget ≤ 8) (hacks : acks.length ≤ 32) :
    MarkerContent .sweep (sweepContent budget acks) (.sweepMarker budget acks) := by
  have hb := toNat_octetOf_of_lt (show budget < 256 by omega)
  have hn := toNat_octetOf_of_lt (show acks.length < 256 by omega)
  refine ⟨fun _ _ => receiveAll_sweep hbudget hacks, ?_, ?_⟩
  · rw [sweepContent_eq, markerOctets, if_neg (by simp)]
    simp [byteAt, octetAt, hn, length_pairOctets]
    omega
  · simp [sweepContent_eq, markerItem, byteAt, octetAt, hb, ackPairsOf_pairOctets]

theorem MarkerContent.delivered {kind : MarkerKind} {content : List Octet} {item : Item} (h : MarkerContent kind content item)
    (now : Nat) (check : Octet) :
    receiveAll now .seek (([Symbol.control (markerControl kind)] ++ content.map Symbol.data ++ [Symbol.data check]).map .symbol) =
      (.seek, [{ item := if check = markerCheck content then item else .damagedMarker kind
                 span := { start := now, stop := now + content.length + 1 } }]) := by
  obtain ⟨hcollected, hwhole, hitem⟩ := h
  rw [receiveAll_marker (hcollected _ _) hwhole, hitem]

/-- A content octet out of its range ends the marker damaged (R22). -/
theorem markerData_damaged {start now : Nat} {kind : MarkerKind} {octets : List Octet} {o : Octet}
    (h : kind = .sweep ∧
        (octets.length = 0 ∧ 8 < o.toNat ∨ octets.length = 1 ∧ 32 < o.toNat ∨
         2 ≤ octets.length ∧ octets.length < 2 + 2 * (octets.getD 1 0).toNat ∧
          (octets.length % 2 = 0 ∧ (o.toNat = 0 ∨ 32 < o.toNat) ∨ octets.length % 2 = 1 ∧ 1 < o.toNat)) ∨
       kind = .call ∧ octets.length = 0 ∧ 32 < o.toNat) :
    markerData start now kind octets o = itemEnds start now (.damagedMarker kind) := by
  have hlast : byteAt (octets ++ [o]) octets.length = o.toNat := byteAt_append_single o
  have hopen : octets.length ≠ markerOctets kind octets := by
    rcases h with ⟨rfl, h⟩ | ⟨rfl, h0, -⟩
    · rcases h with ⟨h0, -⟩ | ⟨h1, -⟩ | ⟨h2, hroom, -⟩
      · simp [markerOctets, h0]
      · simp [markerOctets, h1]
      · rw [markerOctets, if_neg (by omega)]
        exact hroom.ne
    · simp [markerOctets, h0]
  have hbad : markerOctetOk kind (octets ++ [o]) = false := by
    rcases h with ⟨rfl, h⟩ | ⟨rfl, h0, hcount⟩
    · simp only [markerOctetOk, List.length_append, List.length_singleton, Nat.add_sub_cancel, hlast]
      rcases h with ⟨h0, hbudget⟩ | ⟨h1, hcount⟩ | ⟨h2, -, ⟨heven, haddress⟩ | ⟨hodd, htoggle⟩⟩
      · rw [if_pos (by omega)]
        exact decide_eq_false (by omega)
      · rw [if_neg (by omega), if_pos (by omega)]
        exact decide_eq_false (by omega)
      · rw [if_neg (by omega), if_neg (by omega), if_pos (by omega)]
        simp [within]
        omega
      · rw [if_neg (by omega), if_neg (by omega), if_neg (by omega)]
        exact decide_eq_false (by omega)
    · rw [h0] at hlast
      rw [markerOctetOk, if_pos (by simp [h0]), hlast]
      exact decide_eq_false (by omega)
  rw [markerData, if_neg hopen, hbad]
  rfl

end Sys2Proof.Machine

section

set_option Elab.async false

open Sys2Proof.Machine

/-- Settles O15: each kind of marker collects its content (`MarkerContent`) and ends at its check octet. -/
theorem markersAreReadAsSent : Obligations.MarkersAreReadAsSent := by
  unfold Obligations.MarkersAreReadAsSent
  have hmarker (c : Control) (content : List Sys2Proof.Octet) : markerSymbols c content =
      Symbol.control c :: (content.map Symbol.data ++ [Symbol.data (lowOctet (checkOf content))]) := by
    rw [markerSymbols, markerCheck_eq]
    rfl
  refine ⟨⟨by decide +kernel, hmarker _ _, fun _ => hmarker _ _, fun _ _ => hmarker _ _, hmarker⟩, fun now kind sent item h => ?sent,
    fun now start kind octets => ⟨fun o h => markerData_damaged h, ?ends, rfl, rfl, rfl, rfl, rfl⟩⟩
  case sent =>
    have hcontent : ∃ content, sent = markerSymbols (markerControl kind) content ∧ MarkerContent kind content item := by
      rcases h with ⟨rfl, rfl, rfl⟩ | ⟨budget, acks, hbudget, hacks, rfl, rfl, rfl⟩ | ⟨entries, hentries, rfl, rfl, rfl⟩ | ⟨echo, rfl, rfl, rfl⟩
      · exact ⟨_, rfl, markerContent_turn⟩
      · exact ⟨_, rfl, markerContent_sweep hbudget hacks⟩
      · exact ⟨_, rfl, markerContent_call hentries⟩
      · exact ⟨_, rfl, markerContent_probe echo⟩
    obtain ⟨content, rfl, hwhole⟩ := hcontent
    have hstop : now + (markerSymbols (markerControl kind) content).length - 1 = now + content.length + 1 := by
      simp [markerSymbols]; omega
    dsimp only
    rw [hstop]
    refine ⟨(hwhole.delivered now _).trans (by rw [if_pos rfl]), fun check hcheck => ?_⟩
    have hother : check ≠ markerCheck content := fun h => hcheck (by rw [h]; exact List.getLast?_concat)
    rw [show (markerSymbols (markerControl kind) content).dropLast = [Symbol.control (markerControl kind)] ++ content.map Symbol.data from
      List.dropLast_concat, hwhole.delivered, if_neg hother]
  case ends =>
    rintro i (rfl | rfl | rfl | rfl) <;> rfl

end

/-! ## The order of choice (R119 to R128) -/

namespace Sys2Proof.Machine

set_option Elab.async false

theorem isHead_of_headEntry {s : State} {l : ListId} {p : PoolIx} {q : PoolEntry} (h : headEntry s l = some (p, q)) : IsHead s l p q :=
  headEntry_some h

/-- The head of a list, read once and for all. -/
theorem headEntry_eq_some {s : State} {l : ListId} {p : PoolIx} {q : PoolEntry} : headEntry s l = some (p, q) ↔ IsHead s l p q :=
  ⟨isHead_of_headEntry, headEntry_of_isHead⟩

/-- A list has one head. -/
theorem IsHead.unique {s : State} {l : ListId} {p p' : PoolIx} {q q' : PoolEntry} (h : IsHead s l p q) (h' : IsHead s l p' q') :
    p' = p ∧ q' = q := by
  have heq := (headEntry_of_isHead h').symm.trans (headEntry_of_isHead h)
  exact Prod.mk.inj (Option.some.inj heq)

theorem opportunity_of_mayHandOver {s : State} {c : Configuration} (h : MayHandOver s c) : opportunity s = true := by
  obtain ⟨hrunning, hconfig, hopened, hroom, hclosing, hwaiting⟩ := h
  refine (opportunity_iff s).mpr ⟨hrunning, hopened, by rwa [configured_of_some hconfig], fun e he => ?_, hwaiting⟩
  simpa [isClosing] using hclosing e he

theorem elementMayReserve_iff (s : State) : elementMayReserve s = true ↔ (claims s).length < reservable s := decide_eq_true_iff

theorem elementMayReserve_eq_false (s : State) : elementMayReserve s = false ↔ reservable s ≤ (claims s).length := by
  simp [elementMayReserve]

theorem controlHeadReady_of_isHead {s : State} {p : PoolIx} {q : PoolEntry} {kind : RequestKind} (h : IsHead s .control p q)
    (hkind : q.kind = kind) (hready : q.phase = .ready) : controlHeadReady s kind = some (p, q) := by
  simp [controlHeadReady, headEntry_of_isHead h, hkind, hready]

theorem controlHeadReady_eq_none {s : State} {kind : RequestKind}
    (h : ∀ p q, IsHead s .control p q → q.kind = kind → q.phase ≠ .ready) : controlHeadReady s kind = none := by
  cases hready : controlHeadReady s kind with
  | none => rfl
  | some x =>
    obtain ⟨hhead, hkind, hphase⟩ := controlHeadReady_some hready
    exact absurd hphase (h _ _ (isHead_of_headEntry hhead) hkind)

/-- The control head in READY is of one kind. -/
theorem controlHeadReady_of_other {s : State} {p : PoolIx} {q : PoolEntry} {kind : RequestKind} (h : IsHead s .control p q)
    (hkind : q.kind ≠ kind) : controlHeadReady s kind = none :=
  controlHeadReady_eq_none fun _ _ h' hk => absurd ((h.unique h').2 ▸ hk) hkind

theorem callPlan_eq_none {s : State} (hhead : controlHeadReady s .callNow = none ∨ elementMayReserve s = false)
    (hdue : s.sc.callDue = false) : callPlan s = none := by
  rcases hhead with h | h <;> simp [callPlan, h, hdue]

theorem sweepPlan_eq_none {s : State} (hhead : controlHeadReady s .sweepNow = none ∨ elementMayReserve s = false)
    (hdue : s.sc.sweepDue = false) : sweepPlan s = none := by
  rcases hhead with h | h <;> simp [sweepPlan, h, hdue]

theorem groupPlan_eq_none {s : State} (h : controlHeadReady s .groupPost = none) : groupPlan s = none := by
  simp [groupPlan, h]

/-! ## The scan from the round cursor (R127, R128) -/

/-- The first station from the cursor upward that has a property (R127). -/
theorem find_stationsFrom {c a : Addr} {P : Addr → Bool} (ha : P a = true)
    (hfirst : ∀ b : Addr, (b - c).val < (a - c).val → P b = false) : (stationsFrom c).find? P = some a := by
  rw [stationsFrom, List.find?_map, Option.map_eq_some_iff]
  refine ⟨a - c, List.find?_eq_some_iff_getElem.mpr ⟨by simpa using ha, (a - c).val, by simp, by simp, fun j hj => ?_⟩,
    add_sub_cancel c a⟩
  have hj32 : j < 32 := hj.trans (a - c).isLt
  simpa using hfirst (c + ⟨j, hj32⟩) (by rwa [add_sub_cancel_left])

theorem find_stationsFrom_eq_none {c : Addr} {P : Addr → Bool} (h : ∀ b, P b = false) : (stationsFrom c).find? P = none :=
  List.find?_eq_none.mpr fun b _ => by rw [h b]; exact Bool.false_ne_true

theorem awaitsRest_of_isHead {s : State} {a : Addr} {p : PoolIx} {q : PoolEntry} (h : IsHead s (.station a) p q) :
    awaitsRest s a = true ↔ q.kind = .expel ∧ q.takenUp = true ∧ q.phase = .ready ∧ q.cancelMark = false ∧ headTimer s a ≠ .expired := by
  simp [awaitsRest, headEntry_of_isHead h, and_assoc]

/-- No REST waits at a station whose head was not taken up (R128). -/
theorem awaitsRest_eq_false {s : State} {b : Addr} (h : ∀ p q, IsHead s (.station b) p q → q.takenUp = false) :
    awaitsRest s b = false := by
  unfold awaitsRest
  split
  · simp [h _ _ (isHead_of_headEntry ‹_›)]
  · rfl

/-- A station is eligible by its state and its list's head (R126). -/
theorem eligible_iff {s : State} {a : Addr} : eligible s a = true ↔ ∃ p q, Eligible s a p q := by
  constructor
  · intro h
    unfold eligible at h
    obtain ⟨hstate, hhead⟩ := Bool.and_eq_true_iff.mp h
    split at hhead
    · rename_i p q hpq
      simp only [isWork, Bool.and_eq_true, Bool.or_eq_true, beq_iff_eq, Bool.not_eq_true', bne_iff_ne] at hhead hstate
      obtain ⟨⟨⟨hkind, hphase⟩, hcancel⟩, htimer⟩ := hhead
      exact ⟨p, q, isHead_of_headEntry hpq, hstate, hkind, hphase, hcancel, htimer⟩
    · cases hhead
  · rintro ⟨p, q, hhead, hstate, hkind, hphase, hcancel, htimer⟩
    simp [eligible, headEntry_of_isHead hhead, isWork, hstate, hkind, hphase, hcancel, htimer]

/-- What is handed over at an opportunity with nothing ahead of it in the order of choice. -/
theorem choice_of_mayHandOver {s : State} {c : Configuration} (h : MayHandOver s c) (hcall : callPlan s = none)
    (hsweep : sweepPlan s = none) : (opportunity s && (callPlan s).isNone && (sweepPlan s).isNone) = true := by
  rw [opportunity_of_mayHandOver h, hcall, hsweep]
  rfl

end Sys2Proof.Machine

/-! ## GROUP-POST and REST (R125, R128) -/

namespace Sys2Proof.Machine

set_option Elab.async false

theorem groupOf_eq_some {address : Octet} {g : Nat} :
    groupOf address = some g ↔ 48 ≤ address.toNat ∧ address.toNat ≤ 55 ∧ address.toNat - 48 = g := by
  simp [groupOf, and_assoc]

/-- The expected count is that of the PRESENT stations of the group, or of all for address 63 (R64). -/
theorem expectedCount_eq (s : State) (address : Octet) :
    expectedCount s address = ((List.finRange 32).filter (fun a =>
      (station s a).state = .present ∧ (address.toNat = 63 ∨ 48 ≤ address.toNat ∧ address.toNat ≤ 55 ∧
        (station s a).groups.getLsbD (address.toNat - 48) = true))).length := by
  refine congrArg List.length (List.filter_congr fun a _ => ?_)
  by_cases hgroup : 48 ≤ address.toNat ∧ address.toNat ≤ 55
  · have hnotAll : address.toNat ≠ 63 := by omega
    simp [groupOf, hgroup, hnotAll, beq_eq_decide]
  · have hnone : ¬(48 ≤ address.toNat ∧ address.toNat ≤ 55 ∧ (station s a).groups.getLsbD (address.toNat - 48) = true) :=
      fun h => hgroup ⟨h.1, h.2.1⟩
    simp [groupOf, hgroup, hnone, beq_eq_decide]

end Sys2Proof.Machine

section

set_option Elab.async false

open Sys2Proof.Machine

/-- Settles O57: with no CALL and no sweep due the GROUP-POST at the control head is chosen, and behind it the first EXPEL that waits
for its REST. -/
theorem groupPostAndRestHandedOver : Obligations.GroupPostAndRestHandedOver := by
  unfold Obligations.GroupPostAndRestHandedOver
  intro s c hmay hcall hsweep
  refine ⟨fun p q hhead hkind hready hslots => ?group, fun a p q hcontrol hhead hkind htaken hready hcancel htimer hothers => ?rest⟩
  case group =>
    have hchoice := choice_of_mayHandOver hmay
      (callPlan_eq_none (.inl (controlHeadReady_of_other hhead (by rw [hkind]; decide))) hcall)
      (sweepPlan_eq_none (.inl (controlHeadReady_of_other hhead (by rw [hkind]; decide))) hsweep)
    have hplan : groupPlan s = some (p, q) := by
      rw [groupPlan, if_pos ((elementMayReserve_iff s).mpr hslots), controlHeadReady_of_isHead hhead hkind hready]
    have hexec : exec .groupPost s = .next (sendGroup p q s) := by
      simp only [exec, execGroupPost, hplan, answer, hchoice, if_true]
    refine ⟨_, hexec, ?_, poolKeptBut_putEntry p _ s, rfl⟩
    exact (entry_putEntry_same p _ s).trans (by rw [expectedCount_eq])
  case rest =>
    have hnone (kind : RequestKind) : controlHeadReady s kind = none := controlHeadReady_eq_none fun p' q' h _ => hcontrol p' q' h
    have hchoice := choice_of_mayHandOver hmay (callPlan_eq_none (.inl (hnone _)) hcall) (sweepPlan_eq_none (.inl (hnone _)) hsweep)
    have hplan : restPlan s = some a := by
      refine find_stationsFrom ((awaitsRest_of_isHead hhead).mpr ⟨hkind, htaken, hready, hcancel, htimer⟩) fun b hb => ?_
      exact awaitsRest_eq_false fun p' q' => hothers b p' q' (by rintro rfl; exact lt_irrefl _ hb)
    have hexec : exec .rest s = .next (sendRest a s) := by
      simp only [exec, execRest, hplan, answer, hchoice, groupPlan_eq_none (hnone _), Option.isNone_none, Bool.and_self, if_true]
    have hsent : sendRest a s =
        handOver { bareEntry .rest with frame := some .rest, target := some (stationOctet a), pool := some p, slots := 1 }
          (restSymbols (stationOctet a)) (putEntry p (some { q with phase := .inTransit, attempts := 1 }) s) := by
      simp only [sendRest, headEntry_of_isHead hhead]
    rw [hsent] at hexec
    exact ⟨_, hexec, entry_putEntry_same p _ s, poolKeptBut_putEntry p _ s, rfl⟩

end

/-! ## The station round (R126, R127) -/

namespace Sys2Proof.Machine

set_option Elab.async false

/-- The turn counts that a vector holds. -/
theorem scanRound_eq_some {s : State} {turns : Vector Nat 32} {a : Addr} {p : PoolIx} {q : PoolEntry} (ha : Eligible s a p q)
    (hturn : turns[a] < (station s a).weight)
    (hfirst : ∀ b p' q', (b - s.sc.cursor).val < (a - s.sc.cursor).val → Eligible s b p' q' → (station s b).weight ≤ turns[b]) :
    scanRound s turns = some a := by
  refine find_stationsFrom (Bool.and_eq_true_iff.mpr ⟨eligible_iff.mpr ⟨p, q, ha⟩, decide_eq_true hturn⟩) fun b hb => ?_
  rw [Bool.and_eq_false_iff, decide_eq_false_iff_not, Nat.not_lt]
  by_cases he : eligible s b = true
  · obtain ⟨p', q', heligible⟩ := eligible_iff.mp he
    exact .inr (hfirst b p' q' hb heligible)
  · exact .inl (Bool.eq_false_of_not_eq_true he)

theorem scanRound_eq_none {s : State} {turns : Vector Nat 32}
    (h : ∀ (b : Addr) p q, Eligible s b p q → (station s b).weight ≤ turns[b]) : scanRound s turns = none := by
  refine find_stationsFrom_eq_none fun b => ?_
  rw [Bool.and_eq_false_iff, decide_eq_false_iff_not, Nat.not_lt]
  by_cases he : eligible s b = true
  · obtain ⟨p, q, heligible⟩ := eligible_iff.mp he
    exact .inr (h b p q heligible)
  · exact .inl (Bool.eq_false_of_not_eq_true he)

theorem noTurns_get (b : Addr) : noTurns[b] = 0 := by simp [noTurns]

/-- The transit entry and the symbols of a sending (R77, R78). -/
theorem sendingRun_eq {address : Octet} {frame : HeadFrame} {toggle : Toggle} {payload : List Octet}
    (hframe : frame = .data ∨ frame = .fetch ∨ frame = .post) :
    sendingRun address frame toggle payload =
      (if frame = .post then .post else .exch,
       if frame = .post then headFrameSymbols address frame toggle payload
       else headFrameSymbols address frame toggle payload ++ markerSymbols .turn [] ++ List.replicate 248 (.control .fill)) := by
  rcases hframe with rfl | rfl | rfl <;> rfl

theorem sendingPayload_eq (q : PoolEntry) (frame : HeadFrame) :
    sendingPayload q frame = if frame = .fetch then [] else q.payload := by cases frame <;> rfl

theorem sendingLength_eq (q : PoolEntry) (frame : HeadFrame) :
    sendingLength q frame = if frame = .fetch then 0 else q.payloadLength := by cases frame <;> rfl

theorem advanceRound_sc (a : Addr) (turns : Vector Nat 32) (s : State) :
    (advanceRound a turns s).sc = { s.sc with
      turns := turns.set a.val (turns[a] + 1) a.isLt, cursor := if turns[a] + 1 < (station s a).weight then a else a + 1 } := rfl

/-- The turn counts after a grant: one more of its station, and the others as they were. -/
theorem getElem_set_addr (turns : Vector Nat 32) (a b : Addr) (n : Nat) :
    (turns.set a.val n a.isLt)[b] = if b = a then n else turns[b] := by
  simp only [Fin.getElem_fin, Vector.getElem_set, Fin.ext_iff, eq_comm]

theorem sendStationHead_eq {s : State} {a : Addr} {p : PoolIx} {q : PoolEntry} {frame : HeadFrame} (h : IsHead s (.station a) p q)
    (hnext : q.nextFrame = some frame) :
    sendStationHead a s =
      handOver { bareEntry (sendingRun (stationOctet a) frame (sendingToggle s a q) (sendingPayload q frame)).1 with
          frame := some frame, target := some (stationOctet a), toggle := sendingToggle s a q, length := sendingLength q frame,
          pool := some p, slots := 1 }
        (sendingRun (stationOctet a) frame (sendingToggle s a q) (sendingPayload q frame)).2
        (reserveSlots 1 (putStation a { station s a with outstanding := some p }
          (putEntry p (some { q with phase := .inTransit, toggleUsed := some (sendingToggle s a q), joinReset := false }) s))) := by
  simp only [sendStationHead, headEntry_of_isHead h, hnext, Option.getD_some]
  rfl

end Sys2Proof.Machine

section

set_option Elab.async false

open Sys2Proof.Machine

/-- Settles O58: the scan of the round finds the station, on the turn counts as they are or on a new round's. -/
theorem stationGranted : Obligations.StationGranted := by
  unfold Obligations.StationGranted
  intro s c a p q frame turns hmay ⟨hcall, hsweep, hcontrol, htaken⟩ hslots heligible hnext hframe hweight hround
  have hnone (kind : RequestKind) : controlHeadReady s kind = none := controlHeadReady_eq_none fun p' q' h _ => hcontrol p' q' h
  have hchoice := choice_of_mayHandOver hmay (callPlan_eq_none (.inl (hnone _)) hcall) (sweepPlan_eq_none (.inl (hnone _)) hsweep)
  have hrest : restPlan s = none := find_stationsFrom_eq_none fun b => awaitsRest_eq_false (htaken b)
  have hgrant : ∃ vector : Vector Nat 32, grantPlan s = some (a, vector) ∧ ∀ b : Sys2Proof.Addr, turns b = vector[b] := by
    rw [grantPlan, if_pos ((elementMayReserve_iff s).mpr hslots)]
    rcases hround with ⟨hturns, hturn, hfirst⟩ | ⟨hturns, hused, hfirst⟩
    · have hscan : scanRound s s.sc.turns = some a := scanRound_eq_some heligible (hturns a ▸ hturn)
        fun b p' q' hb he => hturns b ▸ hfirst b p' q' hb he
      exact ⟨_, by rw [hscan], hturns⟩
    · have hscan : scanRound s noTurns = some a := scanRound_eq_some heligible (by rw [noTurns_get]; exact hweight a)
        fun b p' q' hb he => absurd he (hfirst b p' q' hb)
      exact ⟨_, by rw [scanRound_eq_none hused, hscan]; rfl, fun b => by rw [hturns, noTurns_get]⟩
  obtain ⟨vector, hplan, hvector⟩ := hgrant
  have hexec : exec .stationGrant s = .next (advanceRound a vector (sendStationHead a s)) := by
    simp only [exec, execStationGrant, hplan, answer, hchoice, groupPlan_eq_none (hnone _), hrest, Option.isNone_none, Bool.and_self,
      if_true]
  rw [sendStationHead_eq heligible.1 hnext, sendingRun_eq hframe, sendingPayload_eq, sendingLength_eq] at hexec
  refine ⟨_, hexec, ?_, fun b => ?_, entry_putEntry_same p _ s, ⟨fun l => listOf_putEntry l p _ s, fun x hx => ?_⟩, ?_, ?_, ?_⟩
  · rw [advanceRound_sc, hvector a]
    have hkept : (station (putStation a { station s a with outstanding := some p } (putEntry p (some { q with
        phase := .inTransit, toggleUsed := some (sendingToggle s a q), joinReset := false }) s)) a).weight = (station s a).weight := by
      rw [station_putStation_same]
    rw [← hkept]
    rfl
  · rw [advanceRound_sc, hvector b, hvector a]
    exact (getElem_set_addr vector a b _)
  · exact (poolKeptBut_putEntry p _ s).2 x hx
  · exact station_putStation_same ..
  · exact stationsKeptBut_putStation a _ (putEntry p _ s)
  · rfl

end

/-! ## Take-up of station control requests (R65 to R70, R130) -/

namespace Sys2Proof.Machine

set_option Elab.async false

theorem mayClaim_iff {s : State} (hrunning : s.hp.engine = .running) (l : ListId) : mayClaim s l = true ↔ ClaimServed s l := by
  simp [mayClaim, ClaimServed, (isRunning_iff s).mpr hrunning]

theorem stationResolution_of_isHead {s : State} {a : Addr} {p : PoolIx} {q : PoolEntry} (h : IsHead s (.station a) p q) :
    stationResolution s a = (resolutionOf s a q).map (fun r => (p, q, r)) := by
  simp only [stationResolution, headEntry_of_isHead h]

theorem TakesUp.resolution {s : State} {a : Addr} {p : PoolIx} {q : PoolEntry} (h : TakesUp s a p q) (hkind : isWork q.kind = false) :
    stationResolution s a = some (p, q, .takeUp) := by
  obtain ⟨-, hhead, -, -, htaken, hphase, hcancel, htimer, hread, -⟩ := h
  simp [stationResolution_of_isHead hhead, resolutionOf, hphase, hcancel, htimer, hread, hkind, htaken]

theorem TakesUp.takeUpOf_served {s : State} {a : Addr} {p : PoolIx} {q : PoolEntry} (h : TakesUp s a p q)
    (hkind : isWork q.kind = false) (hserved : ClaimServed s (.station a)) : takeUpOf s a q.kind = some (p, q) := by
  simp [takeUpOf, h.resolution hkind, (mayClaim_iff h.1 _).mpr hserved]

/-- A claim that is not served waits (R133). -/
theorem takeUpOf_of_not_served {s : State} {a : Addr} (hrunning : s.hp.engine = .running) (h : ¬ClaimServed s (.station a))
    (kind : RequestKind) : takeUpOf s a kind = none := by
  cases htake : takeUpOf s a kind with
  | none => rfl
  | some x => exact absurd ((mayClaim_iff hrunning _).mp (takeUpOf_some htake).2.2) h

/-- The DONE record of a request for a station that was not sent, with a count. -/
theorem doneRecord_with_count {s : State} {e : PoolEntry} {a : Addr} (ha : requestStation e = some a)
    (hn : e.expectedCount = none) (status : Status) (length count : Nat) :
    doneRecord s e status length count =
      { workRecord e status e.attempts (waitsField e) length (station s a).state e.lastOutcome with count := count } := by
  rw [← doneRecord_eq_workRecord ha hn]
  rfl

theorem outstandingWithout_of_ne {p : PoolIx} {x : Station} (h : x.outstanding ≠ some p) :
    { x with outstanding := outstandingWithout p x } = x := by
  rw [outstandingWithout, if_neg h]

/-- A control request that was taken up completes through the slot it claims: what it does to its station has been done before, in
`s'` (R65, R130). -/
theorem takenUp_completes {s s' : State} {a : Addr} {p : PoolIx} {q : PoolEntry} (h : TakesUp s a p q) (hkind : q.kind ≠ .exchange)
    (hs' : s' = { s with st := s'.st }) (hkept : StationsKeptBut a s s') (hout : (station s' a).outstanding ≠ some p)
    (status : Status) (count : Nat) :
    let t := settleBus s.hp.queue.length (finishRequest p status 0 count .claimNow s')
    Resolves s t (accessesWithout p s) p q
      { workRecord q status q.attempts 0 0 (station s' a).state q.lastOutcome with count := count } ∧
    t.cu.reserved = s.cu.reserved ∧ t.ls = s.ls ∧ StationsKeptBut a s t ∧ station t a = station s' a := by
  obtain ⟨-, hhead, hstation, hcount, -⟩ := h
  have hentry : entry s' p = some q := by rw [hs']; exact hhead.2
  have hresolves := finishRequest_settled (s := s) (e := q) (n := s.hp.queue.length) hentry rfl rfl (by rw [hs'])
    (by rw [hs']; exact ⟨fun _ => rfl, fun _ _ => rfl⟩) (by rw [hs']; rfl) (by rw [hs']) (by rw [hs']) (by rw [hs'])
    (by rw [hs']; exact ⟨rfl, rfl⟩) (by rw [hs']; exact .refl s) (by rw [hs']) status 0 count .claimNow
  rw [doneRecord_with_count hstation hcount, waitsField, if_neg hkind] at hresolves
  obtain ⟨hkept', hat⟩ := stations_finishRequest hentry hstation status 0 count .claimNow
  have hsame : accessesWithout p s' = accessesWithout p s := by rw [hs']; rfl
  refine ⟨hsame ▸ hresolves, ?_, ?_, hkept.trans (hkept'.trans (.of_eq (settleBus_st ..))), ?_⟩
  · rw [settleBus_cu, reserved_finishRequest hentry, hs']
  · rw [settleBus_ls, finishRequest_ls, hs']
  · rw [station_congr (settleBus_st ..), hat, outstandingWithout_of_ne hout]

/-- The same where nothing is done to the station. -/
theorem takenUp_answers {s : State} {a : Addr} {p : PoolIx} {q : PoolEntry} (h : TakesUp s a p q) (hkind : q.kind ≠ .exchange)
    (status : Status) (count : Nat) :
    let t := settleBus s.hp.queue.length (finishRequest p status 0 count .claimNow s)
    Resolves s t (accessesWithout p s) p q
      { workRecord q status q.attempts 0 0 (station s a).state q.lastOutcome with count := count } ∧
    t.cu.reserved = s.cu.reserved ∧ t.ls = s.ls ∧ StationsKeptBut a s t ∧ station t a = station s a :=
  takenUp_completes h hkind rfl (.of_eq rfl) h.2.2.2.2.2.2.2.2.2 status count

/-- The same where the station has changed but for its outstanding link. -/
theorem takenUp_changes {s : State} {a : Addr} {p : PoolIx} {q : PoolEntry} (h : TakesUp s a p q) (hkind : q.kind ≠ .exchange)
    {x : Station} (hx : x.outstanding = (station s a).outstanding) (status : Status) :
    let t := settleBus s.hp.queue.length (finishRequest p status 0 0 .claimNow (putStation a x s))
    Resolves s t (accessesWithout p s) p q { workRecord q status q.attempts 0 0 x.state q.lastOutcome with count := 0 } ∧
    t.cu.reserved = s.cu.reserved ∧ t.ls = s.ls ∧ StationsKeptBut a s t ∧ station t a = x := by
  have hat : station (putStation a x s) a = x := station_putStation_same ..
  have hcompletes := takenUp_completes h hkind (s' := putStation a x s) rfl (stationsKeptBut_putStation a x s)
    (by rw [hat, hx]; exact h.2.2.2.2.2.2.2.2.2) status 0
  rwa [hat] at hcompletes

end Sys2Proof.Machine

section

set_option Elab.async false

open Sys2Proof.Machine

/-- Settles O60: each kind by the state of its station, and nothing while its claim is not served. -/
theorem stationControlTakenUp : Obligations.StationControlTakenUp := by
  unfold Obligations.StationControlTakenUp
  intro s a p q h
  refine ⟨fun hwaits c hc => ?waits, fun hserved => ⟨fun hkind => ⟨fun hstate => ?admits, fun hv hb => ?notAdmits⟩,
    fun hkind => ⟨fun hstate => ?notExpels, fun hstate hopened => ?awaitsRest, fun hstate => ?expels⟩,
    fun hkind => ⟨fun hstate => ?vacant, fun hstate => ?sets⟩, fun hkind => ?flushes⟩⟩
  case waits =>
    have hnone := takeUpOf_of_not_served h.1 hwaits
    fin_cases hc
    · simp only [exec, execAdmit, hnone]
    · simp only [exec, execExpel, hnone]
    · simp only [exec, execSetStation, hnone]
    · simp only [exec, execFlush, hnone]
  case admits =>
    have htake := hkind ▸ h.takeUpOf_served (by rw [hkind]; rfl) hserved
    have heffect : admitStation a p s =
        finishRequest p .ok 0 0 .claimNow (putStation a { station s a with state := .expected, failures := 0 } s) := by
      rcases hstate with hstate | hstate <;> simp only [admitStation, hstate]
    refine ⟨_, ?_, takenUp_changes h (by rw [hkind]; decide) (by rfl) .ok⟩
    simp only [exec, execAdmit, htake, answerWithBus, if_true, heffect]
  case notAdmits =>
    have htake := hkind ▸ h.takeUpOf_served (by rw [hkind]; rfl) hserved
    have heffect : admitStation a p s = finishRequest p .wrongState 0 0 .claimNow s := by
      unfold admitStation
      split <;> simp_all
    refine ⟨_, ?_, takenUp_answers h (by rw [hkind]; decide) .wrongState 0⟩
    simp only [exec, execAdmit, htake, answerWithBus, if_true, heffect]
  case notExpels =>
    have htake := hkind ▸ h.takeUpOf_served (by rw [hkind]; rfl) hserved
    have heffect : expelStation a p s = finishRequest p .wrongState 0 0 .claimNow s := by
      rcases hstate with hstate | hstate <;> simp only [expelStation, hstate]
    refine ⟨_, ?_, takenUp_answers h (by rw [hkind]; decide) .wrongState 0⟩
    simp only [exec, execExpel, htake, answerWithBus, if_true, heffect]
  case awaitsRest =>
    have htake := hkind ▸ h.takeUpOf_served (by rw [hkind]; rfl) hserved
    have hentry : entry (putStation a { station s a with state := .barred } s) p = some q := h.2.1.2
    have heffect : expelStation a p s = reserveSlots 1 (putEntry p (some { q with takenUp := true })
        (putStation a { station s a with state := .barred } s)) := by
      simp only [expelStation, hstate, hopened, if_true, modEntry_of_entry hentry]
    obtain ⟨bus, queue, hsettled, hacc⟩ := settleBus_eq (n := s.hp.queue.length)
      (s := reserveSlots 1 (putEntry p (some { q with takenUp := true }) (putStation a { station s a with state := .barred } s)))
      (Nat.le_succ _)
    have hexec : exec (.expel a) s = .next (withSequencer bus queue (reserveSlots 1 (putEntry p (some { q with takenUp := true })
        (putStation a { station s a with state := .barred } s)))) := by
      simp only [exec, execExpel, htake, answerWithBus, if_true, heffect, hsettled]
    exact ⟨_, hexec, entry_putEntry_same p _ _, poolKeptBut_putEntry p _ (putStation a _ s), stationsKeptBut_putStation a _ s,
      station_putStation_same .., hacc, rfl⟩
  case expels =>
    have htake := hkind ▸ h.takeUpOf_served (by rw [hkind]; rfl) hserved
    have heffect : expelStation a p s =
        finishRequest p .ok 0 0 .claimNow (putStation a { station s a with state := .barred } s) := by
      rcases hstate with hstate | hstate | hstate | ⟨hstate, hloop⟩
      · simp only [expelStation, hstate]
      · simp only [expelStation, hstate]
      · simp only [expelStation, hstate]
      · simp only [expelStation, hstate, hloop, if_false]
    refine ⟨_, ?_, takenUp_changes h (by rw [hkind]; decide) (by rfl) .ok⟩
    simp only [exec, execExpel, htake, answerWithBus, if_true, heffect]
  case vacant =>
    have htake := hkind ▸ h.takeUpOf_served (by rw [hkind]; rfl) hserved
    refine ⟨_, ?_, takenUp_answers h (by rw [hkind]; decide) .wrongState 0⟩
    simp only [exec, execSetStation, htake, answerWithBus, setStationFields, if_pos hstate, if_true]
  case sets =>
    have htake := hkind ▸ h.takeUpOf_served (by rw [hkind]; rfl) hserved
    refine ⟨_, ?_, takenUp_changes h (by rw [hkind]; decide) (by rfl) .ok⟩
    simp only [exec, execSetStation, htake, answerWithBus, setStationFields, if_neg hstate, if_true, newWeight]
  case flushes =>
    have htake := hkind ▸ h.takeUpOf_served (by rw [hkind]; rfl) hserved
    refine ⟨_, ?_, takenUp_answers h (by rw [hkind]; decide) .ok q.cancelledCount⟩
    simp only [exec, execFlush, htake, answerWithBus, if_true]

end

/-! ## Claims and resolutions without loop traffic (R130 to R133) -/

namespace Sys2Proof.Machine

set_option Elab.async false

theorem isWork_iff (k : RequestKind) : isWork k = true ↔ k = .exchange ∨ k = .post := by simp [isWork]

theorem isWork_eq_false (k : RequestKind) : isWork k = false ↔ k ≠ .exchange ∧ k ≠ .post := by simp [isWork]

/-- What resolves or takes up a request not IN-TRANSIT nor taken up (R131). -/
theorem resolutionOf_isSome {s : State} {a : Addr} {e : PoolEntry} (htaken : e.takenUp = false) (hphase : e.phase ≠ .inTransit) :
    (resolutionOf s a e).isSome = true ↔ e.cancelMark = true ∨ headTimer s a = .expired ∨ e.readFaulted = true ∨
      e.kind ≠ .exchange ∧ e.kind ≠ .post ∨ (e.phase = .queued ∨ e.phase = .ready) ∧ (station s a).state ≠ .present := by
  unfold resolutionOf
  rw [if_neg hphase]
  by_cases hcancel : e.cancelMark = true
  · simp [hcancel]
  by_cases htimer : headTimer s a = .expired
  · simp [hcancel, htimer]
  by_cases hread : e.readFaulted = true
  · simp [hcancel, htimer, hread]
  rw [if_neg hcancel, if_neg htimer, if_neg hread]
  by_cases hkind : isWork e.kind = true
  · have hwork : ¬(e.kind ≠ .exchange ∧ e.kind ≠ .post) := fun h => by rw [(isWork_eq_false _).mpr h] at hkind; cases hkind
    by_cases hgone : (e.phase = .queued ∨ e.phase = .ready) ∧ (station s a).state ≠ .present
    · simp [hkind, hgone]
    · simp only [hkind, if_true, if_neg hgone, Option.isSome_none, hcancel, htimer, hread, hwork, false_or]
      exact iff_of_false Bool.false_ne_true (by simpa using hgone)
  · have hcontrol := (isWork_eq_false _).mp (Bool.eq_false_of_not_eq_true hkind)
    simp [hkind, htaken, hcontrol]

theorem stationClaims_iff {s : State} {a : Addr} : stationClaims s a = true ↔ Claims s (.station a) := by
  simp only [Claims]
  constructor
  · intro h
    unfold stationClaims at h
    split at h
    · rename_i p e r hresolution
      have htaken : e.takenUp = false := by simpa using h
      unfold stationResolution at hresolution
      split at hresolution
      · cases hresolution
      · rename_i p' e' hhead
        obtain ⟨r', hr, heq⟩ := Option.map_eq_some_iff.mp hresolution
        cases heq
        have hphase : e.phase ≠ .inTransit := fun hphase => by rw [resolutionOf, if_pos hphase] at hr; cases hr
        exact ⟨p, e, isHead_of_headEntry hhead, htaken, hphase, (resolutionOf_isSome htaken hphase).mp (by rw [hr]; rfl)⟩
    · cases h
  · rintro ⟨p, q, hhead, htaken, hphase, hwhy⟩
    obtain ⟨r, hr⟩ := Option.isSome_iff_exists.mp ((resolutionOf_isSome htaken hphase).mpr hwhy)
    simp [stationClaims, stationResolution_of_isHead hhead, hr, htaken]

theorem groupReadFaulted_iff (e : PoolEntry) :
    groupReadFaulted e = true ↔ e.kind = .groupPost ∧ e.readFaulted = true ∧ e.phase ≠ .inTransit := by
  simp [groupReadFaulted, and_assoc]

theorem controlClaims_iff {s : State} : controlClaims s = true ↔ Claims s .control := by
  simp only [Claims]
  constructor
  · intro h
    unfold controlClaims at h
    split at h
    · rename_i p e hhead
      refine ⟨p, e, isHead_of_headEntry hhead, ?_⟩
      simpa [groupReadFaulted_iff] using h
    · cases h
  · rintro ⟨p, q, hhead, hwhy⟩
    simpa [controlClaims, headEntry_of_isHead hhead, groupReadFaulted_iff] using hwhy

theorem mem_stationsFrom (c a : Addr) : a ∈ stationsFrom c :=
  List.mem_map.mpr ⟨a - c, List.mem_finRange _, add_sub_cancel c a⟩

/-- The claims are those of the lists whose heads wait to claim a slot (R131, R132). -/
theorem mem_claims {s : State} {l : ListId} : l ∈ claims s ↔ Claims s l := by
  unfold claims
  cases l with
  | control =>
    rw [← controlClaims_iff]
    cases controlClaims s <;> simp
  | station a =>
    rw [← stationClaims_iff]
    cases controlClaims s <;> simp [mem_stationsFrom]

/-- The claims stand in the order of R133: the control list's, then from the round cursor upward. -/
theorem claims_pairwise (s : State) : (claims s).Pairwise (fun l m => claimPlace s l < claimPlace s m) := by
  have hstations : ((stationsFrom s.sc.cursor).filter (stationClaims s)).Pairwise
      (fun a b => (a - s.sc.cursor).val < (b - s.sc.cursor).val) := by
    refine List.Pairwise.filter _ (List.pairwise_map.mpr ((List.pairwise_lt_finRange 32).imp fun {i j} hij => ?_))
    simpa [add_sub_cancel_left] using hij
  refine List.pairwise_append.mpr ⟨by split <;> simp, List.pairwise_map.mpr (hstations.imp fun h => Nat.add_lt_add_left h 1), ?_⟩
  intro l hl m hm
  obtain ⟨a, -, rfl⟩ := List.mem_map.mp hm
  split at hl
  · rw [List.mem_singleton.mp hl]
    exact Nat.lt_add_right _ Nat.one_pos
  · cases hl

/-- A claim of the control list is served first (R133). -/
theorem claimServed_control {s : State} (h : Claims s .control) : ClaimServed s .control ↔ 1 ≤ reservable s := by
  unfold ClaimServed claims
  rw [if_pos (controlClaims_iff.mpr h)]
  cases reservable s with
  | zero => simp
  | succ n => simp

end Sys2Proof.Machine

section

set_option Elab.async false

open Sys2Proof.Machine

/-- Settles O59: the first case of R131 gives the status, and the claim, or the slot an EXPEL holds, the way to complete. -/
theorem resolutionsWithoutLoopTraffic : Obligations.ResolutionsWithoutLoopTraffic := by
  unfold Obligations.ResolutionsWithoutLoopTraffic
  intro s p q hrunning
  have hrunning' := (isRunning_iff s).mpr hrunning
  refine ⟨fun l => mem_claims, claims_pairwise s, fun a status hhead hstation hcount hcase => ?station, fun hhead hkind hphase hread => ?control⟩
  case station =>
    have hresolution : ∃ r, stationResolution s a = some (p, q, r) ∧ resolutionStatus r = some status := by
      rw [stationResolution_of_isHead hhead]
      rcases hcase with ⟨hcancel, hphase, rfl⟩ | ⟨hcancel, htimer, hphase, rfl⟩ | ⟨hcancel, htimer, hphase, hread, rfl⟩ |
        ⟨hcancel, htimer, hread, hkind, hphase, hstate, rfl⟩
      · exact ⟨.cancelled, by simp [resolutionOf, hphase, hcancel], rfl⟩
      · exact ⟨.timeout, by simp [resolutionOf, hphase, hcancel, htimer], rfl⟩
      · exact ⟨.hostFault, by simp [resolutionOf, hphase, hcancel, htimer, hread], rfl⟩
      · have htransit : q.phase ≠ .inTransit := by rcases hphase with h | h <;> rw [h] <;> decide
        exact ⟨.notPresent, by simp [resolutionOf, htransit, hcancel, htimer, hread, hkind, hphase, hstate], rfl⟩
    obtain ⟨r, hresolution, hstatus⟩ := hresolution
    have hresolved (use : SlotUse) := finishRequest_settled (s := s) hhead.2 rfl rfl rfl ⟨fun _ => rfl, fun _ _ => rfl⟩ rfl rfl rfl rfl
      ⟨rfl, rfl⟩ (.refl s) (le_refl s.hp.queue.length) status 0 0 use
    rw [doneRecord_eq_workRecord hstation hcount] at hresolved
    have hstations (use : SlotUse) := stations_finishRequest hhead.2 hstation status 0 0 use
    have hall (use : SlotUse) := And.intro (hresolved use) <|
      And.intro (show (settleBus s.hp.queue.length (finishRequest p status 0 0 use s)).ls = s.ls by
        rw [settleBus_ls, finishRequest_ls]) <|
      And.intro ((hstations use).1.trans (.of_eq (settleBus_st s.hp.queue.length _)))
        ((station_congr (settleBus_st s.hp.queue.length _) a).trans (hstations use).2)
    refine ⟨fun htaken hserved => ⟨_, ?_, hall .claimNow, ?_⟩, fun htaken => ⟨_, ?_, hall .useReserved, ?_⟩,
      fun htaken hserved => ?_⟩
    · simp only [exec, execResolution, hresolution, hstatus, htaken, Bool.false_eq_true, if_false, answerWithBus,
        (mayClaim_iff hrunning _).mpr hserved, if_true]
    · rw [settleBus_cu, reserved_finishRequest hhead.2]
    · simp only [exec, execResolution, hresolution, hstatus, htaken, if_true, answerWithBus, hrunning']
    · rw [settleBus_cu, reserved_finishRequest hhead.2]
    · have hwaits : mayClaim s (.station a) = false :=
        Bool.eq_false_of_not_eq_true fun h => hserved ((mayClaim_iff hrunning _).mp h)
      simp only [exec, execResolution, hresolution, hstatus, htaken, Bool.false_eq_true, if_false, answerWithBus, hwaits]
  case control =>
    have hclaims : Claims s .control := ⟨p, q, hhead, .inr ⟨hkind, hread, hphase⟩⟩
    have hgroup := (groupReadFaulted_iff q).mpr ⟨hkind, hread, hphase⟩
    have hlist : listFor q.kind q.address = .control := by rw [hkind]; rfl
    have hserved := claimServed_control hclaims
    refine ⟨fun hslot => ⟨settleBus s.hp.queue.length (finishRequest p .hostFault 0 0 .claimNow s), ?_, ?_, ?_, ?_, ?_⟩, fun hnone => ?_⟩
    · simp only [exec, execResolution, headEntry_of_isHead hhead, hgroup, (mayClaim_iff hrunning _).mpr (hserved.mpr hslot),
        Bool.and_self, answerWithBus, if_true]
    · have hresolves := finishRequest_settled (s := s) hhead.2 rfl rfl rfl ⟨fun _ => rfl, fun _ _ => rfl⟩ rfl rfl rfl rfl
        ⟨rfl, rfl⟩ (.refl s) (le_refl s.hp.queue.length) .hostFault 0 0 .claimNow
      rwa [doneRecord_eq_controlRecord hlist (by rw [hkind]; decide)] at hresolves
    · rw [settleBus_cu, reserved_finishRequest hhead.2]
    · rw [settleBus_ls, finishRequest_ls]
    · rw [settleBus_st, st_finishRequest_of_control hhead.2 hlist]
    · have hwaits : mayClaim s .control = false := Bool.eq_false_of_not_eq_true fun h => by
        have := hserved.mp ((mayClaim_iff hrunning _).mp h)
        omega
      simp only [exec, execResolution, headEntry_of_isHead hhead, hwaits, Bool.and_false, answerWithBus, Bool.false_eq_true, if_false]

end

/-! ## A due CALL and a due sweep (R104 to R107, R120 to R124) -/

namespace Sys2Proof.Machine

set_option Elab.async false

/-- The completion unit when a due sweep has been decided: BUFFERS-LOW is raised where no descriptor is cached (R106). -/
def buffersLowRaised (cache : List Descriptor) (cu : CompletionUnit) : CompletionUnit :=
  if cache = [] then afterRaise buffersLowRaise cu else cu

theorem afterRaise_reserved (x : Raise) (cu : CompletionUnit) (n : Nat) :
    afterRaise x { cu with reserved := n } = { afterRaise x cu with reserved := n } := by
  by_cases h : raiseIsHeld x.kind cu
  · rw [afterRaise, if_pos (show raiseIsHeld x.kind { cu with reserved := n } from h), afterRaise, if_pos h]
  · rw [afterRaise, if_neg (show ¬raiseIsHeld x.kind { cu with reserved := n } from h), afterRaise, if_neg h]

theorem buffersLowRaised_reserved (cache : List Descriptor) (cu : CompletionUnit) (n : Nat) :
    buffersLowRaised cache { cu with reserved := n } = { buffersLowRaised cache cu with reserved := n } := by
  unfold buffersLowRaised
  split
  · exact afterRaise_reserved ..
  · rfl

theorem sweepDecided_eq {s : State} {c : Configuration} (hconfig : s.hp.config = some c) :
    sweepDecided s = { s with
      sc := { s.sc with sweepDue := false, sweepTimer := freshSweepTimer s c }, cu := buffersLowRaised s.ru.cache s.cu } := by
  have htimer : startSweepTimer { s with sc := { s.sc with sweepDue := false } } =
      { s with sc := { s.sc with sweepDue := false, sweepTimer := freshSweepTimer s c } } := by
    simp only [startSweepTimer, configured_of_some (s := { s with sc := { s.sc with sweepDue := false } }) hconfig]
    rfl
  simp only [sweepDecided, htimer, buffersLowRaised, List.isEmpty_iff]
  split
  · exact raiseNotice_eq ..
  · rfl

/-- The sweep's pairs are those of the ack set (R107). -/
theorem mem_ackPairs {s : State} {a : Addr} {toggle : Toggle} :
    ({ address := a, toggle := toggle } : AckPair) ∈ ackPairs s ↔ ∃ x, s.ru.acks[a] = some x ∧ x.toggle = toggle := by
  simp only [ackPairs, List.mem_filterMap, Option.map_eq_some_iff, AckPair.mk.injEq]
  constructor
  · rintro ⟨b, -, x, hx, rfl, htoggle⟩
    exact ⟨x, hx, htoggle⟩
  · rintro ⟨x, hx, htoggle⟩
    exact ⟨a, mem_allStations a, x, hx, rfl, htoggle⟩

theorem ackPairs_sorted (s : State) : (ackPairs s).Pairwise (fun x y => x.address < y.address) := by
  refine List.pairwise_filterMap.mpr ((List.pairwise_lt_finRange 32).imp fun {a b} hab x hx y hy => ?_)
  obtain ⟨_, -, rfl⟩ := Option.map_eq_some_iff.mp hx
  obtain ⟨_, -, rfl⟩ := Option.map_eq_some_iff.mp hy
  exact hab

theorem ackPairs_isEmpty {s : State} : (ackPairs s).isEmpty = true ↔ ∀ a : Addr, s.ru.acks[a] = none := by
  rw [List.isEmpty_iff, ackPairs, List.filterMap_eq_nil_iff]
  simp [mem_allStations]

/-- The request a demanded element serves enters IN-TRANSIT (R149). -/
theorem demanded_eq {s : State} {p : PoolIx} {q : PoolEntry} (h : IsHead s .control p q) :
    modControlHead entersTransit s = putEntry p (some { q with phase := .inTransit }) s := by
  simp only [modControlHead, headEntry_of_isHead h, modEntry_of_entry h.2]
  rfl

/-- The state in which a sweep's pool has changed, and what its hand-over makes of it (R104, R107, R120, R124). -/
def sweepSent (demand : Bool) (budget : Nat) (c : Configuration) (s v : State) : State :=
  let slots := if demand then budget + 1 else budget
  { s with
    rp := v.rp
    tx := withWaiting s.tx (sweepSymbols budget (ackPairs s))
    ls := { s.ls with transit := s.ls.transit ++
      [{ plainEntry s.tx.nextId .sweep with demand := demand, slots := slots, length := budget, buffers := budget, acks := ackPairs s }] }
    ru := { s.ru with acks := tabulate (fun a => s.ru.acks[a].bind (fun x => some { x with carried := true }))
                      sweep := some { budget := budget, reserved := budget, items := 0, accepted := 0 } }
    sc := { s.sc with sweepDue := false, sweepTimer := freshSweepTimer s c }
    cu := { buffersLowRaised s.ru.cache s.cu with reserved := s.cu.reserved + slots } }

theorem sendSweep_eq {s : State} {c : Configuration} (hconfig : s.hp.config = some c) (demand : Bool) (budget : Nat) :
    sendSweep demand budget s =
      sweepSent demand budget c s (if demand then modControlHead entersTransit s else s) := by
  have hslots : budget + (if demand then 1 else 0) = if demand then budget + 1 else budget := by cases demand <;> rfl
  have hkept : (if demand then modControlHead entersTransit s else s) =
      { s with rp := (if demand then modControlHead entersTransit s else s).rp } := by
    cases demand with
    | false => rfl
    | true =>
      unfold modControlHead modEntry
      simp only [if_true]
      split
      · split <;> rfl
      · rfl
  unfold sendSweep
  rw [hslots]
  generalize (if demand then modControlHead entersTransit s else s) = v at hkept ⊢
  rw [hkept]
  dsimp only
  rw [sweepDecided_eq (c := c) (by exact hconfig)]
  exact congrArg (fun cu : CompletionUnit => { sweepSent demand budget c s v with cu := cu }) (buffersLowRaised_reserved ..)

/-! ## What is decided of a due CALL and a due sweep (R105, R122) -/

/-- A request of a kind at the control head in READY that no slot can be reserved for is passed over (R206). -/
def PassedOver (s : State) (kind : RequestKind) : Prop :=
  ∀ p q, IsHead s .control p q → q.kind = kind → q.phase = .ready → reservable s ≤ (claims s).length

theorem PassedOver.plan {s : State} {kind : RequestKind} (h : PassedOver s kind) :
    controlHeadReady s kind = none ∨ elementMayReserve s = false := by
  rw [elementMayReserve_eq_false]
  by_cases hslots : reservable s ≤ (claims s).length
  · exact .inr hslots
  · exact .inl (controlHeadReady_eq_none fun p q hhead hkind hready => hslots (h p q hhead hkind hready))

theorem callPlan_of_passedOver {s : State} (h : PassedOver s .callNow) :
    callPlan s = if s.sc.callDue then some false else none := by
  rcases h.plan with hplan | hplan <;> simp [callPlan, hplan]

theorem sweepPlan_of_passedOver {s : State} (h : PassedOver s .sweepNow) :
    sweepPlan s = if s.sc.sweepDue then timerSweepPlan s else none := by
  rcases h.plan with hplan | hplan <;> simp [sweepPlan, hplan]

theorem sweepBudgetOf_eq {s : State} {c : Configuration} (hconfig : s.hp.config = some c) (slots : Nat) :
    sweepBudgetOf s slots = min c.sweepBudget (min s.ru.cache.length slots) := by
  rw [sweepBudgetOf, configured_of_some hconfig]

/-- A sweep that is decided is handed over where no CALL is. -/
theorem exec_dueSweep_of_send {s : State} {c : Configuration} (hmay : MayHandOver s c) (hcall : callPlan s = none)
    {demand : Bool} {budget : Nat} (hplan : sweepPlan s = some (.send demand budget)) :
    exec .dueSweep s = .next (sweepSent demand budget c s (if demand then modControlHead entersTransit s else s)) := by
  simp only [exec, execDueSweep, hplan, answer, opportunity_of_mayHandOver hmay, hcall, Option.isNone_none, Bool.and_self, if_true,
    sendSweep_eq hmay.2.1]

end Sys2Proof.Machine

section

set_option Elab.async false

open Sys2Proof.Machine

/-- Settles O56: the plans of a due CALL and a due sweep, case by case, and what each hand-over leaves. -/
theorem callsAndSweepsHandedOver : Obligations.CallsAndSweepsHandedOver := by
  unfold Obligations.CallsAndSweepsHandedOver
  intro s c hmay
  have hconfig := hmay.2.1
  have hopp := opportunity_of_mayHandOver hmay
  have hdecided : (if s.ru.cache = [] then afterRaise buffersLowRaise s.cu else s.cu) = buffersLowRaised s.ru.cache s.cu := rfl
  refine ⟨fun p q hhead hkind hready hslots => ?demanded, fun hpassed => ⟨fun hdue => ?call, fun hdue => ?noCall⟩,
    fun demand budget hcall hcase => ?sweep, fun hcall hdue hcallNow hsweepNow hacks hbudget => ?skipped,
    fun hcall hdue hcallNow hsweepNow hslots hbudget hcache hreservable => ?waits, fun hdue hsweepNow => ?noSweep⟩
  case demanded =>
    have hplan : callPlan s = some true := by
      rw [callPlan, controlHeadReady_of_isHead hhead hkind hready, if_pos Option.isSome_some,
        if_pos ((elementMayReserve_iff s).mpr (Nat.lt_of_not_le hslots))]
    have hexec : exec .dueCall s = .next (sendCall true s) := by
      simp only [exec, execDueCall, hplan, answer, hopp, if_true]
    have hsent : sendCall true s = handOver { bareEntry .call with demand := true, slots := 1 } callSymbols
        (restartCallTimer (reserveSlots 1 (putEntry p (some { q with phase := .inTransit }) s))) := by
      simp only [sendCall, if_true, demanded_eq hhead]
    rw [hsent, restartCallTimer, configured_of_some (by exact hconfig)] at hexec
    exact ⟨_, hexec, entry_putEntry_same p _ s, poolKeptBut_putEntry p _ s, rfl⟩
  case call =>
    have hplan : callPlan s = some false := by rw [callPlan_of_passedOver hpassed, hdue, if_pos rfl]
    have hexec : exec .dueCall s = .next (sendCall false s) := by
      simp only [exec, execDueCall, hplan, answer, hopp, if_true]
    rw [hexec, sendCall, restartCallTimer, configured_of_some (by exact hconfig)]
    rfl
  case noCall =>
    have hplan : callPlan s = none := by simp [callPlan_of_passedOver hpassed, hdue]
    simp only [exec, execDueCall, hplan]
  case sweep =>
    have hplans : callPlan s = none ∧ sweepPlan s = some (.send demand budget) := by
      rcases hcase with ⟨rfl, ⟨p, q, hhead, hkind, hready⟩, hslots, rfl⟩ | ⟨rfl, hdue, hcallNow, hsweepNow, rfl, hbudget⟩
      · refine ⟨callPlan_eq_none (.inl (controlHeadReady_of_other hhead (by rw [hkind]; decide))) hcall, ?_⟩
        have hreserve := (elementMayReserve_iff s).mpr (Nat.lt_of_not_le hslots)
        simp [sweepPlan, controlHeadReady_of_isHead hhead hkind hready, hreserve, sweepBudgetOf_eq hconfig]
      · refine ⟨by simp [callPlan_of_passedOver hcallNow, hcall], ?_⟩
        rw [sweepPlan_of_passedOver hsweepNow, hdue, if_pos rfl, timerSweepPlan, sweepBudgetOf_eq hconfig]
        rcases hbudget with ⟨hpositive, hslots⟩ | ⟨hzero, a, ha⟩
        · rw [if_neg (by omega), if_pos ((elementMayReserve_iff s).mpr (Nat.lt_of_not_le hslots))]
        · have hsome : ¬(ackPairs s).isEmpty = true := fun h => ha (ackPairs_isEmpty.mp h a)
          rw [if_pos hzero, if_neg hsome, hzero]
    obtain ⟨hcallPlan, hplan⟩ := hplans
    refine ⟨_, ackPairs s, exec_dueSweep_of_send hmay hcallPlan hplan, fun a toggle => mem_ackPairs, ackPairs_sorted s, rfl, rfl, rfl,
      fun a => ?_, rfl, rfl, rfl, rfl, fun hdemand => by rw [hdemand]; rfl, fun p q hhead => ?_⟩
    · exact (getElem_tabulate _ a).trans (by cases s.ru.acks[a] <;> rfl)
    · cases demand with
      | false => exact ⟨⟨fun _ => rfl, fun _ _ => rfl⟩, hhead.2⟩
      | true =>
        simp only [if_true, demanded_eq hhead]
        exact ⟨poolKeptBut_putEntry p _ s, entry_putEntry_same p _ s⟩
  case skipped =>
    have hzero : min c.sweepBudget (min s.ru.cache.length (reservable s)) = 0 := by
      rcases hbudget with h | h | h <;> simp [h]
    have hplan : sweepPlan s = some .skip := by
      rw [sweepPlan_of_passedOver hsweepNow, hdue, if_pos rfl, timerSweepPlan, sweepBudgetOf_eq hconfig, if_pos hzero,
        if_pos (ackPairs_isEmpty.mpr hacks)]
    have hcallPlan : callPlan s = none := by simp [callPlan_of_passedOver hcallNow, hcall]
    simp only [exec, execDueSweep, hplan, answer, hopp, hcallPlan, Option.isNone_none, Bool.and_self, if_true,
      sweepDecided_eq hconfig, hdecided]
  case waits =>
    have hpositive : min c.sweepBudget (min s.ru.cache.length (reservable s)) ≠ 0 := by
      have := List.length_pos_of_ne_nil hcache
      omega
    have hplan : sweepPlan s = none := by
      rw [sweepPlan_of_passedOver hsweepNow, hdue, if_pos rfl, timerSweepPlan, sweepBudgetOf_eq hconfig]
      simp [hpositive, (elementMayReserve_eq_false s).mpr hslots]
    simp only [exec, execDueSweep, hplan]
  case noSweep =>
    have hplan : sweepPlan s = none := by simp [sweepPlan_of_passedOver hsweepNow, hdue]
    simp only [exec, execDueSweep, hplan]

end

/-! ## The snapshot (R71; spec 10, section 10.7) -/

namespace Sys2Proof.Machine

set_option Elab.async false

/-- A list of records of one length, read at an octet of one of them. -/
theorem getElem?_flatMap_of_length {α β : Type} {f : α → List β} {n : Nat} (hf : ∀ a, (f a).length = n) (xs : List α) (i j : Nat)
    (hj : j < n) : (xs.flatMap f)[n * i + j]? = xs[i]?.bind (fun a => (f a)[j]?) := by
  induction xs generalizing i with
  | nil => simp
  | cons x rest ih =>
    rw [List.flatMap_cons]
    cases i with
    | zero => rw [List.getElem?_append_left (by rw [hf]; omega)]; simp
    | succ i =>
      rw [List.getElem?_append_right (by rw [hf, Nat.mul_succ]; omega), hf, Nat.mul_succ,
        show n * i + n + j - n = n * i + j by omega, ih]
      rfl

theorem length_flatMap_of_length {α β : Type} {f : α → List β} {n : Nat} (hf : ∀ a, (f a).length = n) (xs : List α) :
    (xs.flatMap f).length = n * xs.length := by
  induction xs with
  | nil => rfl
  | cons x rest ih => rw [List.flatMap_cons, List.length_append, hf, ih, List.length_cons, Nat.mul_succ, Nat.add_comm]

/-- The 8 octets ahead of the station summaries. -/
def snapshotHeader (s : State) : List Octet :=
  [octetOf s.ls.state.code, octetOf s.st.loopMap.length, octetOf s.hp.engine.code, 0, octetOf s.ls.rawDelay,
    octetOf (s.ls.rawDelay / 256), 0, 0]

/-- The summary of a station as it stands (R71). -/
def summaryOf (s : State) (a : Addr) : List Octet := stationSummary (station s a) (listOf s (.station a)).length

theorem length_summaryOf (s : State) (a : Addr) : (summaryOf s a).length = 8 := rfl

theorem snapshotOf_eq (s : State) :
    snapshotOf s = snapshotHeader s ++ (allStations.flatMap (summaryOf s) ++ mapOctets s.st.loopMap) := by
  rw [← List.append_assoc]
  rfl

theorem length_summaries (s : State) : (allStations.flatMap (summaryOf s)).length = 256 := by
  rw [length_flatMap_of_length (length_summaryOf s), allStations, List.length_finRange]

theorem length_mapOctets (m : List Addr) : (mapOctets m).length = 32 := by
  rw [mapOctets, List.length_take, List.length_append, List.length_replicate]
  omega

/-- The summary of each station stands at its place (R71). -/
theorem snapshotOf_summary (s : State) (a : Addr) {j : Nat} (hj : j < 8) :
    (snapshotOf s)[0x08 + 8 * a.val + j]? = (summaryOf s a)[j]? := by
  have ha := a.isLt
  have hplace : allStations[a.val]? = some a := by simp [allStations]
  rw [snapshotOf_eq, List.getElem?_append_right (by simp [snapshotHeader]; omega),
    show 0x08 + 8 * a.val + j - (snapshotHeader s).length = 8 * a.val + j by simp [snapshotHeader]; omega,
    List.getElem?_append_left (by rw [length_summaries]; omega), getElem?_flatMap_of_length (length_summaryOf s) _ _ _ hj, hplace]
  rfl

/-- The loop map stands behind the summaries (R71). -/
theorem snapshotOf_map (s : State) {i : Nat} (hi : i < 32) :
    (snapshotOf s)[0x108 + i]? = some (match s.st.loopMap[i]? with | some a => stationOctet a | none => 0) := by
  rw [snapshotOf_eq, List.getElem?_append_right (by simp [snapshotHeader]; omega),
    show 0x108 + i - (snapshotHeader s).length = 256 + i by simp [snapshotHeader]; omega,
    List.getElem?_append_right (by rw [length_summaries]; omega), length_summaries, Nat.add_sub_cancel_left, mapOctets,
    List.getElem?_take, if_pos hi]
  by_cases hm : i < s.st.loopMap.length
  · rw [List.getElem?_append_left (by simpa using hm), List.getElem?_map, List.getElem?_eq_getElem hm]
    rfl
  · rw [List.getElem?_append_right (by simpa using hm), List.getElem?_eq_none (Nat.le_of_not_lt hm), List.getElem?_replicate,
      if_pos (by simp; omega)]

theorem engine_code_eq (e : EngineState) : e.code = engineNumber e := by cases e <;> rfl

theorem toggle_octet_eq (t : Toggle) : toggleOctet t = toggleNumber (some t) := by cases t <;> rfl

end Sys2Proof.Machine

/-! ## QUERY (R71, R130, R132) -/

section

set_option Elab.async false

open Sys2Proof.Machine

/-- Settles O37: the take-up by the capacity, the snapshot field by field, and the end of its write through the reserved slot. -/
theorem queryTakesASnapshot : Obligations.QueryTakesASnapshot := by
  unfold Obligations.QueryTakesASnapshot
  refine ⟨fun s p e hrunning hhead hkind htaken hslot => ?takeUp, fun s => ?layout, fun s p e c status hbus he hkind hc => ?ends⟩
  case takeUp =>
    have hlist : listFor e.kind e.address = .control := by rw [hkind]; rfl
    have hserved := (claimServed_control (s := s) ⟨p, e, hhead, .inl ⟨hkind, htaken⟩⟩).mpr hslot
    have hexec : exec .query s = .next (settleBus s.hp.queue.length (queryTakenUp p e s)) := by
      simp only [exec, execQuery, headEntry_of_isHead hhead, hkind, htaken, (mayClaim_iff hrunning _).mpr hserved, beq_self_eq_true,
        Bool.not_false, Bool.and_self, answerWithBus, if_true]
    refine ⟨fun hshort => ⟨_, hexec.trans (by rw [queryTakenUp, if_pos (by exact hshort)]), ?_, ?_, ?_, ?_⟩, fun hroom => ?_⟩
    · have hresolves := finishRequest_settled (s := s) hhead.2 rfl rfl rfl ⟨fun _ => rfl, fun _ _ => rfl⟩ rfl rfl rfl rfl
        ⟨rfl, rfl⟩ (.refl s) (le_refl s.hp.queue.length) .shortBuffer snapshotSize 0 .claimNow
      rwa [doneRecord_eq_controlRecord hlist (by rw [hkind]; decide)] at hresolves
    · rw [settleBus_cu, reserved_finishRequest hhead.2]
    · rw [settleBus_ls, finishRequest_ls]
    · rw [settleBus_st, st_finishRequest_of_control hhead.2 hlist]
    · have htaken : queryTakenUp p e s = requestAccess (writeAccess (.snapshot p) e.responseAddress (snapshotOf s))
          (reserveSlots 1 (putEntry p (some { e with takenUp := true }) s)) := if_neg (Nat.not_lt.mpr hroom)
      rw [htaken] at hexec
      have hlength : (snapshotOf s).length = 296 := by
        rw [snapshotOf_eq, List.length_append, List.length_append, length_summaries, length_mapOctets]
        rfl
      obtain ⟨bus, queue, hsettled, hacc⟩ := settleBus_eq (n := s.hp.queue.length)
        (s := requestAccess (writeAccess (.snapshot p) e.responseAddress (snapshotOf s))
          (reserveSlots 1 (putEntry p (some { e with takenUp := true }) s))) (by simp [requestAccess])
      rw [hsettled] at hexec
      refine ⟨_, hexec, rfl, entry_putEntry_same p _ s, poolKeptBut_putEntry p _ s, hacc.trans ?_⟩
      rw [accesses_requestAccess, writeAccess, hlength]
      rfl
  case layout =>
    refine ⟨?_, ?_, rfl, ?_, rfl, fun hdelay => half_of_octets (by omega), rfl, rfl, fun a => ?_, fun i hi => ?_⟩
    · rw [snapshotOf_eq, List.length_append, List.length_append, length_summaries, length_mapOctets]
      rfl
    · rw [← loopState_code_eq]
      rfl
    · rw [← engine_code_eq]
      rfl
    · have hat (j : Nat) (hj : j < 8) := snapshotOf_summary s a hj
      dsimp only
      refine ⟨(hat 0 (by decide)).trans ?_, (hat 1 (by decide)).trans ?_, (hat 2 (by decide)).trans ?_, (hat 3 (by decide)).trans ?_,
        hat 4 (by decide), hat 5 (by decide), hat 6 (by decide), hat 7 (by decide)⟩
      · rw [← stationState_code_eq]
        rfl
      · rfl
      · rw [← toggle_octet_eq]
        rfl
      · simp only [summaryOf, stationSummary]
        cases (station s a).reportToggle with
        | none => rfl
        | some t => rw [← toggle_octet_eq]; rfl
    · rw [snapshotOf_map s hi]
      rfl
  case ends =>
    have hlist : listFor e.kind e.address = .control := by rw [hkind]; rfl
    have hfree : entry (freeBus s) p = some e := he
    have hexec : exec c s = .next (settleBus s.hp.queue.length (finishRequest p status snapshotSize 0 .useReserved (freeBus s))) := by
      rcases hc with ⟨rfl, rfl⟩ | ⟨rfl, rfl⟩
      · exact accessEnds_of_onBus hbus rfl (forEntry (fun p => finishRequest p .ok snapshotSize 0 .useReserved))
      · exact exec_faultCommand_of_onBus hbus
    have hresolves := finishRequest_settled (s := s) hfree rfl rfl rfl ⟨fun _ => rfl, fun _ _ => rfl⟩ rfl rfl rfl rfl ⟨rfl, rfl⟩
      (.refl s) (le_refl s.hp.queue.length) status snapshotSize 0 .useReserved
    rw [doneRecord_eq_controlRecord hlist (by rw [hkind]; decide)] at hresolves
    refine ⟨_, hexec, hresolves, ?_, ?_, ?_⟩
    · rw [settleBus_cu, reserved_finishRequest hfree]; rfl
    · rw [settleBus_ls, finishRequest_ls]; rfl
    · rw [settleBus_st, st_finishRequest_of_control hfree hlist]; rfl

end

/-! ## The end of any step, with the requests it made in a free order (R195) -/

namespace Sys2Proof.Machine

set_option Elab.async false

/-- The end of a step moves accesses in the sequencer, and changes nothing else but the count of the free choices. -/
theorem settleBus_moves (n : Nat) (s : State) :
    ∃ bus queue k, settleBus n s = { withSequencer bus queue s with choices := k } ∧
      ∃ made : List Access, made.Perm (s.hp.queue.drop n) ∧
        accesses (settleBus n s) = (s.hp.bus.map (fun b => b.access)).toList ++ s.hp.queue.take n ++ made := by
  refine ⟨(settleBus n s).hp.bus, (settleBus n s).hp.queue, (joinRequests n s).choices, ?_,
    freeOrder (s.hp.queue.drop n).length s.choices (s.hp.queue.drop n), freeOrder_perm .., ?_⟩
  · rw [settleBus, beginAccess_eq (joinRequests n s)]
    rfl
  · rw [settleBus, accesses_beginAccess, List.append_assoc]
    rfl

theorem mem_accesses_settled {n : Nat} {s : State} {x : Access} : x ∈ accesses (settleBus n s) ↔ x ∈ accesses s := by
  refine ⟨mem_accesses_settleBus, fun h => ?_⟩
  obtain ⟨bus, queue, k, -, made, hmade, hacc⟩ := settleBus_moves n s
  rw [hacc]
  rw [accesses, ← List.take_append_drop n s.hp.queue] at h
  simp only [List.mem_append, hmade.mem_iff] at h ⊢
  tauto

end Sys2Proof.Machine

/-! ## Reports that complete (R111 to R113) -/

namespace Sys2Proof.Machine

set_option Elab.async false

/-- What the completions of reports leave alone: everything but the holding queue, the SWEEP-NOW that waited and its list. -/
def ReportsOnly (s t : State) : Prop :=
  t.st = s.st ∧ t.ls = s.ls ∧ t.ri = s.ri ∧ HostKept s t ∧ LineKept s t ∧ OutsideKept s t ∧
  t.ru = { s.ru with decision := t.ru.decision } ∧ t.choices = s.choices

theorem ReportsOnly.trans {s t u : State} (h : ReportsOnly s t) (h' : ReportsOnly t u) : ReportsOnly s u := by
  obtain ⟨hst, hls, hri, hhost, ⟨htx, hrx⟩, hout, hru, hk⟩ := h
  obtain ⟨hst', hls', hri', hhost', ⟨htx', hrx'⟩, hout', hru', hk'⟩ := h'
  refine ⟨hst'.trans hst, hls'.trans hls, hri'.trans hri, hhost.trans hhost', ⟨htx'.trans htx, hrx'.trans hrx⟩, hout.trans hout', ?_,
    hk'.trans hk⟩
  rw [hru', hru]

theorem hostKept_finishRequest (p : PoolIx) (status : Status) (length count : Nat) (use : SlotUse) (s : State) :
    HostKept s (finishRequest p status length count use s) := by
  cases h : entry s p with
  | none =>
    rw [finishRequest_of_none h]
    rfl
  | some e =>
    obtain ⟨-, -, -, -, -, -, hhost, -⟩ := finishRequest_resolves h status length count use
    exact hhost

/-- The end of a request of the control list (R113, R144). -/
theorem reportsOnly_finishRequest {s : State} {p : PoolIx} {e : PoolEntry} (he : entry s p = some e)
    (hlist : listFor e.kind e.address = .control) (status : Status) (length count : Nat) (use : SlotUse) :
    ReportsOnly s (finishRequest p status length count use s) := by
  obtain ⟨-, -, -, -, -, -, hhost, -, -, hri, hru, hline, hout⟩ := finishRequest_resolves he status length count use
  exact ⟨st_finishRequest_of_control he hlist .., finishRequest_ls .., hri, hhost, hline, hout, by rw [hru], finishRequest_choices ..⟩

/-- The end of a request of the control list leaves the scheduler alone. -/
theorem sc_finishRequest_of_control {s : State} {p : PoolIx} {e : PoolEntry} (he : entry s p = some e)
    (hlist : listFor e.kind e.address = .control) (status : Status) (length count : Nat) (use : SlotUse) :
    (finishRequest p status length count use s).sc = s.sc := by
  have hbecomes (u : State) : (becomeHead .control u).sc = u.sc := by
    unfold becomeHead
    split
    · rfl
    · simp only [armHeadTimer]
      split <;> simp
  simp only [finishRequest, he, hlist, hbecomes]
  rfl

theorem finishSweepNow_of_isHead {s : State} {p : PoolIx} {e : PoolEntry} (h : IsHead s .control p e) (hkind : e.kind = .sweepNow)
    (status : Status) (count : Nat) : finishSweepNow status count s = finishRequest p status 0 count .useReserved s := by
  simp only [finishSweepNow, headEntry_of_isHead h, hkind, if_true]

theorem reportsOnly_finishSweepNow (status : Status) (count : Nat) (s : State) : ReportsOnly s (finishSweepNow status count s) := by
  unfold finishSweepNow
  split
  · rename_i p e hhead
    split
    · rename_i hkind
      exact reportsOnly_finishRequest (headEntry_some hhead).2 (by rw [hkind]; rfl) ..
    · exact ⟨rfl, rfl, rfl, rfl, ⟨rfl, rfl⟩, .refl s, rfl, rfl⟩
  · exact ⟨rfl, rfl, rfl, rfl, ⟨rfl, rfl⟩, .refl s, rfl, rfl⟩

theorem ru_finishSweepNow (status : Status) (count : Nat) (s : State) : (finishSweepNow status count s).ru = s.ru := by
  unfold finishSweepNow
  split
  · split
    · exact finishRequest_ru ..
    · rfl
  · rfl

/-- Records of reports have entered, each through a reserved slot, and the decision that waits is as given (R111, R113). -/
def reportsEntered (records : List CompletionRecord) (decision : Option SweepDecision) (s : State) : State :=
  { s with cu := { s.cu with queue := s.cu.queue ++ records, reserved := s.cu.reserved - records.length }
           ru := { s.ru with decision := decision } }

theorem reportsOnly_reportsEntered (records : List CompletionRecord) (decision : Option SweepDecision) (s : State) :
    ReportsOnly s (reportsEntered records decision s) := ⟨rfl, rfl, rfl, rfl, ⟨rfl, rfl⟩, .refl s, rfl, rfl⟩

theorem reportsEntered_append (records more : List CompletionRecord) (d d' : Option SweepDecision) (s : State) :
    reportsEntered more d' (reportsEntered records d s) = reportsEntered (records ++ more) d' s := by
  simp only [reportsEntered, List.append_assoc, List.length_append, Nat.sub_sub]

/-- A report's record enters; a SWEEP-NOW that waited for it alone follows (R113). -/
theorem enterReport_eq (r : PendingReport) (status : Status) (s : State) :
    enterReport r status s =
      match s.ru.decision with
      | none => reportsEntered [reportDone s r status] none s
      | some d =>
        if d.after ≤ 1 then finishSweepNow d.status d.count (reportsEntered [reportDone s r status] none s)
        else reportsEntered [reportDone s r status] (some { d with after := d.after - 1 }) s := by
  have hrecord : reportRecord s r status = reportDone s r status := rfl
  unfold enterReport
  cases h : s.ru.decision with
  | none =>
    simp only [enterRecord, h, hrecord, reportsEntered]
    rw [← h]
    rfl
  | some d =>
    simp only [enterRecord, h, hrecord]
    rfl

theorem reportsOnly_enterReport (r : PendingReport) (status : Status) (s : State) : ReportsOnly s (enterReport r status s) := by
  rw [enterReport_eq]
  split
  · exact reportsOnly_reportsEntered ..
  · split
    · exact (reportsOnly_reportsEntered ..).trans (reportsOnly_finishSweepNow ..)
    · exact reportsOnly_reportsEntered ..

/-- Reports that complete one behind the other, each with its status (R111). -/
def enterReports (xs : List (PendingReport × Status)) (s : State) : State := xs.foldl (fun u x => enterReport x.1 x.2 u) s

theorem enterReports_cons (x : PendingReport × Status) (xs : List (PendingReport × Status)) (s : State) :
    enterReports (x :: xs) s = enterReports xs (enterReport x.1 x.2 s) := rfl

theorem enterReports_append (xs ys : List (PendingReport × Status)) (s : State) :
    enterReports (xs ++ ys) s = enterReports ys (enterReports xs s) := List.foldl_append

theorem reportsOnly_enterReports (xs : List (PendingReport × Status)) (s : State) : ReportsOnly s (enterReports xs s) := by
  induction xs generalizing s with
  | nil => exact ⟨rfl, rfl, rfl, rfl, ⟨rfl, rfl⟩, .refl s, rfl, rfl⟩
  | cons x rest ih => exact (reportsOnly_enterReport ..).trans (ih _)

/-- The records of completed reports, with the station states of `s` (R113). -/
def recordsOf (s : State) (xs : List (PendingReport × Status)) : List CompletionRecord := xs.map (fun x => reportDone s x.1 x.2)

theorem recordsOf_congr {s t : State} (h : t.st = s.st) (xs : List (PendingReport × Status)) : recordsOf t xs = recordsOf s xs := by
  simp only [recordsOf, reportDone, station_congr h]

theorem length_recordsOf (s : State) (xs : List (PendingReport × Status)) : (recordsOf s xs).length = xs.length := List.length_map ..

/-- With no SWEEP-NOW waiting the records enter one behind the other (R113). -/
theorem enterReports_of_none {s : State} (h : s.ru.decision = none) (xs : List (PendingReport × Status)) :
    enterReports xs s = reportsEntered (recordsOf s xs) none s := by
  induction xs generalizing s with
  | nil =>
    simp only [recordsOf, List.map_nil, reportsEntered, List.append_nil, List.length_nil, Nat.sub_zero]
    rw [← h]
    rfl
  | cons x rest ih =>
    have hfirst : enterReport x.1 x.2 s = reportsEntered [reportDone s x.1 x.2] none s := by rw [enterReport_eq, h]
    rw [enterReports_cons, hfirst, ih (by rfl), recordsOf_congr (by rfl), reportsEntered_append]
    rfl

/-- A SWEEP-NOW that waits for more records than these waits on (R113). -/
theorem enterReports_of_later {s : State} {d : SweepDecision} (h : s.ru.decision = some d) (xs : List (PendingReport × Status))
    (hlater : xs.length < d.after) :
    enterReports xs s = reportsEntered (recordsOf s xs) (some { d with after := d.after - xs.length }) s := by
  induction xs generalizing s d with
  | nil =>
    simp only [recordsOf, List.map_nil, reportsEntered, List.append_nil, List.length_nil, Nat.sub_zero]
    rw [← h]
    rfl
  | cons x rest ih =>
    rw [List.length_cons] at hlater
    have hfirst : enterReport x.1 x.2 s = reportsEntered [reportDone s x.1 x.2] (some { d with after := d.after - 1 }) s := by
      rw [enterReport_eq, h]
      exact if_neg (by omega)
    rw [enterReports_cons, hfirst, ih (by rfl) (by dsimp only; omega), recordsOf_congr (by rfl), reportsEntered_append,
      List.length_cons, show d.after - 1 - rest.length = d.after - (rest.length + 1) by omega]
    rfl

/-- A SWEEP-NOW that waits for no more records than these completes right behind its own (R113, R205). -/
theorem enterReports_of_decided {s : State} {d : SweepDecision} (h : s.ru.decision = some d) (xs : List (PendingReport × Status))
    (hpositive : 1 ≤ d.after) (hdecided : d.after ≤ xs.length) :
    enterReports xs s = reportsEntered ((recordsOf s xs).drop d.after) none
      (finishSweepNow d.status d.count (reportsEntered ((recordsOf s xs).take d.after) none s)) := by
  obtain ⟨k, hk⟩ : ∃ k, d.after = k + 1 := ⟨d.after - 1, by omega⟩
  have hlt : k < xs.length := by omega
  have hsplit : xs = xs.take k ++ (xs[k] :: xs.drop (k + 1)) := by
    rw [← List.drop_eq_getElem_cons hlt, List.take_append_drop]
  have hahead := enterReports_of_later h (xs.take k) (by simp; omega)
  have htake : (recordsOf s xs).take d.after = recordsOf s (xs.take k) ++ [reportDone s xs[k].1 xs[k].2] := by
    rw [recordsOf, recordsOf, ← List.map_take, hk, List.take_succ_eq_append_getElem hlt, List.map_append]
    rfl
  have hlast (u : State) (hu : u = reportsEntered (recordsOf s (xs.take k)) (some { d with after := d.after - (xs.take k).length }) s) :
      enterReport xs[k].1 xs[k].2 u =
        finishSweepNow d.status d.count (reportsEntered ((recordsOf s xs).take d.after) none s) := by
    have hone : d.after - (xs.take k).length ≤ 1 := by rw [List.length_take]; omega
    rw [enterReport_eq, hu, htake]
    simp only [reportsEntered_append]
    exact if_pos hone
  have hst : (finishSweepNow d.status d.count (reportsEntered ((recordsOf s xs).take d.after) none s)).st = s.st :=
    (reportsOnly_finishSweepNow ..).1
  have hnone : (finishSweepNow d.status d.count (reportsEntered ((recordsOf s xs).take d.after) none s)).ru.decision = none := by
    rw [ru_finishSweepNow]
    rfl
  conv_lhs => rw [hsplit]
  rw [enterReports_append, hahead, enterReports_cons, hlast _ rfl, enterReports_of_none hnone, recordsOf_congr hst, hk, recordsOf,
    recordsOf, List.map_drop]

/-! ## The reports that are still to be written (R111, R112) -/

/-- A report with no octet to write (R111). -/
theorem reportOctets_isEmpty (r : PendingReport) : (reportOctets r).isEmpty = true ↔ nothingToWrite r := by
  simp [reportOctets, nothingToWrite, or_comm]

theorem successStatus_eq (r : PendingReport) : successStatus r.payload.length r.descriptor.capacity = fitStatus r := rfl

/-- The status a pending report completes with where its write is not made (R111, R112). -/
def statusUnwritten (engine : EngineState) (r : PendingReport) : Status :=
  if engine = .faulted then faultedStatus r else fitStatus r

theorem faultedStatus_of_nothing {r : PendingReport} (h : nothingToWrite r) : faultedStatus r = fitStatus r :=
  if_pos (h.imp_left fun hnil => by rw [hnil]; rfl)

theorem faultedStatus_of_something {r : PendingReport} (h : ¬nothingToWrite r) : faultedStatus r = .hostFault :=
  if_neg fun h' => h (h'.imp_left List.eq_nil_of_length_eq_zero)

/-- The reports that are left wait for the write of the oldest of them (R111). -/
def reportsWait (later : List PendingReport) (s : State) : State :=
  { s with hp := { s.hp with queue := s.hp.queue ++ (later.take 1).map reportWrite }
           ru := { s.ru with reports := later, writing := !later.isEmpty } }

theorem writeAccess_report (r : PendingReport) : writeAccess .report r.descriptor.address (reportOctets r) = reportWrite r := by
  simp [writeAccess, reportWrite, reportOctets]

/-- The pending reports go on: those that need no write complete, and the write of the first that needs one is asked for (R111,
R112). -/
theorem pumpReports_eq {s : State} {now later : List PendingReport}
    (h : s.hp.engine ≠ .faulted ∧ (∀ x ∈ now, nothingToWrite x) ∧ (∀ x more, later = x :: more → ¬nothingToWrite x) ∨
      s.hp.engine = .faulted ∧ later = []) :
    pumpReports (now ++ later) s =
      reportsWait later (enterReports (now.map (fun x => (x, statusUnwritten s.hp.engine x))) s) := by
  induction now generalizing s with
  | nil =>
    cases later with
    | nil =>
      simp only [pumpReports, List.map_nil, enterReports, List.foldl_nil, reportsWait, List.take_nil, List.append_nil]
      rfl
    | cons x more =>
      rcases h with ⟨hengine, -, hlater⟩ | ⟨-, hnil⟩
      · have hwrites : ¬(reportOctets x).isEmpty = true := fun hx => hlater x more rfl ((reportOctets_isEmpty x).mp hx)
        rw [List.nil_append, pumpReports, if_neg hwrites, if_neg hengine, writeAccess_report]
        rfl
      · cases hnil
  | cons x rest ih =>
    have hengine (status : Status) : (enterReport x status s).hp.engine = s.hp.engine := by
      obtain ⟨-, -, -, hhost, -⟩ := reportsOnly_enterReport x status s
      exact hhost.engine_eq
    have hrest (status : Status) := ih (s := enterReport x status s)
      (by rw [hengine]; exact h.imp_left fun h => ⟨h.1, fun y hy => h.2.1 y (List.mem_cons_of_mem x hy), h.2.2⟩)
    simp only [hengine] at hrest
    have hfirst : pumpReports (x :: rest ++ later) s =
        pumpReports (rest ++ later) (enterReport x (statusUnwritten s.hp.engine x) s) := by
      rw [List.cons_append, pumpReports, successStatus_eq]
      by_cases hnothing : nothingToWrite x
      · rw [if_pos ((reportOctets_isEmpty x).mpr hnothing), statusUnwritten, faultedStatus_of_nothing hnothing, ite_self]
      · have hfaulted : s.hp.engine = .faulted := by
          rcases h with ⟨-, hnow, -⟩ | ⟨hfaulted, -⟩
          · exact absurd (hnow x List.mem_cons_self) hnothing
          · exact hfaulted
        rw [if_neg fun hx => hnothing ((reportOctets_isEmpty x).mp hx), if_pos hfaulted, statusUnwritten, if_pos hfaulted,
          faultedStatus_of_something hnothing]
    rw [hfirst, hrest, List.map_cons, enterReports_cons]

/-- The write of the oldest report has ended: it completes, and those behind it go on (R111, R112). -/
theorem exec_reportWriteEnds {s : State} {r : PendingReport} {now later : List PendingReport} (hbus : OnBus s .report)
    (hreports : s.ru.reports = r :: (now ++ later))
    (h : s.hp.engine ≠ .faulted ∧ (∀ x ∈ now, nothingToWrite x) ∧ (∀ x more, later = x :: more → ¬nothingToWrite x) ∨
      s.hp.engine = .faulted ∧ later = [])
    {c : Instr} {status : Status}
    (hc : c = .reportWriteComplete ∧ status = fitStatus r ∨ c = .reportWriteFault ∧ status = .hostFault) :
    exec c s = .next (settleBus s.hp.queue.length (reportsWait later
      (enterReports ((r, status) :: now.map (fun x => (x, statusUnwritten s.hp.engine x))) (freeBus s)))) := by
  have hengine : (enterReport r status (freeBus s)).hp.engine = s.hp.engine := by
    obtain ⟨-, -, -, hhost, -⟩ := reportsOnly_enterReport r status (freeBus s)
    exact hhost.engine_eq
  have hpump := pumpReports_eq (s := enterReport r status (freeBus s)) (now := now) (later := later) (by rwa [hengine])
  rw [hengine] at hpump
  rw [enterReports_cons, ← hpump]
  rcases hc with ⟨rfl, rfl⟩ | ⟨rfl, rfl⟩
  · refine (accessEnds_of_onBus hbus rfl (fun _ => reportWritten false)).trans ?_
    simp only [reportWritten, show (freeBus s).ru.reports = r :: (now ++ later) from hreports]
    rfl
  · refine (exec_faultCommand_of_onBus hbus).trans ?_
    simp only [accessFaulted, reportWritten, show (freeBus s).ru.reports = r :: (now ++ later) from hreports]
    rfl

end Sys2Proof.Machine

section

set_option Elab.async false

open Sys2Proof.Machine

/-- Settles O36: the records enter one behind the other (`enterReports`), and a SWEEP-NOW that waited for one of them right behind
it. -/
theorem reportWriteEnds : Obligations.ReportWriteEnds := by
  unfold Obligations.ReportWriteEnds
  intro s r now later hbus hreports h c status hc
  have hexec := exec_reportWriteEnds hbus hreports h hc
  have hrecords : reportDone s r status ::
      now.map (fun x => reportDone s x (if s.hp.engine = .faulted then faultedStatus x else fitStatus x)) =
      recordsOf (freeBus s) ((r, status) :: now.map (fun x => (x, statusUnwritten s.hp.engine x))) := by
    simp only [recordsOf, List.map_cons, List.map_map]
    rfl
  dsimp only
  rw [hrecords]
  generalize (r, status) :: now.map (fun x => (x, statusUnwritten s.hp.engine x)) = xs at hexec ⊢
  obtain ⟨hst, hls, hri, hhost, ⟨htx, hrx⟩, hout, hru, -⟩ := reportsOnly_enterReports xs (freeBus s)
  have hsettled {v : State} (hv : enterReports xs (freeBus s) = v) (hqueue : v.hp.queue = s.hp.queue) :
      ∃ bus queue, settleBus s.hp.queue.length (reportsWait later (enterReports xs (freeBus s))) =
          withSequencer bus queue (reportsWait later v) ∧
        accesses (withSequencer bus queue (reportsWait later v)) = accesses (reportsWait later v) := by
    rw [hv]
    refine settleBus_eq ?_
    simp only [reportsWait, hqueue, List.length_append, List.length_map, List.length_take]
    omega
  refine ⟨_, hexec, ?_, ?_, ?_, ?_, ?_, ?_, ?_, ?_, ?_, fun x hx => ?_, fun hdecision => ?none, fun d hdecision hd => ?later,
    fun d p e hdecision hpositive hd hhead hkind => ?decided⟩
  · rw [settleBus_ru]
    exact (congrArg ReportUnit.cache hru :)
  · rw [settleBus_ru]
    rfl
  · rw [settleBus_ru]
    simp [reportsWait]
  · rw [settleBus_st]
    exact hst
  · rw [settleBus_ls]
    exact hls
  · rw [settleBus_ri]
    exact hri
  · exact ((show HostKept s (freeBus s) from rfl).trans hhost).trans ((show HostKept _ (reportsWait later _) from rfl).trans
      (hostKept_settleBus ..))
  · exact ⟨(settleBus_tx ..).trans htx, (settleBus_rx ..).trans hrx⟩
  · exact hout.trans ⟨settleBus_clock .., settleBus_lineIn .., settleBus_pinsIn .., settleBus_pending ..⟩
  · exact mem_accesses_settled.mpr (List.mem_append_right _ (List.mem_append_right _ hx))
  case none =>
    obtain ⟨bus, queue, ht, hacc⟩ := hsettled (enterReports_of_none (s := freeBus s) hdecision xs) rfl
    rw [ht]
    exact ⟨rfl, hacc, rfl⟩
  case later =>
    rw [length_recordsOf] at hd ⊢
    obtain ⟨bus, queue, ht, hacc⟩ := hsettled (enterReports_of_later (s := freeBus s) hdecision xs hd) rfl
    rw [ht]
    exact ⟨hacc, rfl, by simp only [reportsEntered, length_recordsOf]; rfl⟩
  case decided =>
    rw [length_recordsOf] at hd
    have hentered := enterReports_of_decided (s := freeBus s) hdecision xs hpositive hd
    rw [finishSweepNow_of_isHead (by exact hhead) hkind] at hentered
    have hentry : entry (reportsEntered ((recordsOf (freeBus s) xs).take d.after) none (freeBus s)) p = some e := hhead.2
    have hlist : listFor e.kind e.address = .control := by rw [hkind]; rfl
    obtain ⟨hcu, hfree, hleft, hothers, -⟩ := finishRequest_resolves hentry d.status 0 d.count .useReserved
    have hreserved := reserved_finishRequest hentry d.status 0 d.count .useReserved
    rw [hlist] at hleft hothers
    rw [doneRecord_eq_controlRecord hlist (by rw [hkind]; decide)] at hcu
    have hsc := sc_finishRequest_of_control hentry hlist d.status 0 d.count .useReserved
    have hsplit : (recordsOf (freeBus s) xs).length = d.after + ((recordsOf (freeBus s) xs).drop d.after).length := by
      rw [List.length_drop, length_recordsOf]
      omega
    have htake : ((recordsOf (freeBus s) xs).take d.after).length = d.after := by
      rw [List.length_take, length_recordsOf]
      omega
    rw [hentered]
    refine ⟨?_, ?_, ?_, fun l hl => ?_, ?_, ?_, ?_⟩
    · rw [settleBus_cu]
      exact congrArg (· ++ (recordsOf (freeBus s) xs).drop d.after) (congrArg CompletionUnit.queue hcu)
    · rw [entry_congr (settleBus_rp ..)]
      exact hfree
    · rw [listOf_congr (settleBus_rp ..)]
      exact hleft
    · rw [listOf_congr (settleBus_rp ..)]
      exact hothers l hl
    · rw [settleBus_cu, hsplit]
      simp only [reportsWait, reportsEntered] at hreserved ⊢
      rw [hreserved, htake]
      change s.cu.reserved - d.after - 1 - _ = _
      omega
    · rw [settleBus_ru]
      rfl
    · rw [settleBus_sc]
      exact hsc

end

/-! ## Deliveries (R24, R36 to R41) -/

namespace Sys2Proof.Machine

set_option Elab.async false

/-- The delivery that a command names (R24). -/
def deliveryOf : Instr → Option Delivery
  | .headFrameReturn kind address toggle payload outcome copies span =>
    some { item := .headFrame kind address toggle payload outcome copies, span := span }
  | .responseReturn source toggle payload span => some { item := .response source toggle payload, span := span }
  | .turnReturn span => some { item := .turnMarker, span := span }
  | .reportReturn source toggle payload span => some { item := .report source toggle payload, span := span }
  | .damagedFrame span => some { item := .damagedFrame, span := span }
  | .sweepMarkerReturn budget acks span => some { item := .sweepMarker budget acks, span := span }
  | .callMarkerReturn entries span => some { item := .callMarker entries, span := span }
  | .probeReturn echo a b => some { item := .probeMarker echo, span := { start := a, stop := b } }
  | .damagedMarker kind span => some { item := .damagedMarker kind, span := span }
  | _ => none

theorem commandOf_deliveryOf {cmd : Instr} {d : Delivery} (h : deliveryOf cmd = some d) : commandOf d = cmd := by
  cases cmd <;> cases h <;> rfl

theorem answerDelivery_eq {possible : Bool} {item : Item} {span : ReturnSpan} {s : State} (hpossible : possible = true)
    (hspan : span.start ≤ span.stop) (hnow : span.stop = s.clock.octets) :
    answerDelivery possible item span s = answerWithBus (receiverDelivers s) (deliver { item := item, span := span }) s := by
  rw [hnow] at hspan
  simp only [answerDelivery, arrives, hpossible, hnow, hspan, decide_true, Bool.and_true, Bool.true_and]

/-- A delivery that falls now is judged where the receiver delivers items (R24, R36). -/
theorem exec_of_arrivesNow {s : State} {cmd : Instr} (h : ArrivesNow s cmd) :
    ∃ d, deliveryOf cmd = some d ∧ exec cmd s = answerWithBus (receiverDelivers s) (deliver d) s := by
  obtain ⟨hwell, hspan⟩ := h
  cases cmd with
  | headFrameReturn kind address toggle payload outcome copies span =>
    obtain ⟨hpayload, hcopies, hle⟩ := of_decide_eq_true hwell
    exact ⟨_, rfl, answerDelivery_eq (by simp [hpayload, hcopies]) hle (Option.some.inj hspan)⟩
  | responseReturn source toggle payload span =>
    obtain ⟨hpayload, hle⟩ := of_decide_eq_true hwell
    exact ⟨_, rfl, answerDelivery_eq (by simp [hpayload]) hle (Option.some.inj hspan)⟩
  | turnReturn span => exact ⟨_, rfl, answerDelivery_eq rfl (of_decide_eq_true hwell) (Option.some.inj hspan)⟩
  | reportReturn source toggle payload span =>
    obtain ⟨hpayload, hle⟩ := of_decide_eq_true hwell
    exact ⟨_, rfl, answerDelivery_eq (by simp [hpayload]) hle (Option.some.inj hspan)⟩
  | damagedFrame span => exact ⟨_, rfl, answerDelivery_eq rfl (of_decide_eq_true hwell) (Option.some.inj hspan)⟩
  | sweepMarkerReturn budget acks span =>
    obtain ⟨hbudget, hacks, hle⟩ := of_decide_eq_true hwell
    exact ⟨_, rfl, answerDelivery_eq (by simp [hbudget, hacks]) hle (Option.some.inj hspan)⟩
  | callMarkerReturn entries span =>
    obtain ⟨hentries, hle⟩ := of_decide_eq_true hwell
    exact ⟨_, rfl, answerDelivery_eq (by simp [hentries]) hle (Option.some.inj hspan)⟩
  | probeReturn echo a b => exact ⟨_, rfl, answerDelivery_eq rfl (of_decide_eq_true hwell) (Option.some.inj hspan)⟩
  | damagedMarker kind span => exact ⟨_, rfl, answerDelivery_eq rfl (of_decide_eq_true hwell) (Option.some.inj hspan)⟩
  | _ => cases hspan

/-- What a command's delivery is to the owner of entry `e`, none where it is no delivery or a mismatch (R36 to R41). -/
def fitFor (s : State) (e : TransitEntry) (cmd : Instr) : Option Fit := (deliveryOf cmd).bind (fitOf s e)

theorem deliver_of_delivering {s : State} (d : Delivery)
    (hstate : s.ls.state = .opened ∨ s.ls.state = .calling ∨ s.ls.state = .draining) : deliver d s = deliverInTransit d s := by
  rcases hstate with h | h | h <;> simp only [deliver, h]

theorem receiverDelivers_of {s : State} (hstate : s.ls.state = .opened ∨ s.ls.state = .calling ∨ s.ls.state = .draining) :
    receiverDelivers s = true := by
  rcases hstate with h | h | h <;> simp only [receiverDelivers, h]

/-- A delivery that matches the oldest entry goes to its owner (R36). -/
theorem exec_matched {s : State} {e : TransitEntry} {rest : List TransitEntry} {cmd : Instr} {fit : Fit}
    (htransit : s.ls.transit = e :: rest) (hstate : s.ls.state = .opened ∨ s.ls.state = .calling ∨ s.ls.state = .draining)
    (harrives : ArrivesNow s cmd) (hfit : fitFor s e cmd = some fit) :
    exec cmd s = .next (settleBus s.hp.queue.length (quietWhenDrained (applyFit e fit s))) := by
  obtain ⟨d, hd, hexec⟩ := exec_of_arrivesNow harrives
  rw [fitFor, hd, Option.bind_some] at hfit
  rw [hexec, answerWithBus, receiverDelivers_of hstate, if_pos rfl, deliver_of_delivering d hstate]
  simp only [deliverInTransit, htransit, hfit]

/-- A delivery that does not match the oldest entry loses track of the loop (R41, R47). -/
theorem exec_mismatched {s : State} {e : TransitEntry} {rest : List TransitEntry} {cmd : Instr}
    (htransit : s.ls.transit = e :: rest) (hstate : s.ls.state = .opened ∨ s.ls.state = .calling ∨ s.ls.state = .draining)
    (harrives : ArrivesNow s cmd) (hfit : fitFor s e cmd = none) :
    exec cmd s = .next (settleBus s.hp.queue.length (loseTrack s)) := by
  obtain ⟨d, hd, hexec⟩ := exec_of_arrivesNow harrives
  rw [fitFor, hd, Option.bind_some] at hfit
  rw [hexec, answerWithBus, receiverDelivers_of hstate, if_pos rfl, deliver_of_delivering d hstate]
  simp only [deliverInTransit, htransit, hfit]

/-! ### The matches, kind by kind -/

/-- The copy count that a head frame in its place reports (R37, R95). -/
def returnedCopies : Instr → Nat
  | .headFrameReturn _ _ _ _ _ copies _ => copies
  | _ => 0

theorem awaitsHead_fits {s : State} {e : TransitEntry} {cmd : Instr} {o : LastOutcome}
    (hhead : e.element = .post ∨ e.element = .group ∨ e.element = .rest ∨ e.element = .exch ∧ e.progress = .awaitingHead)
    (hawaits : awaits e cmd = true) (ho : headOutcome cmd = some o) :
    fitFor s e cmd = some (.headFrame o (returnedCopies cmd)) := by
  have hfits : fitsHead e cmd = true := by
    rcases hhead with h | h | h | ⟨h, hp⟩
    · simpa only [awaits, h] using hawaits
    · simpa only [awaits, h] using hawaits
    · simpa only [awaits, h] using hawaits
    · simpa only [awaits, h, hp] using hawaits
  have hfit (d : Delivery) : fitOf s e d = headFit e d.item := by
    rcases hhead with h | h | h | ⟨h, hp⟩
    · simp only [fitOf, h]
    · simp only [fitOf, h]
    · simp only [fitOf, h]
    · simp only [fitOf, h, hp]
  cases cmd with
  | headFrameReturn kind address toggle payload outcome copies span =>
    cases ho
    simp only [fitsHead, Bool.and_eq_true, beq_iff_eq, and_assoc] at hfits
    simp only [fitFor, deliveryOf, Option.bind_some, hfit, headFit, if_pos hfits]
    rfl
  | damagedFrame span =>
    cases ho
    simp only [fitFor, deliveryOf, Option.bind_some, hfit]
    rfl
  | _ => cases ho

/-- The item that came back in a turn's place (R38). -/
def turnItemOf : Instr → Option TurnItem
  | .turnReturn _ => some .unchanged
  | .damagedMarker _ _ | .damagedFrame _ => some .damaged
  | .responseReturn source toggle payload _ => some (.response source toggle payload)
  | _ => none

theorem isTurnItem_iff (cmd : Instr) : isTurnItem cmd = true ↔ ∃ t, turnItemOf cmd = some t := by
  cases cmd <;> simp [isTurnItem, turnItemOf]

theorem awaitsTurn_fits {s : State} {e : TransitEntry} {cmd : Instr} {t : TurnItem} (hexch : e.element = .exch)
    (hprogress : e.progress = .awaitingTurn) (hturn : turnItemOf cmd = some t) : fitFor s e cmd = some (.turn t) := by
  cases cmd <;> cases hturn <;> simp only [fitFor, deliveryOf, Option.bind_some, fitOf, hexch, hprogress, turnFit]

/-! ### What follows an entry's item (R47) -/

theorem OldestAwaited.delivering {s : State} {e : TransitEntry} {rest : List TransitEntry} (h : OldestAwaited s e rest) :
    s.ls.state = .opened ∨ s.ls.state = .calling ∨ s.ls.state = .draining := by
  rcases h.2 with h | ⟨h, -⟩
  · exact .inl h
  · exact .inr (.inr h)

theorem OldestIs.delivering {s : State} {e : TransitEntry} {rest : List TransitEntry} (h : OldestIs s e rest) :
    s.ls.state = .opened ∨ s.ls.state = .calling ∨ s.ls.state = .draining := by
  rcases h.2 with h | h
  · exact .inl h
  · exact .inr (.inr h)

/-- The drain does not end while an entry is left, and there is none outside it (R47). -/
theorem quietWhenDrained_of_awaited {s u : State} {e : TransitEntry} {rest : List TransitEntry} (h : OldestAwaited s e rest)
    (hstate : u.ls.state = s.ls.state) (htransit : u.ls.transit = rest) : quietWhenDrained u = u := by
  refine if_neg fun hdrained => ?_
  rw [hstate, htransit] at hdrained
  rcases h.2 with hopened | ⟨-, hrest⟩
  · rw [hopened] at hdrained
    cases hdrained.1
  · exact hrest hdrained.2

theorem quietWhenDrained_of_transit {u : State} (h : u.ls.transit ≠ []) : quietWhenDrained u = u := if_neg fun hd => h hd.2

theorem popOldest_transit {s : State} {e : TransitEntry} {rest : List TransitEntry} (h : s.ls.transit = e :: rest) :
    popOldest s = { s with ls := { s.ls with transit := rest } } := by
  rw [popOldest, h]
  rfl

/-- An awaited item whose owner leaves the loop alone, the entry gone: the end of the step (R36). -/
theorem exec_awaited {s u : State} {e : TransitEntry} {rest : List TransitEntry} {cmd : Instr} {fit : Fit}
    (h : OldestAwaited s e rest) (harrives : ArrivesNow s cmd) (hfit : fitFor s e cmd = some fit) (happly : applyFit e fit s = u)
    (hstate : u.ls.state = s.ls.state) (htransit : u.ls.transit = rest) :
    exec cmd s = .next (settleBus s.hp.queue.length u) := by
  rw [exec_matched h.1 h.delivering harrives hfit, happly, quietWhenDrained_of_awaited h hstate htransit]

end Sys2Proof.Machine

/-! ## GROUP and REST frames (R68, R95) -/

namespace Sys2Proof.Machine

set_option Elab.async false

/-- A request with its last outcome written (R73). -/
def withOutcome (o : LastOutcome) (q : PoolEntry) : PoolEntry := { q with lastOutcome := some o }

theorem writeOutcome_eq {s : State} {p : PoolIx} {q : PoolEntry} (h : entry s p = some q) (o : LastOutcome) :
    writeOutcome p o s = putEntry p (some (withOutcome o q)) s := modEntry_of_entry h _

theorem withRequest_eq {e : TransitEntry} {p : PoolIx} (h : e.pool = some p) (f : PoolIx → State → State) (s : State) :
    withRequest e f s = f p s := by simp only [withRequest, h]

theorem withStationRequest_eq {s : State} {e : TransitEntry} {p : PoolIx} {q : PoolEntry} {a : Addr} (hpool : e.pool = some p)
    (hq : entry s p = some q) (ha : requestStation q = some a) (f : Addr → PoolIx → State → State) :
    withStationRequest e f s = f a p s := by simp only [withStationRequest, hpool, hq, Option.bind_some, ha]

/-- The oldest entry has left and the outcome of its request is written. -/
def outcomeWritten (p : PoolIx) (q : PoolEntry) (o : LastOutcome) (rest : List TransitEntry) (s : State) : State :=
  putEntry p (some (withOutcome o q)) { s with ls := { s.ls with transit := rest } }

theorem writeOutcome_popOldest {s : State} {e : TransitEntry} {rest : List TransitEntry} {p : PoolIx} {q : PoolEntry}
    (htransit : s.ls.transit = e :: rest) (hq : entry s p = some q) (o : LastOutcome) :
    writeOutcome p o (popOldest s) = outcomeWritten p q o rest s := by
  rw [popOldest_transit htransit]
  exact writeOutcome_eq (by exact hq) o

theorem entry_outcomeWritten (p : PoolIx) (q : PoolEntry) (o : LastOutcome) (rest : List TransitEntry) (s : State) :
    entry (outcomeWritten p q o rest s) p = some (withOutcome o q) := entry_putEntry_same p _ _

/-- A request whose outcome has been written ends (R130). -/
theorem finishRequest_outcomeWritten {s : State} {p : PoolIx} {q : PoolEntry} (o : LastOutcome)
    (rest : List TransitEntry) (status : Status) (length count : Nat) (use : SlotUse) :
    Resolves s (finishRequest p status length count use (outcomeWritten p q o rest s)) (accessesWithout p s) p q
      (doneRecord (outcomeWritten p q o rest s) (withOutcome o q) status length count) :=
  (finishRequest_resolves (entry_putEntry_same p _ _) status length count use).of_start rfl rfl rfl
    (poolKeptBut_putEntry p _ { s with ls := { s.ls with transit := rest } }) rfl rfl rfl rfl ⟨rfl, rfl⟩ (.refl s)

/-- The end of a station's request that is not outstanding leaves the stations alone (R50). -/
theorem st_finishRequest_of_not_outstanding {s : State} {p : PoolIx} {e : PoolEntry} {a : Addr} (he : entry s p = some e)
    (ha : requestStation e = some a) (hout : (station s a).outstanding ≠ some p) (status : Status) (length count : Nat)
    (use : SlotUse) : (finishRequest p status length count use s).st = s.st := by
  have hclear (u : State) (hu : u.st = s.st) : (clearOutstanding (.station a) p u).st = s.st := by
    simp only [clearOutstanding]
    rw [station_congr hu, if_neg hout, hu]
  simp only [finishRequest, he, requestStation_eq_some.mp ha, becomeHead_st]
  exact hclear _ (by simp)

end Sys2Proof.Machine

section

set_option Elab.async false

open Sys2Proof.Machine

/-- Settles O42: the frame of the oldest entry is the end of its request, through the slot it carries. -/
theorem groupAndRestReturns : Obligations.GroupAndRestReturns := by
  unfold Obligations.GroupAndRestReturns
  intro s e rest p q cmd o hold hpool hq harrives hawaits ho
  refine ⟨fun expected status count helement hkind hexpected hcase => ?group, fun a helement hkind ha hcount hout => ?rest⟩
  case group =>
    have hlist : listFor q.kind q.address = .control := by rw [hkind]; rfl
    have hfit := awaitsHead_fits (s := s) (.inr (.inl helement)) hawaits ho
    have hjudged : groupReturned p o (returnedCopies cmd) (popOldest s) =
        finishRequest p status 0 count .useReserved (outcomeWritten p q o rest s) := by
      have hentry : entry (outcomeWritten p q o rest s) p = some (withOutcome o q) := entry_outcomeWritten ..
      have hcopies : (withOutcome o q).expectedCount.getD 0 = expected := by
        rw [show (withOutcome o q).expectedCount = q.expectedCount from rfl, hexpected]
        rfl
      simp only [groupReturned, writeOutcome_popOldest hold.1 hq, hentry, hcopies]
      rcases hcase with ⟨⟨kind, address, toggle, payload, outcome, span, rfl⟩, rfl⟩ | ⟨⟨span, rfl⟩, rfl, rfl⟩
      · cases ho
        rw [if_neg (by cases outcome <;> decide)]
        simp only [returnedCopies]
        by_cases hreached : expected ≤ count
        · simp only [hreached, if_true]
        · simp only [hreached, if_false]
      · cases ho
        rfl
    have happly : applyFit e (.headFrame o (returnedCopies cmd)) s =
        finishRequest p status 0 count .useReserved (outcomeWritten p q o rest s) := by
      simp only [applyFit, headFrameMatched, helement, withRequest_eq hpool, hjudged]
    have hexec := exec_awaited hold harrives hfit happly (by rw [finishRequest_ls]; rfl) (by rw [finishRequest_ls]; rfl)
    have hresolves := finishRequest_outcomeWritten (s := s) (p := p) (q := q) o rest status 0 count .useReserved
    rw [doneRecord_eq_controlRecord (e := withOutcome o q) hlist (by simp only [withOutcome, hkind]; decide)] at hresolves
    have hrecord : controlRecord (withOutcome o q) status 0 count =
        { kind := .done, status := status, address := q.address, attempts := q.attempts, waits := 0, tag := q.tag, length := 0,
          count := count, stationState := none, lastOutcome := some o, last := some (BitVec.ofNat 8 expected) } := by
      simp only [controlRecord, withOutcome, hexpected, Option.map_some]
    refine ⟨_, hexec, (hrecord ▸ hresolves).settled (queue_finishRequest_le ..), ?_, ?_, ?_⟩
    · rw [settleBus_cu, reserved_finishRequest (entry_outcomeWritten p q o rest s)]
      rfl
    · rw [settleBus_ls, finishRequest_ls]
      rfl
    · rw [settleBus_st, st_finishRequest_of_control (entry_outcomeWritten p q o rest s) hlist]
      rfl
  case rest =>
    have hfit := awaitsHead_fits (s := s) (.inr (.inr (.inl helement))) hawaits ho
    generalize hu : finishRequest p .ok 0 0 .useReserved (outcomeWritten p q o rest s) = u
    have huls : u.ls = { s.ls with transit := rest } := by
      rw [← hu, finishRequest_ls]
      rfl
    have happly : applyFit e (.headFrame o (returnedCopies cmd)) s =
        { u with ls := { u.ls with rawDelay := if o = .taken then u.ls.rawDelay - 2 else u.ls.rawDelay } } := by
      simp only [applyFit, headFrameMatched, helement, withRequest_eq hpool, restReturned, writeOutcome_popOldest hold.1 hq, hu]
      split <;> rfl
    have hexec := exec_awaited hold harrives hfit happly (by rw [huls]) (by rw [huls])
    have hresolves := finishRequest_outcomeWritten (s := s) (p := p) (q := q) o rest .ok 0 0 .useReserved
    rw [hu, doneRecord_eq_workRecord (e := withOutcome o q) ha hcount, waitsField,
      if_neg (by simp only [withOutcome, hkind]; decide)] at hresolves
    have hadjusted : Resolves s { u with ls := { u.ls with rawDelay := if o = .taken then u.ls.rawDelay - 2 else u.ls.rawDelay } }
        (accessesWithout p s) p q (workRecord q .ok q.attempts 0 0 (station s a).state (some o)) := hresolves
    refine ⟨_, hexec, hadjusted.settled ?_, ?_, ?_, ?_⟩
    · exact hu ▸ queue_finishRequest_le ..
    · rw [settleBus_cu]
      exact hu ▸ reserved_finishRequest (entry_outcomeWritten p q o rest s) ..
    · rw [settleBus_st]
      exact hu ▸ st_finishRequest_of_not_outstanding (entry_outcomeWritten p q o rest s) ha
        (show (station s a).outstanding ≠ some p by rw [hout]; exact (Option.some_ne_none p).symm) ..
    · rw [settleBus_ls]
      simp only [huls]

end

/-! ## The end of a request that an item from the loop decides (R80 to R94) -/

namespace Sys2Proof.Machine

set_option Elab.async false

/-- Between `s` and `u` request `p` has become `q`, station `a` and the transit list may have changed, and nothing else has. -/
def RequestChanged (s u : State) (a : Addr) (p : PoolIx) (q : PoolEntry) : Prop :=
  entry u p = some q ∧ PoolKeptBut p s u ∧ u = { s with rp := u.rp, st := u.st, ls := u.ls } ∧ StationsKeptBut a s u

theorem RequestChanged.popOldest {s : State} {p : PoolIx} {q : PoolEntry} (hq : entry s p = some q) (a : Addr) :
    RequestChanged s (popOldest s) a p q := ⟨hq, ⟨fun _ => rfl, fun _ _ => rfl⟩, rfl, .of_eq rfl⟩

theorem RequestChanged.putEntry {s u : State} {a : Addr} {p : PoolIx} {q : PoolEntry} (h : RequestChanged s u a p q) (q' : PoolEntry) :
    RequestChanged s (putEntry p (some q') u) a p q' := by
  obtain ⟨-, ⟨hlists, hentries⟩, hu, hstations⟩ := h
  refine ⟨entry_putEntry_same .., ⟨fun l => (listOf_putEntry ..).trans (hlists l), fun r hr => ?_⟩, ?_, hstations⟩
  · rw [entry_putEntry, if_neg hr, hentries r hr]
  · rw [hu]
    rfl

theorem RequestChanged.putStation {s u : State} {a : Addr} {p : PoolIx} {q : PoolEntry} (h : RequestChanged s u a p q) (x : Station) :
    RequestChanged s (putStation a x u) a p q := by
  obtain ⟨hq, hpool, hu, hstations⟩ := h
  refine ⟨hq, hpool, ?_, hstations.trans (stationsKeptBut_putStation a x u)⟩
  rw [hu]
  rfl

/-- The request ends: its record shows what it has become and the state of its station, and its link is cleared (R50, R130). -/
theorem RequestChanged.ends {s u : State} {a : Addr} {p : PoolIx} {q q' : PoolEntry} (h : RequestChanged s u a p q')
    (hkind : q'.kind = q.kind) (haddress : q'.address = q.address) (ha : requestStation q = some a) (hcount : q'.expectedCount = none)
    (status : Status) (length : Nat) :
    let t := settleBus s.hp.queue.length (finishRequest p status length 0 .useReserved u)
    Resolves s t (accessesWithout p s) p q
      (workRecord q' status q'.attempts (waitsField q') length (station u a).state q'.lastOutcome) ∧
    t.cu.reserved = s.cu.reserved - 1 ∧ t.ls = u.ls ∧ StationsKeptBut a s t ∧
    station t a = { station u a with outstanding := outstandingWithout p (station u a) } := by
  obtain ⟨hq, hpool, hu, hstations⟩ := h
  have ha' : requestStation q' = some a := by
    unfold requestStation at ha ⊢
    rwa [hkind, haddress]
  have hresolves := finishRequest_settled (s := s) (e := q) (n := s.hp.queue.length) hq hkind haddress (by rw [hu]) hpool
    (by rw [hu]; rfl) (by rw [hu]) (by rw [hu]) (by rw [hu]) (by rw [hu]; exact ⟨rfl, rfl⟩) (by rw [hu]; exact .refl s)
    (by rw [hu]) status length 0 .useReserved
  rw [doneRecord_eq_workRecord ha' hcount] at hresolves
  have hsame : accessesWithout p u = accessesWithout p s := by rw [hu]; rfl
  obtain ⟨hkept, hat⟩ := stations_finishRequest hq ha' status length 0 .useReserved
  refine ⟨hsame ▸ hresolves, ?_, ?_, hstations.trans (hkept.trans (.of_eq (settleBus_st ..))), ?_⟩
  · rw [settleBus_cu, reserved_finishRequest hq, hu]
  · rw [settleBus_ls, finishRequest_ls]
  · rw [station_congr (settleBus_st ..), hat]

/-- A request PAUSED by a failed attempt (R89, R91). -/
def paused (c : Configuration) (now : Nat) (q : PoolEntry) : PoolEntry :=
  { q with phase := .paused, fetchTimer := .running (now + c.fetchDelay * 160) }

/-- A request with a failed attempt counted, or none for a NOT-READY (R87, R89). -/
def attempted (counted : Bool) (q : PoolEntry) : PoolEntry :=
  { q with attempts := if counted then q.attempts + 1 else q.attempts }

/-- The cases of a failed attempt (R89, R94). -/
theorem failedAttempt_eq {u : State} {p : PoolIx} {q : PoolEntry} {c : Configuration} (hq : entry u p = some q)
    (hconfig : u.hp.config = some c) (a : Addr) (counted : Bool) :
    failedAttempt a p counted u =
      if q.expiryMark = true then finishRequest p .timeout 0 0 .useReserved (putEntry p (some (attempted counted q)) u)
      else if (station u a).state ≠ .present then
        finishRequest p .notPresent 0 0 .useReserved (putEntry p (some (attempted counted q)) u)
      else if counted = true ∧ (attempted counted q).attempts = q.attemptLimit then
        finishRequest p (finalStatus q.lastOutcome) 0 0 .useReserved (putEntry p (some (attempted counted q)) u)
      else giveBackSlots 1 (putEntry p (some (paused c u.clock.cycles (attempted counted q))) (putEntry p (some (attempted counted q)) u)) := by
  have hcounted : modEntry p (fun e => { e with attempts := if counted then e.attempts + 1 else e.attempts }) u =
      putEntry p (some (attempted counted q)) u := modEntry_of_entry hq _
  have hentry : entry (putEntry p (some (attempted counted q)) u) p = some (attempted counted q) := entry_putEntry_same ..
  have hpaused : pauseRequest p (putEntry p (some (attempted counted q)) u) = giveBackSlots 1
      (putEntry p (some (paused c u.clock.cycles (attempted counted q))) (putEntry p (some (attempted counted q)) u)) := by
    rw [pauseRequest, modEntry_of_entry hentry, configured_of_some (by exact hconfig)]
    rfl
  have hstation : station (putEntry p (some (attempted counted q)) u) a = station u a := rfl
  simp only [failedAttempt, hcounted, hentry, hpaused, hstation]
  rfl

theorem finalStatus_eq (o : LastOutcome) : finalStatus (some o) = statusAtLimit o := by cases o <;> rfl

/-- What a failed attempt leaves beside the request and the accesses. -/
def AttemptLeaves (s u t : State) (a : Addr) (failures : Nat) : Prop :=
  t.ls = u.ls ∧ t.cu.reserved = s.cu.reserved - 1 ∧ StationsKeptBut a s t ∧
  station t a = { station s a with failures := failures, outstanding := (station t a).outstanding }

/-- A failed attempt after which the request ends, with some status (R89, R94). -/
theorem RequestChanged.attempt_ends {s u : State} {a : Addr} {p : PoolIx} {q q' : PoolEntry} {o : LastOutcome}
    {next : Option HeadFrame} {waits failures : Nat} (h : RequestChanged s u a p q')
    (hq' : q' = { q with waits := waits, lastOutcome := some o, nextFrame := next })
    (hat : station u a = { station s a with failures := failures })
    (ha : requestStation q = some a) (hcount : q.expectedCount = none) (counted : Bool) (status : Status) :
    let t := settleBus s.hp.queue.length (finishRequest p status 0 0 .useReserved (Machine.putEntry p (some (attempted counted q')) u))
    (Resolves s t (accessesWithout p s) p q (workRecord q status (if counted then q.attempts + 1 else q.attempts)
      (if q.kind = .exchange then waits else 0) 0 (station s a).state (some o)) ∧
      (station t a).outstanding = outstandingWithout p (station s a)) ∧
    AttemptLeaves s u t a failures := by
  have hput := h.putEntry (attempted counted q')
  obtain ⟨hresolves, hreserved, hls, hkept, hstation⟩ := hput.ends (q := q) (by rw [hq']; rfl) (by rw [hq']; rfl) ha
    (by rw [hq']; exact hcount) status 0
  have hstation' : station (Machine.putEntry p (some (attempted counted q')) u) a = { station s a with failures := failures } := hat
  have hrecord : workRecord (attempted counted q') status (attempted counted q').attempts (waitsField (attempted counted q')) 0
      (station (Machine.putEntry p (some (attempted counted q')) u) a).state (attempted counted q').lastOutcome =
      workRecord q status (if counted then q.attempts + 1 else q.attempts) (if q.kind = .exchange then waits else 0) 0
        (station s a).state (some o) := by
    rw [hstation', hq']
    rfl
  rw [hstation'] at hstation
  exact ⟨⟨hrecord ▸ hresolves, by rw [hstation]; rfl⟩, hls, hreserved, hkept, by rw [hstation]⟩

/-- A failed attempt, whatever brought it about (R89 to R91, R94). -/
theorem RequestChanged.fails {s u : State} {a : Addr} {p : PoolIx} {q q' : PoolEntry} {c : Configuration} {o : LastOutcome}
    {next : Option HeadFrame} {waits failures : Nat} {counted : Bool} (h : RequestChanged s u a p q')
    (hq' : q' = { q with waits := waits, lastOutcome := some o, nextFrame := next })
    (hat : station u a = { station s a with failures := failures })
    (hconfig : s.hp.config = some c) (ha : requestStation q = some a) (hcount : q.expectedCount = none)
    (hcounted : counted = true ↔ o ≠ .notReady) :
    let t := settleBus s.hp.queue.length (failedAttempt a p counted u)
    AttemptFailed s t c a p q o next (if counted then q.attempts + 1 else q.attempts) waits ∧ AttemptLeaves s u t a failures := by
  obtain ⟨hq, -, hu, -⟩ := id h
  have hmark : q'.expiryMark = q.expiryMark := by rw [hq']
  have hlimit : (attempted counted q').attempts = q'.attemptLimit ↔ (if counted then q.attempts + 1 else q.attempts) = q.attemptLimit := by
    rw [hq']
    rfl
  have hlast : finalStatus q'.lastOutcome = statusAtLimit o := by rw [hq', finalStatus_eq]
  have hstate : (station u a).state = (station s a).state := by rw [hat]
  have hends := h.attempt_ends hq' hat ha hcount counted
  have hcases := failedAttempt_eq hq (c := c) (by rw [hu]; exact hconfig) a counted
  rw [hmark, hstate, hlast] at hcases
  simp only [hlimit] at hcases
  dsimp only
  rw [hcases]
  by_cases hexpired : q.expiryMark = true
  · rw [if_pos hexpired]
    refine ⟨⟨?_, fun hno => absurd hexpired (by rw [hno]; exact Bool.false_ne_true)⟩, (hends .timeout).2⟩
    rintro status (⟨-, rfl⟩ | ⟨hno, -⟩ | ⟨hno, -⟩)
    · exact (hends .timeout).1
    · exact absurd hexpired (by rw [hno]; exact Bool.false_ne_true)
    · exact absurd hexpired (by rw [hno]; exact Bool.false_ne_true)
  rw [if_neg hexpired]
  by_cases hgone : (station s a).state ≠ .present
  · rw [if_pos hgone]
    refine ⟨⟨?_, fun _ hpresent => absurd hpresent hgone⟩, (hends .notPresent).2⟩
    rintro status (⟨hmarked, -⟩ | ⟨-, -, rfl⟩ | ⟨-, hpresent, -⟩)
    · exact absurd hmarked hexpired
    · exact (hends .notPresent).1
    · exact absurd hpresent hgone
  rw [if_neg hgone]
  by_cases hused : counted = true ∧ (if counted then q.attempts + 1 else q.attempts) = q.attemptLimit
  · rw [if_pos hused]
    refine ⟨⟨?_, fun _ _ hleft => absurd hleft ?_⟩, (hends _).2⟩
    · rintro status (⟨hmarked, -⟩ | ⟨-, hgone', -⟩ | ⟨-, -, -, -, rfl⟩)
      · exact absurd hmarked hexpired
      · exact absurd hgone' hgone
      · exact (hends _).1
    · exact not_or.mpr ⟨hcounted.mp hused.1, not_not.mpr hused.2⟩
  rw [if_neg hused]
  obtain ⟨hentry, hpool, hpaused, hkept⟩ := (h.putEntry (attempted counted q')).putEntry (paused c u.clock.cycles (attempted counted q'))
  obtain ⟨bus, queue, hsettled, hacc⟩ := settleBus_eq (n := s.hp.queue.length)
    (s := giveBackSlots 1 (Machine.putEntry p (some (paused c u.clock.cycles (attempted counted q')))
      (Machine.putEntry p (some (attempted counted q')) u))) (by rw [hu]; exact Nat.le_succ _)
  rw [hsettled]
  have hclock : u.clock.cycles = s.clock.cycles := by rw [hu]
  have hfinal : station (withSequencer bus queue (giveBackSlots 1 (Machine.putEntry p
      (some (paused c u.clock.cycles (attempted counted q'))) (Machine.putEntry p (some (attempted counted q')) u)))) a =
      { station s a with failures := failures } := hat
  refine ⟨⟨?_, fun _ _ hleft => ⟨?_, hpool, by rw [hfinal], ?_, ?_⟩⟩, rfl, ?_, hkept, by rw [hfinal]⟩
  · rintro status (⟨hmarked, -⟩ | ⟨-, hgone', -⟩ | ⟨-, -, hready, hlimit', -⟩)
    · exact absurd hmarked hexpired
    · exact absurd hgone' hgone
    · exact absurd ⟨hcounted.mpr hready, hlimit'⟩ hused
  · refine hentry.trans ?_
    rw [hclock, hq']
    rfl
  · rw [hu]
    rfl
  · refine hacc.trans ?_
    rw [hu]
    rfl
  · rw [hu]
    rfl

/-! ### Failure counts (R52, R56) -/

theorem RequestChanged.withCompletions {s u : State} {a : Addr} {p : PoolIx} {q : PoolEntry} (h : RequestChanged s u a p q)
    (k : CompletionUnit) : RequestChanged { s with cu := k } { u with cu := k } a p q := by
  obtain ⟨hq, hpool, hu, hstations⟩ := h
  refine ⟨hq, hpool, ?_, hstations⟩
  rw [hu]

theorem raiseStationChange_eq (n : Nat) (s : State) : raiseStationChange n s = { s with cu := afterRaise (changeRaise n) s.cu } :=
  raiseNotice_eq ..

/-- The failure count rises to one below the silent threshold, or beyond it (R52). -/
theorem countFailure_of_not_silent {s : State} {c : Configuration} {a : Addr} (hconfig : s.hp.config = some c)
    (h : ¬reachesSilence s c a) :
    countFailure a s = putStation a { station s a with failures := min 15 ((station s a).failures + 1) } s := by
  simp only [countFailure, configured_of_some hconfig]
  exact if_neg h

/-- The failure count of a PRESENT station rises to the silent threshold: it enters SILENT, and the change is raised (R56). -/
theorem countFailure_of_silent {s : State} {c : Configuration} {a : Addr} (hconfig : s.hp.config = some c)
    (h : reachesSilence s c a) :
    countFailure a s =
      { putStation a { station s a with failures := c.silentThreshold, state := .silent } s with cu := afterRaise (changeRaise 1) s.cu } := by
  simp only [countFailure, configured_of_some hconfig]
  refine (if_pos h).trans ?_
  rw [raiseStationChange_eq, h.2]
  rfl

theorem reachesSilence_congr {s u : State} {a : Addr} (h : station u a = station s a) (c : Configuration) :
    reachesSilence u c a ↔ reachesSilence s c a := by simp only [reachesSilence, h]

/-- A head-frame outcome and the failure count, where the station does not become SILENT (R52). -/
theorem RequestChanged.applyOutcome {s u : State} {a : Addr} {p : PoolIx} {q : PoolEntry} {c : Configuration} {o : LastOutcome}
    (h : RequestChanged s u a p q) (hat : station u a = station s a) (hconfig : s.hp.config = some c)
    (ho : o = .taken ∨ o = .repeated ∨ o = .busy ∨ o = .damaged ∨ o = .damagedInTransit ∨ o = .noMatch)
    (hspoken : ¬(o = .noMatch ∧ reachesSilence s c a)) :
    RequestChanged s (applyOutcomeToFailures o a u) a p q ∧
    station (applyOutcomeToFailures o a u) a = { station s a with failures := failuresAfter o (station s a).failures } ∧
    (applyOutcomeToFailures o a u).ls = u.ls := by
  have hcleared : RequestChanged s (clearFailures a u) a p q ∧ station (clearFailures a u) a = { station s a with failures := 0 } ∧
      (clearFailures a u).ls = u.ls := by
    refine ⟨h.putStation _, ?_, rfl⟩
    rw [clearFailures, station_putStation_same, hat]
  rcases ho with rfl | rfl | rfl | rfl | rfl | rfl
  · exact hcleared
  · exact hcleared
  · exact hcleared
  · exact ⟨h, hat, rfl⟩
  · exact ⟨h, hat, rfl⟩
  · obtain ⟨-, -, hu, -⟩ := id h
    have hcount := countFailure_of_not_silent (s := u) (c := c) (a := a) (by rw [hu]; exact hconfig)
      fun hsilent => hspoken ⟨rfl, (reachesSilence_congr hat c).mp hsilent⟩
    simp only [applyOutcomeToFailures, hcount]
    refine ⟨h.putStation _, ?_, rfl⟩
    rw [station_putStation_same, hat]
    rfl

/-- The attempt that silences its station: the notice is raised, and the record enters behind it (R56, R89, R94). -/
theorem RequestChanged.silences {s u : State} {a : Addr} {p : PoolIx} {q q' : PoolEntry} {c : Configuration}
    (h : RequestChanged s u a p q') (hq' : q' = { q with lastOutcome := some .noMatch }) (hat : station u a = station s a)
    (hconfig : s.hp.config = some c) (ha : requestStation q = some a) (hcount : q.expectedCount = none) (hsilent : reachesSilence s c a) :
    let t := settleBus s.hp.queue.length (failedAttempt a p true (countFailure a u))
    AttemptSilences s t c a p q ∧ t.ls = u.ls ∧ StationsKeptBut a s t := by
  obtain ⟨-, -, hu, -⟩ := id h
  have hcu : u.cu = s.cu := by rw [hu]
  have hconfig' : u.hp.config = some c := by rw [hu]; exact hconfig
  have hcounted := countFailure_of_silent hconfig' ((reachesSilence_congr hat c).mpr hsilent)
  rw [hcu] at hcounted
  have hchanged := (h.putStation { station u a with failures := c.silentThreshold, state := .silent }).withCompletions
    (afterRaise (changeRaise 1) s.cu)
  rw [← hcounted] at hchanged
  have hstation : station (countFailure a u) a = { station s a with failures := c.silentThreshold, state := .silent } := by
    rw [hcounted]
    exact (station_putStation_same a _ u).trans (by rw [hat])
  have hfails : failedAttempt a p true (countFailure a u) =
      finishRequest p (if q.expiryMark then .timeout else .notPresent) 0 0 .useReserved
        (Machine.putEntry p (some (attempted true q')) (countFailure a u)) := by
    rw [failedAttempt_eq hchanged.1 (c := c) (by rw [hcounted]; exact hconfig'), hstation, if_pos (by decide : StationState.silent ≠ .present),
      show q'.expiryMark = q.expiryMark by rw [hq']]
    split <;> rfl
  obtain ⟨⟨hcu', hfree, -⟩, hreserved, hls, hkept, hfinal⟩ := (hchanged.putEntry (attempted true q')).ends (q := q) (by rw [hq']; rfl)
    (by rw [hq']; rfl) ha (by rw [hq']; exact hcount) (if q.expiryMark then .timeout else .notPresent) 0
  have hstation' : station (Machine.putEntry p (some (attempted true q')) (countFailure a u)) a =
      { station s a with failures := c.silentThreshold, state := .silent } := hstation
  rw [hstation'] at hcu' hfinal
  have hkeepsReserved : (afterRaise (changeRaise 1) s.cu).reserved = s.cu.reserved := by
    unfold afterRaise
    split <;> rfl
  dsimp only
  rw [hfails]
  refine ⟨⟨hfinal, hcu'.trans ?_, hfree⟩, hls.trans (by rw [hcounted]; rfl), hkept⟩
  rw [hreserved, hq']
  simp only [hkeepsReserved]
  rfl

end Sys2Proof.Machine

/-! ## Head frames of an EXCHANGE or POST (R37, R80 to R82) -/

section

set_option Elab.async false

open Sys2Proof.Machine

/-- Settles O41: the outcome is written; an EXCH goes on, and of a POST it is a success (`RequestChanged.ends`), a failed attempt
(`RequestChanged.fails`) or the one that silences the station (`RequestChanged.silences`). -/
theorem headFramesOfExchangesAndPosts : Obligations.HeadFramesOfExchangesAndPosts := by
  unfold Obligations.HeadFramesOfExchangesAndPosts
  intro s e rest p q a cmd o ⟨hpool, hq, ha⟩ harrives hawaits ho
  refine ⟨fun hold helement hprogress => ?exch, fun hold helement hkind hcount => ?post⟩
  case exch =>
    have hfit := awaitsHead_fits (s := s) (.inr (.inr (.inr ⟨helement, hprogress⟩))) hawaits ho
    have happly : applyFit e (.headFrame o (returnedCopies cmd)) s =
        putEntry p (some (withOutcome o q)) { s with ls := { s.ls with transit := { e with progress := .awaitingTurn } :: rest } } := by
      simp only [applyFit, headFrameMatched, helement, withRequest_eq hpool, advanceOldest, hold.1]
      exact writeOutcome_eq (by exact hq) o
    have hexec := exec_matched hold.1 hold.delivering harrives hfit
    rw [happly, quietWhenDrained_of_transit (by exact List.cons_ne_nil _ _)] at hexec
    obtain ⟨bus, queue, hsettled, hacc⟩ := settleBus_eq (n := s.hp.queue.length)
      (s := putEntry p (some (withOutcome o q)) { s with ls := { s.ls with transit := { e with progress := .awaitingTurn } :: rest } })
      (Nat.le_succ _)
    rw [hsettled] at hexec
    exact ⟨_, hexec, entry_putEntry_same p _ _, poolKeptBut_putEntry p _ { s with ls := { s.ls with transit := _ } }, rfl, hacc⟩
  case post =>
    have hfit := awaitsHead_fits (s := s) (.inl helement) hawaits ho
    have hchanged : RequestChanged s (outcomeWritten p q o rest s) a p (withOutcome o q) := by
      rw [← writeOutcome_popOldest hold.1 hq, writeOutcome_eq (s := popOldest s) hq]
      exact (RequestChanged.popOldest hq a).putEntry _
    have happly : applyFit e (.headFrame o (returnedCopies cmd)) s = postReturned a p o (popOldest s) := by
      simp only [applyFit, headFrameMatched, helement, withStationRequest_eq (s := popOldest s) hpool hq ha]
    have hnotExchange : (withOutcome o q).kind ≠ .exchange := by simp only [withOutcome, hkind]; decide
    refine ⟨fun htaken => ?success, fun c hconfig hfailed => ⟨fun hspoken => ?fails, fun hnone hsilent => ?silences⟩⟩
    case success =>
      have hreturned : postReturned a p o (popOldest s) =
          finishRequest p .ok 0 0 .useReserved (flipCommandToggle a (clearFailures a (outcomeWritten p q o rest s))) := by
        simp only [postReturned, writeOutcome_popOldest hold.1 hq]
        rcases htaken with rfl | rfl <;> rfl
      have hcleared : station (flipCommandToggle a (clearFailures a (outcomeWritten p q o rest s))) a =
          { station s a with commandToggle := !(station s a).commandToggle, failures := 0 } := by
        rw [flipCommandToggle, station_putStation_same, clearFailures, station_putStation_same]
        rfl
      have hflipped : RequestChanged s (flipCommandToggle a (clearFailures a (outcomeWritten p q o rest s))) a p (withOutcome o q) :=
        (hchanged.putStation _).putStation _
      obtain ⟨hresolves, hreserved, hls, hkept, hstation⟩ := hflipped.ends (q := q) rfl rfl ha hcount .ok 0
      rw [waitsField, if_neg hnotExchange] at hresolves
      rw [hcleared] at hresolves hstation
      have hexec := exec_awaited hold harrives hfit (happly.trans hreturned) (by rw [finishRequest_ls]; rfl) (by rw [finishRequest_ls]; rfl)
      exact ⟨_, hexec, hresolves, hreserved, hls, hkept, hstation⟩
    case fails =>
      have hreturned : postReturned a p o (popOldest s) =
          failedAttempt a p true (applyOutcomeToFailures o a (outcomeWritten p q o rest s)) := by
        simp only [postReturned, writeOutcome_popOldest hold.1 hq]
        rcases hfailed with rfl | rfl | rfl | rfl <;> rfl
      obtain ⟨hcounted, hat, hls⟩ := hchanged.applyOutcome (by rfl) hconfig (by tauto) hspoken
      obtain ⟨hattempt, hls', hreserved, hkept, hstation⟩ := hcounted.fails (c := c) (counted := true) (next := q.nextFrame)
        (waits := q.waits) (by rfl) hat hconfig ha hcount (by rcases hfailed with rfl | rfl | rfl | rfl <;> decide)
      have hexec := exec_awaited hold harrives hfit (happly.trans hreturned) (by rw [failedAttempt_ls, hls]; rfl)
        (by rw [failedAttempt_ls, hls]; rfl)
      exact ⟨_, hexec, hattempt, hreserved, hls'.trans hls, hkept, hstation⟩
    case silences =>
      subst hnone
      have hreturned : postReturned a p .noMatch (popOldest s) =
          failedAttempt a p true (countFailure a (outcomeWritten p q .noMatch rest s)) := by
        simp only [postReturned, writeOutcome_popOldest hold.1 hq]
        rfl
      obtain ⟨hattempt, hls, hkept⟩ := hchanged.silences (by rfl) (by rfl) hconfig ha hcount hsilent
      have hexec := exec_awaited hold harrives hfit (happly.trans hreturned) (by rw [failedAttempt_ls, countFailure_ls]; rfl)
        (by rw [failedAttempt_ls, countFailure_ls]; rfl)
      exact ⟨_, hexec, hattempt, hls, hkept⟩

end

/-! ## The item in a turn's place (R83 to R88) -/

namespace Sys2Proof.Machine

set_option Elab.async false

/-- The turn item of an EXCH entry goes to its request (R38). -/
theorem applyFit_turn {s : State} {e : TransitEntry} {p : PoolIx} {q : PoolEntry} {a : Addr} (hserves : ServesStation s e p q a) (t : TurnItem) :
    applyFit e (.turn t) s = turnReturned a p t (popOldest s) := by
  obtain ⟨hpool, hq, ha⟩ := hserves
  simp only [applyFit, withStationRequest_eq (s := popOldest s) hpool hq ha]

theorem waitsField_of_exchange {q : PoolEntry} (h : q.kind = .exchange) : waitsField q = q.waits := if_pos h

/-- The head frame of the request came back TAKEN or REPEAT (R80). -/
def acceptedBefore (q : PoolEntry) : Prop := q.lastOutcome = some .taken ∨ q.lastOutcome = some .repeated

theorem turnReturned_of_accepted {u : State} {p : PoolIx} {q : PoolEntry} (hq : entry u p = some q) (h : acceptedBefore q) (a : Addr)
    (t : TurnItem) : turnReturned a p t u = turnAfterAccepted a p q t (clearFailures a u) := by
  rcases h with h | h <;> simp only [turnReturned, hq, h]

/-- After any other outcome the turn item ends a failed attempt (R88). -/
theorem turnReturned_of_failed {u : State} {p : PoolIx} {q : PoolEntry} {o : LastOutcome} (hq : entry u p = some q)
    (h : q.lastOutcome = some o) (ho : o ≠ .taken ∧ o ≠ .repeated) (a : Addr) (t : TurnItem) :
    turnReturned a p t u = failedAttempt a p true (applyOutcomeToFailures o a u) := by
  simp only [turnReturned, hq, h]
  split
  · rename_i heq
    cases heq
    exact absurd rfl ho.1
  · rename_i heq
    cases heq
    exact absurd rfl ho.2
  · rename_i heq
    cases heq
    rfl
  · rename_i heq
    cases heq

theorem RequestChanged.clearFailures {s u : State} {a : Addr} {p : PoolIx} {q : PoolEntry} (h : RequestChanged s u a p q)
    (hat : station u a = station s a) :
    RequestChanged s (clearFailures a u) a p q ∧ station (Machine.clearFailures a u) a = { station s a with failures := 0 } := by
  refine ⟨h.putStation _, ?_⟩
  rw [Machine.clearFailures, station_putStation_same, hat]

/-- A RESPONSE is invalid by its source, its toggle or its length (R83). -/
theorem responseValid_eq_false {q : PoolEntry} {source : Octet} {toggle : Toggle} {payload : List Octet}
    (h : source ≠ q.address ∨ q.toggleUsed ≠ some toggle ∨ payload = []) : responseValid q source toggle payload = false := by
  rcases h with h | h | h <;> simp [responseValid, h]

/-- A request whose response failed: the next frame asks for it again (R83). -/
def askingAgain (o : LastOutcome) (waits : Nat) (q : PoolEntry) : PoolEntry :=
  { q with waits := waits, lastOutcome := some o, nextFrame := some .fetch }

theorem badResponse_eq {u : State} {p : PoolIx} {q : PoolEntry} (hq : entry u p = some q) (a : Addr) (o : LastOutcome) :
    badResponse a p o u = failedAttempt a p true (putEntry p (some (askingAgain o q.waits q)) u) := by
  rw [badResponse, modEntry_of_entry hq]
  rfl

/-- A TURN returned unchanged: the wait is counted, and the wait limit decides (R87, R94). -/
theorem notReady_eq {u : State} {p : PoolIx} {q : PoolEntry} {c : Configuration} (hq : entry u p = some q) (hconfig : u.hp.config = some c)
    (a : Addr) :
    notReady a p u =
      if c.waitLimit < q.waits + 1 then
        finishRequest p (if q.expiryMark then .timeout else .noResponse) 0 0 .useReserved
          (putEntry p (some (askingAgain .notReady (q.waits + 1) q)) u)
      else failedAttempt a p false (putEntry p (some (askingAgain .notReady (q.waits + 1) q)) u) := by
  have hwritten : modEntry p (fun e => { e with waits := e.waits + 1, lastOutcome := some .notReady, nextFrame := some .fetch }) u =
      putEntry p (some (askingAgain .notReady (q.waits + 1) q)) u := modEntry_of_entry hq _
  simp only [notReady, hwritten, entry_putEntry_same]
  rw [configured_of_some (by exact hconfig)]
  rfl

end Sys2Proof.Machine

/-! ## Failed attempts of an EXCHANGE (R83, R87 to R91, R94) -/

section

set_option Elab.async false

open Sys2Proof.Machine

/-- Settles O45: each turn item leads to a failed attempt (`RequestChanged.fails`), but for the NOT-READY beyond the wait limit and the
NONE that silences the station. -/
theorem failedAttemptsOfExchanges : Obligations.FailedAttemptsOfExchanges := by
  unfold Obligations.FailedAttemptsOfExchanges
  intro s e rest p q a c turn hold hserves helement hprogress hkind hcount hconfig harrives hturn
  obtain ⟨hpool, hq, ha⟩ := id hserves
  obtain ⟨item, hitem⟩ := (isTurnItem_iff turn).mp hturn
  have hfit := awaitsTurn_fits (s := s) helement hprogress hitem
  have happly := applyFit_turn hserves item
  have hpopped := RequestChanged.popOldest hq a
  have hls : (popOldest s).ls = { s.ls with transit := rest } := by rw [popOldest_transit hold.1]
  obtain ⟨hcleared, hclearedAt⟩ := hpopped.clearFailures rfl
  have hexec {u : Sys2Proof.Machine.State} (hu : turnReturned a p item (popOldest s) = u) (huls : u.ls = (popOldest s).ls) :
      exec turn s = .next (settleBus s.hp.queue.length u) :=
    exec_awaited hold harrives hfit (happly.trans hu) (by rw [huls, hls]) (by rw [huls, hls])
  refine ⟨fun o next attempts waits hcase => ?fails, fun hnone hsilent => ?silences⟩
  case fails =>
    rcases hcase with ⟨haccepted, hbad, rfl, rfl, rfl⟩ | ⟨hlast, ho, rfl, rfl, rfl⟩ | ⟨haccepted, ⟨x, rfl⟩, rfl, rfl, rfl, rfl⟩
    · have hreturned : turnReturned a p item (popOldest s) =
          failedAttempt a p true (putEntry p (some (askingAgain o q.waits q)) (clearFailures a (popOldest s))) := by
        rw [turnReturned_of_accepted hpopped.1 haccepted]
        rcases hbad with ⟨⟨x, rfl⟩ | ⟨k, x, rfl⟩, rfl⟩ | ⟨⟨source, toggle, payload, x, rfl, hinvalid⟩, rfl⟩
        · cases hitem
          exact badResponse_eq hcleared.1 a _
        · cases hitem
          exact badResponse_eq hcleared.1 a _
        · cases hitem
          simp only [turnAfterAccepted, responseValid_eq_false hinvalid, Bool.false_eq_true, if_false]
          exact badResponse_eq hcleared.1 a _
      have hwhy : o = .responseDamaged ∨ o = .responseInvalid := hbad.imp And.right And.right
      obtain ⟨hattempt, hls', hreserved, hkept, hstation⟩ := (hcleared.putEntry (askingAgain o q.waits q)).fails (c := c) (counted := true)
        (by rfl) hclearedAt hconfig ha hcount (by rcases hwhy with rfl | rfl <;> decide)
      refine ⟨_, hexec hreturned (by rw [failedAttempt_ls]; rfl), hls'.trans hls, hreserved, hkept, ?_, fun _ => hattempt, fun hno => ?_⟩
      · rw [hstation]
        rcases hwhy with rfl | rfl <;> rfl
      · rcases hwhy with rfl | rfl <;> cases hno
    · have hspoken : ¬(o = .noMatch ∧ reachesSilence s c a) := fun h => by
        rcases ho with rfl | rfl | rfl | ⟨rfl, hspoken⟩
        · cases h.1
        · cases h.1
        · cases h.1
        · exact hspoken h.2
      have hreturned := turnReturned_of_failed hpopped.1 hlast (by rcases ho with rfl | rfl | rfl | ⟨rfl, -⟩ <;> decide) a item
      obtain ⟨hcounted, hat, hls'⟩ := hpopped.applyOutcome (by rfl) hconfig (by tauto) hspoken
      obtain ⟨hattempt, hls'', hreserved, hkept, hstation⟩ := hcounted.fails (c := c) (counted := true) (o := o) (next := q.nextFrame)
        (waits := q.waits) (by rw [← hlast]) hat hconfig ha hcount (by rcases ho with rfl | rfl | rfl | ⟨rfl, -⟩ <;> decide)
      refine ⟨_, hexec hreturned (by rw [failedAttempt_ls, hls']), (hls''.trans hls').trans hls, hreserved, hkept, hstation,
        fun _ => hattempt, fun hno => ?_⟩
      rcases ho with rfl | rfl | rfl | ⟨rfl, -⟩ <;> cases hno
    · cases hitem
      have hreturned := (turnReturned_of_accepted hpopped.1 haccepted a .unchanged).trans
        (notReady_eq hcleared.1 (c := c) (by exact hconfig) a)
      have hasking := hcleared.putEntry (askingAgain .notReady (q.waits + 1) q)
      by_cases hlimit : c.waitLimit < q.waits + 1
      · rw [if_pos hlimit] at hreturned
        obtain ⟨hresolves, hreserved, hls', hkept, hstation⟩ := hasking.ends (q := q) rfl rfl ha hcount
          (if q.expiryMark then .timeout else .noResponse) 0
        have hat : station (putEntry p (some (askingAgain .notReady (q.waits + 1) q)) (clearFailures a (popOldest s))) a =
            { station s a with failures := 0 } := hclearedAt
        rw [waitsField_of_exchange (q := askingAgain .notReady (q.waits + 1) q) hkind] at hresolves
        rw [hat] at hstation hresolves
        exact ⟨_, hexec hreturned (by rw [finishRequest_ls]; rfl), hls'.trans hls, hreserved, hkept, by rw [hstation]; rfl,
          fun hno => absurd ⟨rfl, hlimit⟩ hno, fun _ _ => ⟨hresolves, by rw [hstation]; rfl⟩⟩
      · rw [if_neg hlimit] at hreturned
        obtain ⟨hattempt, hls', hreserved, hkept, hstation⟩ := hasking.fails (c := c) (counted := false) (by rfl) hclearedAt hconfig ha
          hcount (by decide)
        exact ⟨_, hexec hreturned (by rw [failedAttempt_ls]; rfl), hls'.trans hls, hreserved, hkept, hstation, fun _ => hattempt,
          fun _ h => absurd h hlimit⟩
  case silences =>
    have hreturned := turnReturned_of_failed hpopped.1 hnone (by decide) a item
    obtain ⟨hattempt, hls', hkept⟩ := hpopped.silences (by rw [← hnone]) (by rfl) hconfig ha hcount hsilent
    exact ⟨_, hexec hreturned (by rw [failedAttempt_ls]; exact countFailure_ls ..), hattempt, hls'.trans hls, hkept⟩

end

/-! ## A valid RESPONSE (R83 to R86) -/

namespace Sys2Proof.Machine

set_option Elab.async false

/-- The station after a valid response: its command toggle flipped, its failure count 0 (R51, R52). -/
def afterSuccess (x : Station) : Station := { x with commandToggle := !x.commandToggle, failures := 0 }

/-- The oldest entry has left with a valid response of `n` octets, whose write or end is still to come (R83, R84). -/
def responseTaken (a : Addr) (p : PoolIx) (q : PoolEntry) (n : Nat) (s : State) : State :=
  putEntry p (some { q with response := some n }) (flipCommandToggle a (clearFailures a (clearFailures a (popOldest s))))

theorem responseTaken_changed {s : State} {p : PoolIx} {q : PoolEntry} (hq : entry s p = some q) (a : Addr) (n : Nat) :
    RequestChanged s (responseTaken a p q n s) a p { q with response := some n } ∧
    station (responseTaken a p q n s) a = afterSuccess (station s a) := by
  refine ⟨((((RequestChanged.popOldest hq a).putStation _).putStation _).putStation _).putEntry _, ?_⟩
  refine (station_putStation_same a _ _).trans ?_
  rw [clearFailures, station_putStation_same, clearFailures, station_putStation_same]
  rfl

/-- A valid RESPONSE after TAKEN or REPEAT (R84 to R86). -/
theorem turnReturned_of_valid {s : State} {p : PoolIx} {q : PoolEntry} (hq : entry s p = some q) (haccepted : acceptedBefore q)
    (a : Addr) {toggle : Toggle} {payload : List Octet} (htoggle : q.toggleUsed = some toggle) (hpayload : 1 ≤ payload.length) :
    turnReturned a p (.response q.address toggle payload) (popOldest s) =
      if q.responseCapacity = 0 then finishRequest p .truncated payload.length 0 .useReserved (responseTaken a p q payload.length s)
      else if s.hp.engine = .faulted then finishRequest p .hostFault payload.length 0 .useReserved (responseTaken a p q payload.length s)
      else requestAccess (writeAccess (.response p) q.responseAddress (payload.take q.responseCapacity))
        (responseTaken a p q payload.length s) := by
  have hvalid : responseValid q q.address toggle payload = true := by simp [responseValid, htoggle, hpayload]
  have hwritten : modEntry p (fun e => { e with response := some payload.length })
      (flipCommandToggle a (clearFailures a (clearFailures a (popOldest s)))) = responseTaken a p q payload.length s :=
    modEntry_of_entry (by exact hq) _
  have hentry := (responseTaken_changed hq a payload.length).1.1
  have hempty : (payload.take q.responseCapacity).isEmpty = true ↔ q.responseCapacity = 0 := by
    rw [List.isEmpty_iff, List.take_eq_nil_iff]
    exact or_iff_left fun h => by rw [h] at hpayload; exact absurd hpayload (by decide)
  rw [turnReturned_of_accepted (u := popOldest s) hq haccepted]
  simp only [turnAfterAccepted, hvalid, if_true, validResponse, hwritten, hentry, hempty]
  by_cases hnone : q.responseCapacity = 0
  · simp only [hnone, if_true, successStatus]
    rw [if_neg (by omega)]
  · simp only [hnone, if_false]
    rfl

end Sys2Proof.Machine

section

set_option Elab.async false

open Sys2Proof.Machine

/-- Settles O43: the response is taken (`responseTaken`); its write is asked for, or the request ends at once. -/
theorem validResponseCompletesTheExchange : Obligations.ValidResponseCompletesTheExchange := by
  unfold Obligations.ValidResponseCompletesTheExchange
  intro s e rest p q a payload toggle span hold hserves helement hprogress haccepted hkind hcount hpayload htoggle harrives
  obtain ⟨-, hq, ha⟩ := id hserves
  have hfit := awaitsTurn_fits (s := s) helement hprogress (show turnItemOf (.responseReturn q.address toggle payload span) = _ from rfl)
  have happly := applyFit_turn hserves (.response q.address toggle payload)
  rw [turnReturned_of_valid hq haccepted a htoggle hpayload] at happly
  obtain ⟨hchanged, hstation⟩ := responseTaken_changed hq a payload.length
  have hls : (responseTaken a p q payload.length s).ls = { s.ls with transit := rest } :=
    congrArg State.ls (popOldest_transit hold.1)
  refine ⟨fun hroom hengine => ?written, fun status hcase => ?ends⟩
  case written =>
    rw [if_neg (by omega), if_neg hengine] at happly
    have hexec := exec_awaited hold harrives hfit happly (congrArg LoopSequencer.state hls :)
      (congrArg LoopSequencer.transit hls :)
    obtain ⟨-, hpool, -, hstations⟩ := hchanged
    obtain ⟨bus, queue, hsettled, hacc⟩ := settleBus_eq (n := s.hp.queue.length)
      (s := requestAccess (writeAccess (.response p) q.responseAddress (payload.take q.responseCapacity))
        (responseTaken a p q payload.length s)) (by simp [requestAccess, responseTaken, popOldest])
    rw [hsettled] at hexec
    refine ⟨_, hexec, entry_putEntry_same p _ _, hpool, hstations, hstation, ?_, hacc.trans ?_⟩
    · rw [responseTaken, popOldest_transit hold.1]
      rfl
    · rw [accesses_requestAccess, writeAccess, List.length_take]
      rfl
  case ends =>
    have hreturned : applyFit e (.turn (.response q.address toggle payload)) s =
        finishRequest p status payload.length 0 .useReserved (responseTaken a p q payload.length s) := by
      rcases hcase with ⟨hnone, rfl⟩ | ⟨hroom, hfaulted, -, rfl⟩
      · rw [happly, if_pos hnone]
      · rw [happly, if_neg (by omega), if_pos hfaulted]
    have hexec := exec_awaited hold harrives hfit hreturned (by rw [finishRequest_ls, hls]) (by rw [finishRequest_ls, hls])
    obtain ⟨hresolves, hreserved, hls', hkept, hat⟩ := hchanged.ends (q := q) rfl rfl ha hcount status payload.length
    rw [hstation] at hresolves hat
    rw [waitsField_of_exchange (q := { q with response := some payload.length }) hkind] at hresolves
    exact ⟨_, hexec, hresolves, hreserved, hls'.trans hls, hkept, hat⟩

end

/-! ## Roll calls that fail (R40, R57, R122) -/

namespace Sys2Proof.Machine

set_option Elab.async false

theorem stationAt_eq_some {n : Nat} {a : Addr} : stationAt n = some a ↔ n = a.val + 1 := by
  have ha := a.isLt
  unfold stationAt
  split
  · simp only [Option.some.injEq, Fin.ext_iff]
    omega
  · simp only [reduceCtorEq, false_iff]
    omega

theorem stationAt_eq_none {n : Nat} : stationAt n = none ↔ n = 0 ∨ 32 < n := by
  unfold stationAt
  split
  · simp only [reduceCtorEq, false_iff]
    omega
  · simp only [true_iff]
    omega

theorem rollOf_cons (x : CallEntry) (rest : List CallEntry) :
    rollOf (x :: rest) = (stationAt x.address.toNat).bind (fun a => (rollOf rest).map (fun roll => (a, x.join) :: roll)) := by
  unfold rollOf
  rw [List.mapM_cons]
  cases stationAt x.address.toNat <;> simp [bind, pure, Option.map_eq_bind]

/-- An accepted list names a station in each entry (R57). -/
theorem rollOf_of_accepted {entries : List CallEntry} (h : rollAccepted entries) :
    ∃ roll, rollOf entries = some roll ∧
      entries.map (fun x => (x.address.toNat, x.join)) = roll.map (fun r => (r.1.val + 1, r.2)) := by
  induction entries with
  | nil => exact ⟨[], rfl, rfl⟩
  | cons x rest ih =>
    obtain ⟨roll, hroll, hmap⟩ := ih fun y hy => h y (List.mem_cons_of_mem x hy)
    obtain ⟨hlow, hhigh⟩ := h x List.mem_cons_self
    obtain ⟨a, ha⟩ : ∃ a : Addr, x.address.toNat = a.val + 1 := ⟨⟨x.address.toNat - 1, by omega⟩, by simp; omega⟩
    refine ⟨(a, x.join) :: roll, ?_, ?_⟩
    · rw [rollOf_cons, stationAt_eq_some.mpr ha, hroll]
      rfl
    · rw [List.map_cons, List.map_cons, hmap, ha]

theorem rollOf_of_rejected {entries : List CallEntry} (h : ¬rollAccepted entries) : rollOf entries = none := by
  induction entries with
  | nil => exact absurd (fun _ hx => nomatch hx) h
  | cons x rest ih =>
    rw [rollOf_cons]
    cases hx : stationAt x.address.toNat with
    | none => rfl
    | some a =>
      have hrest : ¬rollAccepted rest := fun hrest => h fun y hy => by
        rcases List.mem_cons.mp hy with rfl | hy
        · have := stationAt_eq_some.mp hx
          omega
        · exact hrest y hy
      rw [ih hrest]
      rfl

/-- A CALL that comes back damaged or rejected in OPEN or DRAINING is discarded (R40, R57). -/
theorem applyFit_of_failsRollCall {s : State} {e : TransitEntry} {cmd : Instr} (hcall : e.element = .call) (h : failsRollCall cmd)
    (hstate : s.ls.state ≠ .calling) : ∃ fit, fitFor s e cmd = some fit ∧ applyFit e fit s = discardCall e s := by
  rcases h with ⟨kind, span, rfl⟩ | ⟨entries, span, rfl, hrejected⟩
  · refine ⟨.damagedCall, by simp only [fitFor, deliveryOf, Option.bind_some, fitOf, hcall, callFit], ?_⟩
    simp only [applyFit, if_neg hstate]
  · refine ⟨.callMarker entries, by simp only [fitFor, deliveryOf, Option.bind_some, fitOf, hcall, callFit], ?_⟩
    simp only [applyFit, if_neg hstate, callReturned, rollOf_of_rejected hrejected]

end Sys2Proof.Machine

section

set_option Elab.async false

open Sys2Proof.Machine

/-- Settles O50: the CALL is discarded and stays due; a CALL-NOW it served is READY again. -/
theorem damagedRollCallStaysDue : Obligations.DamagedRollCallStaysDue := by
  unfold Obligations.DamagedRollCallStaysDue
  intro s e rest cmd hopened htransit hcall harrives hfails
  obtain ⟨fit, hfit, happly⟩ := applyFit_of_failsRollCall (s := s) hcall hfails (by rw [hopened]; decide)
  have hexec {u : Sys2Proof.Machine.State} (hu : discardCall e s = u) (hls : u.ls.state = s.ls.state) (htr : u.ls.transit = rest) :
      exec cmd s = .next (settleBus s.hp.queue.length u) :=
    exec_awaited ⟨htransit, .inl hopened⟩ harrives hfit (happly.trans hu) hls htr
  refine ⟨fun hdemand => ?timer, fun p q hdemand hhead hkind => ?demanded⟩
  case timer =>
    have hdiscarded : discardCall e s =
        { s with ls := { s.ls with transit := rest }, sc := { s.sc with callDue := true } } := by
      simp only [discardCall, popOldest_transit htransit, hdemand, Bool.false_eq_true, if_false]
    obtain ⟨bus, queue, hsettled, hacc⟩ := settleBus_eq (n := s.hp.queue.length)
      (s := { s with ls := { s.ls with transit := rest }, sc := { s.sc with callDue := true } }) (Nat.le_succ _)
    exact ⟨_, (hexec hdiscarded rfl rfl).trans (congrArg _ hsettled), hacc, rfl⟩
  case demanded =>
    have hhead' : headEntry { s with ls := { s.ls with transit := rest }, sc := { s.sc with callDue := true } } .control = some (p, q) :=
      headEntry_of_isHead (by exact hhead)
    have hdiscarded : discardCall e s = giveBackSlots e.slots (putEntry p (some { q with phase := .ready })
        { s with ls := { s.ls with transit := rest }, sc := { s.sc with callDue := true } }) := by
      simp only [discardCall, popOldest_transit htransit, hdemand, if_true, hhead', hkind]
    obtain ⟨bus, queue, hsettled, hacc⟩ := settleBus_eq (n := s.hp.queue.length)
      (s := giveBackSlots e.slots (putEntry p (some { q with phase := .ready })
        { s with ls := { s.ls with transit := rest }, sc := { s.sc with callDue := true } })) (Nat.le_succ _)
    exact ⟨_, (hexec hdiscarded rfl rfl).trans (congrArg _ hsettled), entry_putEntry_same p _ _,
      poolKeptBut_putEntry p _ { s with ls := _, sc := _ }, hacc, rfl⟩

end

/-! ## The end of a sweep (R113, R115, R116) -/

namespace Sys2Proof.Machine

set_option Elab.async false

/-- An ack entry after a sweep that closed intact or not (R115, R116). -/
def settledAck (intact : Bool) (x : AckEntry) : Option AckEntry := if x.carried && intact then none else some { x with carried := false }

/-- The oldest entry, a SWEEP, has left: its ack set is settled, its record emptied, and its slots but `kept` are given back (R115,
R116). -/
def sweepClosed (intact : Bool) (e : TransitEntry) (kept : Nat) (rest : List TransitEntry) (s : State) : State :=
  { s with ls := { s.ls with transit := rest }
           ru := { s.ru with acks := tabulate (fun a => s.ru.acks[a].bind (settledAck intact)), sweep := none }
           cu := { s.cu with reserved := s.cu.reserved - (e.slots - kept) } }

/-- A SWEEP-NOW waits for the reports its sweep accepted (R113). -/
def sweepNowWaits (intact : Bool) (w : SweepRecord) (s : State) : State :=
  { s with
    ru := { s.ru with
      decision := some { status := if intact then .ok else .loopFault, count := w.accepted, after := s.ru.reports.length } } }

theorem endSweep_eq {s : State} {e : TransitEntry} {rest : List TransitEntry} {w : SweepRecord} (htransit : s.ls.transit = e :: rest)
    (hsweep : s.ru.sweep = some w) (intact : Bool) :
    endSweep intact e (popOldest s) =
      if e.demand = true then
        if w.accepted = 0 ∨ s.ru.reports = [] then
          finishSweepNow (if intact then .ok else .loopFault) w.accepted (sweepClosed intact e 1 rest s)
        else sweepNowWaits intact w (sweepClosed intact e 1 rest s)
      else sweepClosed intact e 0 rest s := by
  have haccepted : ((popOldest s).ru.sweep.map (fun x => x.accepted)).getD 0 = w.accepted := by
    rw [show (popOldest s).ru.sweep = some w from hsweep]
    rfl
  rw [popOldest_transit htransit] at haccepted ⊢
  cases hdemand : e.demand with
  | false =>
    simp only [endSweep, haccepted, hdemand, Bool.false_eq_true, if_false]
    rfl
  | true =>
    have hnow : (decide (w.accepted = 0) || s.ru.reports.isEmpty) = true ↔ w.accepted = 0 ∨ s.ru.reports = [] := by
      rw [Bool.or_eq_true, decide_eq_true_eq, List.isEmpty_iff]
    simp only [endSweep, haccepted, hdemand, if_true]
    exact if_congr hnow rfl rfl

theorem sweepMarker_fits {s : State} {e : TransitEntry} {cmd : Instr} {intact : Bool} (hsweep : e.element = .sweep)
    (h : (∃ budget acks span, cmd = .sweepMarkerReturn budget acks span) ∨ (∃ k span, cmd = .damagedMarker k span))
    (hintact : intact = true ↔ ∃ budget span, cmd = .sweepMarkerReturn budget e.acks span) :
    ∃ fit, fitFor s e cmd = some fit ∧ applyFit e fit s = endSweep intact e (popOldest s) := by
  rcases h with ⟨budget, acks, span, rfl⟩ | ⟨k, span, rfl⟩
  · have hsame : (acks == e.acks) = intact := by
      rw [Bool.eq_iff_iff, beq_iff_eq, hintact]
      constructor
      · rintro rfl
        exact ⟨budget, span, rfl⟩
      · rintro ⟨_, _, heq⟩
        cases heq
        rfl
    exact ⟨.sweepMarker acks, by simp only [fitFor, deliveryOf, Option.bind_some, fitOf, hsweep, sweepFit], by
      simp only [applyFit, sweepReturned, hsame]⟩
  · have hdamaged : intact = false := by
      refine Bool.eq_false_of_not_eq_true fun h => ?_
      obtain ⟨_, _, heq⟩ := hintact.mp h
      cases heq
    exact ⟨.damagedSweep, by simp only [fitFor, deliveryOf, Option.bind_some, fitOf, hsweep, sweepFit], by
      simp only [applyFit, hdamaged]⟩

end Sys2Proof.Machine

section

set_option Elab.async false

open Sys2Proof.Machine

/-- Settles O47: the sweep closes (`sweepClosed`), and a SWEEP-NOW it served completes at once or waits for the reports. -/
theorem sweepMarkerClosesTheSweep : Obligations.SweepMarkerClosesTheSweep := by
  unfold Obligations.SweepMarkerClosesTheSweep
  intro s e rest w cmd hold hsweep hw harrives hcmd intact hintact
  obtain ⟨fit, hfit, happly⟩ := sweepMarker_fits (s := s) hsweep hcmd hintact
  rw [endSweep_eq hold.1 hw] at happly
  have hacks (a : Sys2Proof.Addr) (kept : Nat) : (sweepClosed intact e kept rest s).ru.acks[a] =
      (match s.ru.acks[a] with
       | some x => if x.carried = true ∧ intact = true then none else some { x with carried := false }
       | none => none) := by
    refine (getElem_tabulate _ a).trans ?_
    cases s.ru.acks[a] with
    | none => rfl
    | some x => simp only [Option.bind_some, settledAck, Bool.and_eq_true]
  have hkept : ∃ kept, ReportsOnly (sweepClosed intact e kept rest s) (applyFit e fit s) := by
    rw [happly]
    split
    · split
      · exact ⟨1, reportsOnly_finishSweepNow ..⟩
      · exact ⟨1, rfl, rfl, rfl, rfl, ⟨rfl, rfl⟩, .refl (sweepClosed intact e 1 rest s), rfl, rfl⟩
    · exact ⟨0, rfl, rfl, rfl, rfl, ⟨rfl, rfl⟩, .refl (sweepClosed intact e 0 rest s), rfl, rfl⟩
  obtain ⟨kept, hst, hls, hri, hhost, ⟨htx, hrx⟩, hout, hru, -⟩ := hkept
  have hexec := exec_awaited hold harrives hfit rfl (by rw [hls]; rfl) (by rw [hls]; rfl)
  refine ⟨_, hexec, fun a => ?_, ?_, ?_, ?_, ?_, ?_, ?_, ?_, fun hdemand => ?timer, fun p q hdemand hnow hhead hkind hslots => ?atOnce,
    fun hdemand haccepted hreports => ?waits⟩
  · rw [settleBus_ru, hru]
    exact hacks a kept
  · rw [settleBus_ru, hru]
    rfl
  · rw [settleBus_ls]
    exact hls
  · rw [settleBus_st]
    exact hst
  · rw [settleBus_ri]
    exact hri
  · exact (show HostKept s (sweepClosed intact e kept rest s) from rfl).trans (hhost.trans (hostKept_settleBus ..))
  · exact ⟨(settleBus_tx ..).trans htx, (settleBus_rx ..).trans hrx⟩
  · exact hout.trans ⟨settleBus_clock .., settleBus_lineIn .., settleBus_pinsIn .., settleBus_pending ..⟩
  case timer =>
    obtain ⟨bus, queue, hsettled, hacc⟩ := settleBus_eq (n := s.hp.queue.length) (s := sweepClosed intact e 0 rest s) (Nat.le_succ _)
    rw [happly, if_neg (by rw [hdemand]; exact Bool.false_ne_true), hsettled]
    exact ⟨hacc, rfl, rfl⟩
  case atOnce =>
    have hclosed : IsHead (sweepClosed intact e 1 rest s) .control p q := hhead
    have hlist : listFor q.kind q.address = .control := by rw [hkind]; rfl
    rw [happly, if_pos hdemand, if_pos hnow, finishSweepNow_of_isHead hclosed hkind]
    have hresolves := finishRequest_settled (s := { s with ru := (sweepClosed intact e 1 rest s).ru }) (e := q)
      (n := s.hp.queue.length) hclosed.2 rfl rfl rfl ⟨fun _ => rfl, fun _ _ => rfl⟩ rfl rfl rfl rfl ⟨rfl, rfl⟩ (.refl s)
      (le_refl _) (if intact then .ok else .loopFault) 0 w.accepted .useReserved
    rw [doneRecord_eq_controlRecord hlist (by rw [hkind]; decide)] at hresolves
    refine ⟨?_, ?_, ?_⟩
    · rw [settleBus_ru, finishRequest_ru]
      exact hresolves
    · rw [settleBus_cu, reserved_finishRequest hclosed.2]
      change s.cu.reserved - (e.slots - 1) - 1 = s.cu.reserved - e.slots
      omega
    · rw [settleBus_ru, finishRequest_ru]
      rfl
  case waits =>
    obtain ⟨bus, queue, hsettled, hacc⟩ := settleBus_eq (n := s.hp.queue.length)
      (s := sweepNowWaits intact w (sweepClosed intact e 1 rest s)) (Nat.le_succ _)
    rw [happly, if_pos hdemand, if_neg (not_or.mpr ⟨haccepted, hreports⟩), hsettled]
    exact ⟨hacc, rfl, rfl⟩

end

/-! ## The judging of a REPORT (R108 to R112, R114) -/

namespace Sys2Proof.Machine

set_option Elab.async false

/-- The test for a descriptor read asks for one read or for none (R101). -/
theorem testDescriptorRead_eq {s : State} {c : Configuration} (hconfig : s.hp.config = some c) :
    ∃ reading asked, testDescriptorRead s =
        { s with hp := { s.hp with queue := s.hp.queue ++ asked }, ru := { s.ru with reading := reading } } ∧
      (asksDescriptor s → reading = true ∧ asked = [descriptorReadAt c s.ru.head]) ∧
      (¬asksDescriptor s → reading = s.ru.reading ∧ asked = []) := by
  by_cases h : asksDescriptor s
  · exact ⟨true, [descriptorReadAt c s.ru.head], testDescriptorRead_of_asks hconfig h, fun _ => ⟨rfl, rfl⟩, fun hn => absurd h hn⟩
  · refine ⟨s.ru.reading, [], ?_, fun hy => absurd hy h, fun _ => ⟨rfl, rfl⟩⟩
    rw [testDescriptorRead_of_not_asks h, List.append_nil]

/-- A step that asked for accesses behind those there were ends with them behind all, in some order (R195). -/
theorem settleBus_asked {n : Nat} {s : State} {before asked : List Access} (hqueue : s.hp.queue = before ++ asked) (hn : before.length = n) :
    ∃ bus queue k, settleBus n s = { withSequencer bus queue s with choices := k } ∧
      ∃ made : List Access, made.Perm asked ∧
        accesses (settleBus n s) = (s.hp.bus.map (fun b => b.access)).toList ++ before ++ made := by
  obtain ⟨bus, queue, k, hsettled, made, hmade, hacc⟩ := settleBus_moves n s
  rw [hqueue, ← hn, List.drop_left] at hmade
  rw [hqueue, ← hn, List.take_left, hn] at hacc
  exact ⟨bus, queue, k, hsettled, made, hmade, hacc⟩

theorem perm_eq_of_length_le_one {α : Type} {xs ys : List α} (h : xs.Perm ys) (hlength : ys.length ≤ 1) : xs = ys := by
  match ys, hlength with
  | [], _ => exact h.eq_nil
  | [_], _ => exact List.perm_singleton.mp h

/-- The state with the report item counted (R108). -/
def reportCounted (w : SweepRecord) (s : State) : State :=
  { s with ru := { s.ru with sweep := some { w with items := w.items + 1 } } }

theorem countReportItem_eq {s : State} {w : SweepRecord} (h : s.ru.sweep = some w) : countReportItem s = reportCounted w s := by
  rw [countReportItem, h]
  rfl

/-- The sweep record with an acceptance counted (R108, R110). -/
def acceptanceCounted (w : SweepRecord) : SweepRecord :=
  { w with items := w.items + 1, reserved := w.reserved - 1, accepted := w.accepted + 1 }

/-- What an acceptance does at once: the descriptor is taken, report toggle and ack entry are set, the acceptance is counted and
takes a slot of its sweep (R110); its report joins those that pend, of which `reports` are left with a write under way or not, and
`records` have entered, and `asked` was asked for (R111, R112). -/
def reportAccepted (a : Addr) (toggle : Toggle) (w : SweepRecord) (e : TransitEntry) (rest : List TransitEntry) (cache : List Descriptor)
    (reports : List PendingReport) (writing : Bool) (asked : List Access) (records : List CompletionRecord) (s : State) : State :=
  { s with
    hp := { s.hp with queue := s.hp.queue ++ asked }
    st := (putStation a { station s a with reportToggle := some toggle } s).st
    ls := { s.ls with transit := { e with slots := e.slots - 1 } :: rest }
    ru := { s.ru with
      cache := cache, acks := s.ru.acks.set a.val (some { toggle := toggle, carried := false }) a.isLt
      sweep := some (acceptanceCounted w), reports := reports, writing := writing }
    cu := { s.cu with queue := s.cu.queue ++ records, reserved := s.cu.reserved - records.length } }

/-- An accepted report joins those that pend, and the oldest of them goes on where no write is under way (R111). -/
theorem acceptReport_eq {s : State} {e : TransitEntry} {rest : List TransitEntry} {w : SweepRecord} {d : Descriptor}
    {cache : List Descriptor} (htransit : s.ls.transit = e :: rest) (hcache : s.ru.cache = d :: cache)
    (a : Addr) (toggle : Toggle) (payload : List Octet) :
    acceptReport a toggle payload (reportCounted w s) =
      testDescriptorRead
        (if s.ru.writing then
          reportAccepted a toggle w e rest cache (s.ru.reports ++ [{ source := a, descriptor := d, payload := payload }]) s.ru.writing [] [] s
        else pumpReports (s.ru.reports ++ [{ source := a, descriptor := d, payload := payload }])
          (reportAccepted a toggle w e rest cache (s.ru.reports ++ [{ source := a, descriptor := d, payload := payload }]) s.ru.writing []
            [] s)) := by
  have hslot : takeSweepSlot (putAck a (some { toggle := toggle, carried := false })
      (putStation a { station (reportCounted w s) a with reportToggle := some toggle } (reportCounted w s))) =
      { putAck a (some { toggle := toggle, carried := false })
          (putStation a { station (reportCounted w s) a with reportToggle := some toggle } (reportCounted w s)) with
        ls := { s.ls with transit := { e with slots := e.slots - 1 } :: rest } } := by
    simp only [takeSweepSlot, show (putAck a (some { toggle := toggle, carried := false })
      (putStation a { station (reportCounted w s) a with reportToggle := some toggle } (reportCounted w s))).ls.transit = e :: rest
      from htransit]
    rfl
  have htaken : reportAccepted a toggle w e rest cache (s.ru.reports ++ [{ source := a, descriptor := d, payload := payload }])
      s.ru.writing [] [] s =
      { s with
        st := (putStation a { station s a with reportToggle := some toggle } s).st
        ls := { s.ls with transit := { e with slots := e.slots - 1 } :: rest }
        ru := { s.ru with
          cache := cache, acks := s.ru.acks.set a.val (some { toggle := toggle, carried := false }) a.isLt
          sweep := some (acceptanceCounted w), reports := s.ru.reports ++ [{ source := a, descriptor := d, payload := payload }] } } := by
    simp only [reportAccepted, List.append_nil, List.length_nil, Nat.sub_zero]
  rw [htaken]
  simp only [acceptReport, show (reportCounted w s).ru.cache = d :: cache from hcache,
    show (reportCounted w s).ru.sweep = some { w with items := w.items + 1 } from rfl, hslot]
  rfl

/-- A report that is accepted goes on at once where none is pending (R111, R112). -/
theorem acceptReport_alone {s : State} {e : TransitEntry} {rest : List TransitEntry} {w : SweepRecord} {d : Descriptor}
    {cache : List Descriptor} (htransit : s.ls.transit = e :: rest) (hcache : s.ru.cache = d :: cache) (hwriting : s.ru.writing = false)
    (hreports : s.ru.reports = []) (a : Addr) (toggle : Toggle) (payload : List Octet) :
    let r : PendingReport := { source := a, descriptor := d, payload := payload }
    (¬nothingToWrite r → s.hp.engine ≠ .faulted → acceptReport a toggle payload (reportCounted w s) =
      testDescriptorRead (reportAccepted a toggle w e rest cache [r] true [reportWrite r] [] s)) ∧
    (nothingToWrite r ∨ s.hp.engine = .faulted → s.ru.decision = none → acceptReport a toggle payload (reportCounted w s) =
      testDescriptorRead (reportAccepted a toggle w e rest cache [] false [] [reportDone s r (statusUnwritten s.hp.engine r)] s)) := by
  have hpumped := acceptReport_eq (w := w) htransit hcache a toggle payload
  rw [hwriting, hreports, List.nil_append, if_neg Bool.false_ne_true] at hpumped
  intro r
  refine ⟨fun hsomething hengine => ?_, fun hunwritten hdecision => ?_⟩
  · have hlater : ∀ x more, [r] = x :: more → ¬nothingToWrite x := by
      rintro x more heq
      cases heq
      exact hsomething
    have hpump := pumpReports_eq (s := reportAccepted a toggle w e rest cache [r] false [] [] s) (now := []) (later := [r])
      (.inl ⟨hengine, by simp, hlater⟩)
    have hwaits : reportsWait [r] (reportAccepted a toggle w e rest cache [r] false [] [] s) =
        reportAccepted a toggle w e rest cache [r] true [reportWrite r] [] s := by
      simp only [reportsWait, reportAccepted, List.append_nil]
      rfl
    rw [hpumped]
    exact congrArg testDescriptorRead (hpump.trans hwaits)
  · have hnow : (reportAccepted a toggle w e rest cache [r] false [] [] s).hp.engine ≠ .faulted ∧ (∀ x ∈ [r], nothingToWrite x) ∧
        (∀ x more, ([] : List PendingReport) = x :: more → ¬nothingToWrite x) ∨
        (reportAccepted a toggle w e rest cache [r] false [] [] s).hp.engine = .faulted ∧ ([] : List PendingReport) = [] := by
      by_cases hengine : s.hp.engine = .faulted
      · exact .inr ⟨hengine, rfl⟩
      · refine .inl ⟨hengine, fun x hx => ?_, fun x more hx => by cases hx⟩
        rw [List.mem_singleton.mp hx]
        exact hunwritten.resolve_right hengine
    have hpump := pumpReports_eq (s := reportAccepted a toggle w e rest cache [r] false [] [] s) (now := [r]) (later := []) hnow
    have hstate : (station (reportAccepted a toggle w e rest cache [r] false [] [] s) a).state = (station s a).state := by
      change (station (putStation a { station s a with reportToggle := some toggle } s) a).state = _
      rw [station_putStation_same]
    have hdone (status : Status) : reportDone (reportAccepted a toggle w e rest cache [r] false [] [] s) r status = reportDone s r status := by
      simp only [reportDone]
      rw [hstate]
    have hwaits : reportsWait [] (enterReports [(r, statusUnwritten s.hp.engine r)] (reportAccepted a toggle w e rest cache [r] false [] [] s)) =
        reportAccepted a toggle w e rest cache [] false [] [reportDone s r (statusUnwritten s.hp.engine r)] s := by
      rw [enterReports_of_none (by exact hdecision), recordsOf, List.map_singleton, hdone]
      simp only [reportsWait, reportsEntered, reportAccepted, List.append_nil, List.take_nil, List.map_nil, List.length_nil, Nat.sub_zero,
        hdecision]
      rfl
    rw [hpumped]
    exact congrArg testDescriptorRead (hpump.trans hwaits)

/-- The step in which a report is accepted ends: what its acceptance asked for joins with the descriptor read that now has room (R101,
R110, R195). -/
theorem settled_acceptance {s : State} {c : Configuration} {a : Addr} {toggle : Toggle} {w : SweepRecord} {e : TransitEntry}
    {rest : List TransitEntry} {cache : List Descriptor} {reports : List PendingReport} {writing : Bool} {asked : List Access}
    {records : List CompletionRecord} (hconfig : s.hp.config = some c) (hasked : asked.length ≤ 1) :
    ∃ bus queue reading k, settleBus s.hp.queue.length
        (testDescriptorRead (reportAccepted a toggle w e rest cache reports writing asked records s)) =
      { withSequencer bus queue (reportAccepted a toggle w e rest cache reports writing asked records s) with
        ru := { (reportAccepted a toggle w e rest cache reports writing asked records s).ru with reading := reading }, choices := k } ∧
      let reads := s.hp.engine = .running ∧ cache.length < 8 ∧ s.ru.head ≠ s.hp.bufferTail ∧ s.ru.reading = false
      (reading = true ↔ s.ru.reading = true ∨ reads) ∧
      ∃ more : List Access, accesses (settleBus s.hp.queue.length
          (testDescriptorRead (reportAccepted a toggle w e rest cache reports writing asked records s))) = accesses s ++ more ∧
        (reads → more.Perm (asked ++ [descriptorReadAt c s.ru.head])) ∧ (¬reads → more = asked) := by
  obtain ⟨reading, read, htest, hreads, hnot⟩ := testDescriptorRead_eq (c := c)
    (s := reportAccepted a toggle w e rest cache reports writing asked records s) hconfig
  obtain ⟨bus, queue, k, hsettled, made, hmade, hacc⟩ := settleBus_asked (n := s.hp.queue.length)
    (s := testDescriptorRead (reportAccepted a toggle w e rest cache reports writing asked records s)) (before := s.hp.queue)
    (asked := asked ++ read) (by rw [htest, ← List.append_assoc]; rfl) rfl
  refine ⟨bus, queue, reading, k, hsettled.trans (by rw [htest]; rfl), ?_, made, ?_, fun h => ?_, fun h => ?_⟩
  · by_cases h : asksDescriptor (reportAccepted a toggle w e rest cache reports writing asked records s)
    · exact iff_of_true (hreads h).1 (.inr h)
    · rw [(hnot h).1]
      exact ⟨.inl, fun hr => hr.resolve_right h⟩
  · rw [hacc, htest]
    rfl
  · rw [(hreads h).2] at hmade
    exact hmade
  · rw [(hnot h).2, List.append_nil] at hmade
    exact perm_eq_of_length_le_one hmade hasked

/-! ### The tests of R108 -/

theorem report_fits {s : State} {e : TransitEntry} (hsweep : e.element = .sweep) (source : Octet) (toggle : Toggle)
    (payload : List Octet) (span : ReturnSpan) :
    fitFor s e (.reportReturn source toggle payload span) = some (.report source toggle payload) := by
  simp only [fitFor, deliveryOf, Option.bind_some, fitOf, hsweep, sweepFit]

/-- A report that fails a test of R108 is counted and discarded. -/
theorem reportReturned_of_discarded {s : State} {w : SweepRecord} {source : Octet} (hw : s.ru.sweep = some w)
    (h : w.budget < w.items + 1 ∨ source.toNat = 0 ∨ 32 < source.toNat ∨
      (∃ a : Addr, source.toNat = a.val + 1 ∧ (station s a).state ≠ .present)) (toggle : Toggle) (payload : List Octet) :
    reportReturned source toggle payload s = reportCounted w s := by
  simp only [reportReturned, countReportItem_eq hw, show (reportCounted w s).ru.sweep = some { w with items := w.items + 1 } from rfl]
  cases hsource : stationAt source.toNat with
  | none => rfl
  | some a =>
    have ha := stationAt_eq_some.mp hsource
    dsimp only
    split
    · rfl
    · rename_i hbudget
      refine if_pos ?_
      rcases h with h | h | h | ⟨b, hb, hgone⟩
      · exact absurd h hbudget
      · omega
      · omega
      · rwa [show a = b from Fin.ext (by omega)]

/-- A report within the budget from a PRESENT station is a duplicate or accepted, by the station's report toggle (R108). -/
theorem reportReturned_of_heard {s : State} {w : SweepRecord} {source : Octet} {a : Addr} (hw : s.ru.sweep = some w)
    (hsource : source.toNat = a.val + 1) (hbudget : w.items + 1 ≤ w.budget) (hpresent : (station s a).state = .present) (toggle : Toggle)
    (payload : List Octet) :
    reportReturned source toggle payload s =
      if (station s a).reportToggle = some toggle then putAck a (some { toggle := toggle, carried := false }) (reportCounted w s)
      else acceptReport a toggle payload (reportCounted w s) := by
  simp only [reportReturned, countReportItem_eq hw, show (reportCounted w s).ru.sweep = some { w with items := w.items + 1 } from rfl,
    stationAt_eq_some.mpr hsource]
  rw [if_neg (by exact hbudget.not_gt), if_neg (by exact not_not.mpr hpresent)]
  rfl

theorem getElem_set_ack (acks : Vector (Option AckEntry) 32) (a b : Addr) (x : Option AckEntry) :
    (acks.set a.val x a.isLt)[b] = if b = a then x else acks[b] := by
  simp only [Fin.getElem_fin, Vector.getElem_set, Fin.ext_iff, eq_comm]

end Sys2Proof.Machine

section

set_option Elab.async false

open Sys2Proof.Machine

/-- Settles O46: the tests of R108 in order; an acceptance (`reportAccepted`) goes on by what pends and what it has to write. -/
theorem reportsAreJudged : Obligations.ReportsAreJudged := by
  unfold Obligations.ReportsAreJudged
  intro s e rest w hold hsweep hw counted
  have hexec {cmd : Sys2Proof.Instr} {fit : Fit} {u : Sys2Proof.Machine.State} (harrives : ArrivesNow s cmd) (hfit : fitFor s e cmd = some fit)
      (hu : applyFit e fit s = u) (htransit : u.ls.transit ≠ []) : exec cmd s = .next (settleBus s.hp.queue.length u) := by
    rw [exec_matched hold.1 hold.delivering harrives hfit, hu, quietWhenDrained_of_transit htransit]
  have hleft : s.ls.transit ≠ [] := by rw [hold.1]; exact List.cons_ne_nil _ _
  obtain ⟨bus, queue, hcounted, hacc⟩ := settleBus_eq (n := s.hp.queue.length) (s := reportCounted w s) (Nat.le_succ _)
  refine ⟨fun span harrives => ?damaged, fun source toggle payload span harrives => ⟨fun hdiscarded => ?discarded,
    fun a hsource hbudget hpresent => ⟨fun htoggle => ?duplicate, fun htoggle d cache c hcache hconfig => ?accepted⟩⟩⟩
  case damaged =>
    have hfit : fitFor s e (.damagedFrame span) = some .damagedReport := by
      simp only [fitFor, deliveryOf, Option.bind_some, fitOf, hsweep, sweepFit]
    exact ⟨_, (hexec harrives hfit (countReportItem_eq hw) hleft).trans (congrArg _ hcounted), hacc, rfl⟩
  case discarded =>
    have hfit := report_fits (s := s) hsweep source toggle payload span
    exact ⟨_, (hexec harrives hfit (reportReturned_of_discarded hw hdiscarded toggle payload) hleft).trans (congrArg _ hcounted), hacc, rfl⟩
  case duplicate =>
    have hfit := report_fits (s := s) hsweep source toggle payload span
    have happly := reportReturned_of_heard hw hsource hbudget hpresent toggle payload
    rw [if_pos htoggle] at happly
    obtain ⟨bus, queue, hsettled, hacc⟩ := settleBus_eq (n := s.hp.queue.length)
      (s := putAck a (some { toggle := toggle, carried := false }) (reportCounted w s)) (Nat.le_succ _)
    refine ⟨_, (hexec harrives hfit happly hleft).trans (congrArg _ hsettled), hacc, ?_, fun b hb => ?_, rfl⟩
    · exact (getElem_set_ack s.ru.acks a a _).trans (if_pos rfl)
    · exact (getElem_set_ack s.ru.acks a b _).trans (if_neg hb)
  case accepted =>
    intro r reads accepted
    have hfit := report_fits (s := s) hsweep source toggle payload span
    have happly := reportReturned_of_heard hw hsource hbudget hpresent toggle payload
    rw [if_neg htoggle] at happly
    have haccepted (reports : List PendingReport) (writing : Bool) (asked : List Access) (records : List CompletionRecord)
        (hasked : asked.length ≤ 1) : accepted (settleBus s.hp.queue.length
          (testDescriptorRead (reportAccepted a toggle w e rest cache reports writing asked records s))) reports writing asked records := by
      obtain ⟨bus, queue, reading, k, hsettled, hreading, hmore⟩ := settled_acceptance (a := a) (toggle := toggle) (w := w) (e := e)
        (rest := rest) (cache := cache) (reports := reports) (writing := writing) (records := records) hconfig hasked
      have hstations := stationsKeptBut_putStation a { station s a with reportToggle := some toggle } s
      refine ⟨?_, ?_, ?_, fun b hb => ?_, ?_, ?_, ?_, hmore⟩
      all_goals rw [hsettled]
      · exact hstations
      · exact station_putStation_same a { station s a with reportToggle := some toggle } s
      · exact (getElem_set_ack s.ru.acks a a _).trans (if_pos rfl)
      · exact (getElem_set_ack s.ru.acks a b _).trans (if_neg hb)
      · exact hreading
      · rfl
      · rfl
    have hends {v : Sys2Proof.Machine.State} (hv : acceptReport a toggle payload (reportCounted w s) = testDescriptorRead v)
        (hleft' : (testDescriptorRead v).ls.transit ≠ []) :
        exec (.reportReturn source toggle payload span) s = .next (settleBus s.hp.queue.length (testDescriptorRead v)) :=
      hexec harrives hfit (happly.trans hv) hleft'
    have hstill (reports : List PendingReport) (writing : Bool) (asked : List Access) (records : List CompletionRecord) :
        (testDescriptorRead (reportAccepted a toggle w e rest cache reports writing asked records s)).ls.transit ≠ [] := by
      rw [testDescriptorRead_ls]
      exact List.cons_ne_nil _ _
    refine ⟨fun hwriting => ?behind, fun hwriting hreports hsomething hengine => ?written,
      fun status hwriting hreports hdecision hcase => ?atOnce⟩
    case behind =>
      have hjoined := acceptReport_eq (w := w) hold.1 hcache a toggle payload
      rw [hwriting, if_pos rfl] at hjoined
      exact ⟨_, hends hjoined (hstill _ _ _ _), haccepted _ _ _ _ (Nat.zero_le 1)⟩
    case written =>
      obtain ⟨hwrites, -⟩ := acceptReport_alone (w := w) hold.1 hcache hwriting hreports a toggle payload
      exact ⟨_, hends (hwrites hsomething hengine) (hstill _ _ _ _), haccepted _ _ _ _ le_rfl⟩
    case atOnce =>
      obtain ⟨-, hcompletes⟩ := acceptReport_alone (w := w) hold.1 hcache hwriting hreports a toggle payload
      have hstatus : statusUnwritten s.hp.engine r = status := by
        rcases hcase with ⟨hnothing, rfl⟩ | ⟨hsomething, hfaulted, -, rfl⟩
        · rw [statusUnwritten, faultedStatus_of_nothing hnothing, ite_self]
        · rw [statusUnwritten, if_pos hfaulted, faultedStatus_of_something hsomething]
      have hdone := hcompletes (hcase.imp And.left (·.2.1)) hdecision
      rw [hstatus] at hdone
      exact ⟨_, hends hdone (hstill _ _ _ _), haccepted _ _ _ _ (Nat.zero_le 1)⟩

end

/-! ## The entries of a roll call (R57 to R59) -/

namespace Sys2Proof.Machine

set_option Elab.async false

/-- An accepted entry list and the stations it names, one by one (R57). -/
def RollNames (entries : List CallEntry) (roll : List (Addr × Bool)) : Prop :=
  entries.map (fun x => (x.address.toNat, x.join)) = roll.map (fun r => (r.1.val + 1, r.2))

/-- A count of entries is a count of the stations named. -/
theorem RollNames.length_filter {entries : List CallEntry} {roll : List (Addr × Bool)} (h : RollNames entries roll)
    (P : Nat × Bool → Bool) :
    (entries.filter (fun x => P (x.address.toNat, x.join))).length = (roll.filter (fun r => P (r.1.val + 1, r.2))).length := by
  have hfilter := congrArg (fun xs => (xs.filter P).length) h
  simpa only [List.filter_map, List.length_map, Function.comp_def] using hfilter

/-- The number of a station's entries (R58). -/
theorem RollNames.timesShown {entries : List CallEntry} {roll : List (Addr × Bool)} (h : RollNames entries roll) (a : Addr) :
    Machine.timesShown roll a = (entries.filter (fun x => x.address.toNat = a.val + 1)).length := by
  rw [h.length_filter (fun x => x.1 = a.val + 1), Machine.timesShown]
  refine congrArg List.length (List.filter_congr fun r _ => ?_)
  simp only [beq_eq_decide, Fin.ext_iff, Nat.add_right_cancel_iff]

theorem RollNames.exists_iff {entries : List CallEntry} {roll : List (Addr × Bool)} (h : RollNames entries roll)
    (P : Nat × Bool → Prop) : (∃ x ∈ entries, P (x.address.toNat, x.join)) ↔ ∃ r ∈ roll, P (r.1.val + 1, r.2) := by
  have hmem : (∃ y ∈ entries.map (fun x => (x.address.toNat, x.join)), P y) ↔ ∃ y ∈ roll.map (fun r => (r.1.val + 1, r.2)), P y := by
    rw [h]
  simpa only [List.mem_map, exists_exists_and_eq_and] using hmem

/-- One of a station's entries carries the JOIN mark (R55). -/
theorem RollNames.shownJoining {entries : List CallEntry} {roll : List (Addr × Bool)} (h : RollNames entries roll) (a : Addr) :
    Machine.shownJoining roll a = true ↔ ∃ x ∈ entries, x.address.toNat = a.val + 1 ∧ x.join = true := by
  rw [h.exists_iff (fun y => y.1 = a.val + 1 ∧ y.2 = true)]
  simp only [Machine.shownJoining, List.any_eq_true, Bool.and_eq_true, beq_iff_eq, Fin.ext_iff, Nat.add_right_cancel_iff]

theorem mem_firstShown_iff {a : Addr} {xs : List Addr} : a ∈ firstShown xs ↔ a ∈ xs := by
  refine ⟨mem_firstShown, fun h => ?_⟩
  induction xs with
  | nil => exact h
  | cons x rest ih =>
    simp only [firstShown, List.mem_cons, List.mem_filter, bne_iff_ne]
    by_cases hx : a = x
    · exact .inl hx
    · exact .inr ⟨ih ((List.mem_cons.mp h).resolve_left hx), hx⟩

/-- The loop map holds the addresses shown (R59). -/
theorem RollNames.mem_mapOfRoll {entries : List CallEntry} {roll : List (Addr × Bool)} (h : RollNames entries roll) (a : Addr) :
    a ∈ mapOfRoll roll ↔ ∃ x ∈ entries, x.address.toNat = a.val + 1 := by
  rw [h.exists_iff (fun y => y.1 = a.val + 1)]
  simp only [mapOfRoll, mem_firstShown_iff, List.mem_map, Nat.add_right_cancel_iff, Fin.ext_iff]

/-- Each address stands in the map at its first position (R59). -/
theorem firstShown_pairwise (xs : List Addr) : (firstShown xs).Pairwise (fun a b => xs.idxOf a < xs.idxOf b) := by
  induction xs with
  | nil => exact .nil
  | cons x rest ih =>
    refine List.pairwise_cons.mpr ⟨fun b hb => ?_, ?_⟩
    · have hne : x ≠ b := fun h => by simp [h] at hb
      rw [List.idxOf_cons_self, List.idxOf_cons_ne _ hne]
      exact Nat.succ_pos _
    · refine (ih.filter _).imp_of_mem fun {a b} ha hb hab => ?_
      have hxa : x ≠ a := fun h => by simp [h] at ha
      have hxb : x ≠ b := fun h => by simp [h] at hb
      rw [List.idxOf_cons_ne _ hxa, List.idxOf_cons_ne _ hxb]
      exact Nat.succ_lt_succ hab

theorem RollNames.findIdx {entries : List CallEntry} {roll : List (Addr × Bool)} (h : RollNames entries roll) (a : Addr) :
    entries.findIdx (fun x => x.address.toNat = a.val + 1) = (roll.map (fun x => x.1)).idxOf a := by
  have hidx := congrArg (List.findIdx (fun y : Nat × Bool => decide (y.1 = a.val + 1))) h
  simp only [List.findIdx_map, Function.comp_def] at hidx
  rw [hidx, List.idxOf, List.findIdx_map]
  congr 1
  funext r
  simp [beq_eq_decide, Fin.ext_iff]

theorem RollNames.map_pairwise {entries : List CallEntry} {roll : List (Addr × Bool)} (h : RollNames entries roll) :
    (mapOfRoll roll).Pairwise (fun a b =>
      entries.findIdx (fun x => x.address.toNat = a.val + 1) < entries.findIdx (fun x => x.address.toNat = b.val + 1)) := by
  simp only [h.findIdx]
  exact firstShown_pairwise _

/-- The JOIN entries of a roll call (R29). -/
theorem RollNames.joins {entries : List CallEntry} {roll : List (Addr × Bool)} (h : RollNames entries roll) :
    (roll.filter (fun x => x.2)).length = (entries.filter (fun x => x.join)).length :=
  (h.length_filter (fun x => x.2)).symm

/-! ## What a roll call does to stations, acks and requests (R52, R54, R55, R58) -/

/-- What the JOIN resets and the leaving stations leave alone: everything but requests and ack set. -/
def RequestsOnly (s u : State) : Prop :=
  u = { s with rp := u.rp, ru := { s.ru with acks := u.ru.acks } } ∧ ∀ l, listOf u l = listOf s l

theorem RequestsOnly.refl (s : State) : RequestsOnly s s := ⟨rfl, fun _ => rfl⟩

theorem RequestsOnly.trans {s u v : State} (h : RequestsOnly s u) (h' : RequestsOnly u v) : RequestsOnly s v := by
  obtain ⟨hu, hlists⟩ := h
  obtain ⟨hv, hlists'⟩ := h'
  refine ⟨?_, fun l => (hlists' l).trans (hlists l)⟩
  rw [hv, hu]

theorem RequestsOnly.foldl {f : State → Addr → State} (h : ∀ s a, RequestsOnly s (f s a)) (as : List Addr) (s : State) :
    RequestsOnly s (as.foldl f s) := by
  induction as generalizing s with
  | nil => exact .refl s
  | cons a rest ih => exact (h s a).trans (ih _)

theorem RequestsOnly.st {s u : State} (h : RequestsOnly s u) : u.st = s.st := by rw [h.1]

theorem requestsOnly_modOutstanding (a : Addr) (f : PoolEntry → PoolEntry) (s : State) : RequestsOnly s (modOutstanding a f s) := by
  unfold modOutstanding
  split
  · refine ⟨?_, fun l => listOf_modEntry ..⟩
    unfold modEntry
    split <;> rfl
  · exact .refl s

theorem requestsOnly_applyJoin (roll : List (Addr × Bool)) (s : State) (a : Addr) : RequestsOnly s (applyJoin roll s a) := by
  unfold applyJoin
  split
  · exact RequestsOnly.trans (u := putAck a none s) ⟨rfl, fun _ => rfl⟩ (requestsOnly_modOutstanding ..)
  · exact .refl s

theorem requestsOnly_applyLeaving (before s : State) (a : Addr) : RequestsOnly s (applyLeaving before s a) := by
  unfold applyLeaving
  split
  · exact requestsOnly_modOutstanding ..
  · exact .refl s

/-- A change of one station's outstanding request (R50). -/
theorem entry_modOutstanding (a : Addr) (f : PoolEntry → PoolEntry) (s : State) (p : PoolIx) :
    entry (modOutstanding a f s) p = if (station s a).outstanding = some p then (entry s p).map f else entry s p := by
  unfold modOutstanding
  split
  · rename_i q hq
    rw [entry_modEntry, hq]
    by_cases h : p = q
    · rw [if_pos h, if_pos (by rw [h]), h]
    · rw [if_neg h, if_neg fun hs => h (Option.some.inj hs).symm]
  · rename_i hq
    rw [if_neg (by rw [hq]; exact (Option.some_ne_none p).symm)]

/-- One request among those that a pass over the stations changes: each station's own, where `P` holds of the station. -/
theorem entry_foldl_outstanding {step : State → Addr → State} {P : Addr → Prop} [DecidablePred P] {f : PoolEntry → PoolEntry}
    {st : StationTable} (hst : ∀ u a, (step u a).st = u.st)
    (hentry : ∀ u a p, u.st = st → entry (step u a) p =
      if P a ∧ (station u a).outstanding = some p then (entry u p).map f else entry u p)
    (as : List Addr) (u : State) (hu : u.st = st) (p : PoolIx) :
    ((∀ b ∈ as, (station u b).outstanding ≠ some p) → entry (as.foldl step u) p = entry u p) ∧
    (∀ a ∈ as, as.Nodup → (station u a).outstanding = some p → (∀ b, (station u b).outstanding = some p → b = a) →
      entry (as.foldl step u) p = if P a then (entry u p).map f else entry u p) := by
  induction as generalizing u with
  | nil => exact ⟨fun _ => rfl, fun a ha => nomatch ha⟩
  | cons b rest ih =>
    have hkept (c : Addr) : station (step u b) c = station u c := station_congr (hst u b) c
    obtain ⟨hnone, howner⟩ := ih (step u b) ((hst u b).trans hu)
    simp only [hkept] at hnone howner
    refine ⟨fun hfree => ?_, fun a ha hnodup hout hunique => ?_⟩
    · rw [List.foldl_cons, hnone fun c hc => hfree c (List.mem_cons_of_mem b hc), hentry u b p hu,
        if_neg fun h => hfree b List.mem_cons_self h.2]
    · obtain ⟨hb, hnodup⟩ := List.nodup_cons.mp hnodup
      rw [List.foldl_cons]
      rcases List.mem_cons.mp ha with rfl | ha
      · rw [hnone fun c hc hcout => hb (hunique c hcout ▸ hc), hentry u a p hu]
        simp only [hout, and_true]
      · have hother : (station u b).outstanding ≠ some p := fun h => hb (hunique b h ▸ ha)
        have hsame : entry (step u b) p = entry u p := by rw [hentry u b p hu, if_neg fun h => hother h.2]
        rw [howner a ha hnodup hout hunique, hsame]

/-- The ack set after the JOIN resets (R114). -/
theorem acks_foldl_applyJoin (roll : List (Addr × Bool)) (as : List Addr) (s : State) (a : Addr) :
    (as.foldl (applyJoin roll) s).ru.acks[a] = if a ∈ as ∧ shownJoining roll a = true then none else s.ru.acks[a] := by
  have hstep (u : State) (b : Addr) :
      (applyJoin roll u b).ru.acks[a] = if a = b ∧ shownJoining roll b = true then none else u.ru.acks[a] := by
    unfold applyJoin
    by_cases hjoin : shownJoining roll b = true
    · rw [if_pos hjoin]
      have hru : (modOutstanding b joinResetEntry (putAck b none u)).ru = (putAck b none u).ru := by
        unfold modOutstanding
        split
        · exact modEntry_ru ..
        · rfl
      rw [hru]
      refine (getElem_set_ack u.ru.acks b a none).trans ?_
      simp only [hjoin, and_true]
    · rw [if_neg hjoin, if_neg fun h => hjoin h.2]
  induction as generalizing s with
  | nil => simp
  | cons b rest ih =>
    rw [List.foldl_cons, ih, hstep]
    by_cases hab : a = b
    · subst hab
      by_cases hjoin : shownJoining roll a = true <;> simp [hjoin]
    · simp [hab]

end Sys2Proof.Machine

/-! ## An accepted roll call (R52 to R62) -/

namespace Sys2Proof.Machine

set_option Elab.async false

theorem station_of_rollTable {s u : State} {roll : List (Addr × Bool)} (hu : u.st = rollTable s roll) (a : Addr) :
    station u a = stationAfterRoll s roll a :=
  (station_congr (s := { s with st := rollTable s roll }) hu a).trans (station_rollTable s roll a)

/-- The station leaves PRESENT in this roll call (R54). -/
def leavesPresent (s : State) (roll : List (Addr × Bool)) (a : Addr) : Bool :=
  decide ((station s a).state = .present ∧ (stationAfterRoll s roll a).state ≠ .present)

theorem entry_applyJoin (roll : List (Addr × Bool)) (u : State) (a : Addr) (p : PoolIx) :
    entry (applyJoin roll u a) p =
      if shownJoining roll a = true ∧ (station u a).outstanding = some p then (entry u p).map joinResetEntry else entry u p := by
  unfold applyJoin
  by_cases h : shownJoining roll a = true
  · rw [if_pos h, entry_modOutstanding]
    simp only [h, true_and]
    rfl
  · rw [if_neg h, if_neg fun hn => h hn.1]

theorem entry_applyLeaving {s u : State} {roll : List (Addr × Bool)} (hu : u.st = rollTable s roll) (a : Addr) (p : PoolIx) :
    entry (applyLeaving s u a) p =
      if leavesPresent s roll a = true ∧ (station u a).outstanding = some p then (entry u p).map stationLeftEntry else entry u p := by
  unfold applyLeaving
  by_cases h : leavesPresent s roll a = true
  · have hleaves : (station s a).state = .present ∧ (station u a).state ≠ .present := by
      rw [station_of_rollTable hu]
      exact of_decide_eq_true h
    rw [if_pos hleaves, entry_modOutstanding]
    simp only [h, true_and]
  · have hstays : ¬((station s a).state = .present ∧ (station u a).state ≠ .present) := by
      rw [station_of_rollTable hu]
      exact fun hn => h (decide_eq_true hn)
    rw [if_neg hstays, if_neg fun hn => h hn.1]

theorem ru_applyLeaving (before u : State) (a : Addr) : (applyLeaving before u a).ru = u.ru := by
  unfold applyLeaving modOutstanding
  split
  · split
    · exact modEntry_ru ..
    · rfl
  · rfl

theorem ru_foldl_applyLeaving (before : State) (as : List Addr) (u : State) : (as.foldl (applyLeaving before) u).ru = u.ru := by
  induction as generalizing u with
  | nil => rfl
  | cons a rest ih => rw [List.foldl_cons, ih, ru_applyLeaving]

/-- The table, the map and the JOIN resets of a roll call (R55, R58, R59). -/
def rollJoined (roll : List (Addr × Bool)) (s : State) : State := allStations.foldl (applyJoin roll) { s with st := rollTable s roll }

/-- The roll call with its change raised (R60). -/
def rollRaised (roll : List (Addr × Bool)) (s : State) : State :=
  { rollJoined roll s with cu := afterRollCall (changeCount s roll) s.cu }

theorem rollJoined_requestsOnly (roll : List (Addr × Bool)) (s : State) :
    RequestsOnly { s with st := rollTable s roll } (rollJoined roll s) := RequestsOnly.foldl (requestsOnly_applyJoin roll) _ _

theorem reconcile_eq (roll : List (Addr × Bool)) (s : State) :
    reconcile roll s = allStations.foldl (applyLeaving s) (rollRaised roll s) := by
  have hcu : (rollJoined roll s).cu = s.cu := by rw [(rollJoined_requestsOnly roll s).1]
  have hraised : (if 0 < changeCount s roll then raiseStationChange (changeCount s roll) (rollJoined roll s) else rollJoined roll s) =
      rollRaised roll s := by
    rw [rollRaised, afterRollCall, ← hcu]
    by_cases h : changeCount s roll = 0
    · rw [if_neg (by omega), if_pos h]
    · rw [if_pos (by omega), if_neg h, raiseStationChange_eq]
  exact congrArg (allStations.foldl (applyLeaving s)) hraised

theorem reconcile_requestsOnly (roll : List (Addr × Bool)) (s : State) :
    RequestsOnly { s with st := rollTable s roll, cu := afterRollCall (changeCount s roll) s.cu } (reconcile roll s) := by
  rw [reconcile_eq]
  refine RequestsOnly.trans (u := rollRaised roll s) ?_ (RequestsOnly.foldl (requestsOnly_applyLeaving s) _ _)
  obtain ⟨hjoined, hlists⟩ := rollJoined_requestsOnly roll s
  refine ⟨?_, hlists⟩
  rw [rollRaised]
  conv_lhs => rw [hjoined]

/-- The ack set after a roll call: a station that joins has no entry (R114). -/
theorem acks_reconcile (roll : List (Addr × Bool)) (s : State) (a : Addr) :
    (reconcile roll s).ru.acks[a] = if shownJoining roll a = true then none else s.ru.acks[a] := by
  rw [reconcile_eq, ru_foldl_applyLeaving]
  refine (acks_foldl_applyJoin roll allStations { s with st := rollTable s roll } a).trans ?_
  simp only [mem_allStations, true_and]

theorem allStations_nodup : allStations.Nodup := List.nodup_finRange 32

theorem rollRaised_st (roll : List (Addr × Bool)) (s : State) : (rollRaised roll s).st = rollTable s roll :=
  (rollJoined_requestsOnly roll s).st

/-- The requests after a roll call: those outstanding at one station change as its JOIN reset and its leaving PRESENT say, and no
other (R54, R55). -/
theorem entry_reconcile (roll : List (Addr × Bool)) (s : State) (p : PoolIx) :
    ((∀ a, (station s a).outstanding ≠ some p) → entry (reconcile roll s) p = entry s p) ∧
    (∀ a q, (station s a).outstanding = some p → (∀ b, (station s b).outstanding = some p → b = a) → entry s p = some q →
      entry (reconcile roll s) p = some (
        let q' := if shownJoining roll a = true then joinResetEntry q else q
        if leavesPresent s roll a = true then stationLeftEntry q' else q')) := by
  have hout (u : State) (hu : u.st = rollTable s roll) (a : Addr) : (station u a).outstanding = (station s a).outstanding := by
    rw [station_of_rollTable hu]
    rfl
  obtain ⟨hfree, howner⟩ := entry_foldl_outstanding (P := fun a => shownJoining roll a = true) (f := joinResetEntry)
    (fun u a => (requestsOnly_applyJoin roll u a).st) (fun u a p _ => entry_applyJoin roll u a p) allStations
    { s with st := rollTable s roll } rfl p
  obtain ⟨hfree', howner'⟩ := entry_foldl_outstanding (P := fun a => leavesPresent s roll a = true) (f := stationLeftEntry)
    (fun u a => (requestsOnly_applyLeaving s u a).st) (fun u a p hu => entry_applyLeaving hu a p) allStations
    (rollRaised roll s) (rollRaised_st roll s) p
  simp only [hout { s with st := rollTable s roll } rfl] at hfree howner
  simp only [hout _ (rollRaised_st roll s)] at hfree' howner'
  rw [reconcile_eq]
  refine ⟨fun h => ?_, fun a q ha hunique hq => ?_⟩
  · exact (hfree' fun b _ => h b).trans (hfree fun b _ => h b)
  · have hjoined : entry (rollRaised roll s) p = some (if shownJoining roll a = true then joinResetEntry q else q) := by
      refine (howner a (mem_allStations a) allStations_nodup ha hunique).trans ?_
      rw [show entry { s with st := rollTable s roll } p = some q from hq]
      split <;> rfl
    rw [howner' a (mem_allStations a) allStations_nodup ha hunique, hjoined]
    dsimp only
    split <;> rfl

/-! ### What a record shows of a request is not touched by a roll call -/

/-- The fields of a request that its record shows are the same (R99). -/
def SameRecord (q q' : PoolEntry) : Prop :=
  q'.kind = q.kind ∧ q'.address = q.address ∧ q'.attempts = q.attempts ∧ q'.tag = q.tag ∧ q'.lastOutcome = q.lastOutcome ∧
  q'.expectedCount = q.expectedCount

theorem SameRecord.refl (q : PoolEntry) : SameRecord q q := ⟨rfl, rfl, rfl, rfl, rfl, rfl⟩

theorem SameRecord.trans {q q' q'' : PoolEntry} (h : SameRecord q q') (h' : SameRecord q' q'') : SameRecord q q'' := by
  obtain ⟨hkind, haddress, hattempts, htag, hlast, hcount⟩ := h
  obtain ⟨hkind', haddress', hattempts', htag', hlast', hcount'⟩ := h'
  exact ⟨hkind'.trans hkind, haddress'.trans haddress, hattempts'.trans hattempts, htag'.trans htag, hlast'.trans hlast,
    hcount'.trans hcount⟩

theorem SameRecord.controlRecord_eq {q q' : PoolEntry} (h : SameRecord q q') (status : Status) (length count : Nat) :
    controlRecord q' status length count = controlRecord q status length count := by
  obtain ⟨-, haddress, hattempts, htag, hlast, hcount⟩ := h
  simp only [controlRecord, haddress, hattempts, htag, hlast, hcount]

/-- Between `s` and `u` every request kept what its record shows. -/
def RecordsKept (s u : State) : Prop := ∀ p q, entry s p = some q → ∃ q', entry u p = some q' ∧ SameRecord q q'

theorem RecordsKept.trans {s u v : State} (h : RecordsKept s u) (h' : RecordsKept u v) : RecordsKept s v := fun p q hq => by
  obtain ⟨q', hq', hsame⟩ := h p q hq
  obtain ⟨q'', hq'', hsame'⟩ := h' p q' hq'
  exact ⟨q'', hq'', hsame.trans hsame'⟩

theorem RecordsKept.foldl {f : State → Addr → State} (h : ∀ s a, RecordsKept s (f s a)) (as : List Addr) (s : State) :
    RecordsKept s (as.foldl f s) := by
  induction as generalizing s with
  | nil => exact fun p q hq => ⟨q, hq, .refl q⟩
  | cons a rest ih => exact (h s a).trans (ih _)

theorem recordsKept_modOutstanding (a : Addr) {f : PoolEntry → PoolEntry} (hf : ∀ q, SameRecord q (f q)) (s : State) :
    RecordsKept s (modOutstanding a f s) := fun p q hq => by
  rw [entry_modOutstanding, hq]
  split
  · exact ⟨f q, rfl, hf q⟩
  · exact ⟨q, rfl, .refl q⟩

theorem recordsKept_reconcile (roll : List (Addr × Bool)) (s : State) : RecordsKept s (reconcile roll s) := by
  rw [reconcile_eq]
  have hjoined : RecordsKept s (rollJoined roll s) := by
    refine RecordsKept.trans (u := { s with st := rollTable s roll }) (fun p q hq => ⟨q, hq, .refl q⟩) (RecordsKept.foldl (fun u a => ?_) _ _)
    unfold applyJoin
    split
    · exact recordsKept_modOutstanding a (f := joinResetEntry) (fun q => ⟨rfl, rfl, rfl, rfl, rfl, rfl⟩) (putAck a none u)
    · exact fun p q hq => ⟨q, hq, .refl q⟩
  refine RecordsKept.trans (u := rollRaised roll s) hjoined (RecordsKept.foldl (fun u a => ?_) _ _)
  unfold applyLeaving
  split
  · refine recordsKept_modOutstanding a (fun q => ?_) u
    unfold stationLeftEntry
    split
    · exact ⟨rfl, rfl, rfl, rfl, rfl, rfl⟩
    · exact .refl q
  · exact fun p q hq => ⟨q, hq, .refl q⟩

/-! ### The state after an accepted roll call -/

/-- An accepted CALL marker, its entry gone and the roll call reconciled (R29, R57). -/
def rolled (roll : List (Addr × Bool)) (s : State) : State := addJoins roll (reconcile roll (popOldest s))

theorem rolled_eq {s : State} {e : TransitEntry} {rest : List TransitEntry} (htransit : s.ls.transit = e :: rest)
    (roll : List (Addr × Bool)) :
    rolled roll s = { s with
      rp := (rolled roll s).rp
      st := rollTable s roll
      ru := { s.ru with acks := (rolled roll s).ru.acks }
      cu := afterRollCall (changeCount s roll) s.cu
      ls := { s.ls with
        transit := rest, rawDelay := min 65535 (s.ls.rawDelay + 2 * (roll.filter (fun x => x.2)).length) } } := by
  obtain ⟨hkept, -⟩ := reconcile_requestsOnly roll (popOldest s)
  unfold rolled addJoins
  conv_lhs => rw [hkept]
  rw [hkept, popOldest_transit htransit]
  rfl

theorem listOf_rolled (roll : List (Addr × Bool)) (s : State) (l : ListId) : listOf (rolled roll s) l = listOf s l :=
  (reconcile_requestsOnly roll (popOldest s)).2 l

/-- The stations of a state whose table is the roll call's. -/
theorem rollChanges_eq {s t : State} {entries : List CallEntry} {roll : List (Addr × Bool)} (h : RollNames entries roll)
    (ht : t.st = rollTable s roll) : rollChanges s t entries = changeCount s roll := by
  have hmap : t.st.loopMap = mapOfRoll roll := by rw [ht]; rfl
  have hstations (a : Addr) : station t a = stationAfterRoll s roll a := station_of_rollTable ht a
  unfold rollChanges changeCount
  rw [hmap]
  refine congrArg₂ (· + ·) (congrArg List.length (List.filter_congr fun a _ => ?_)) rfl
  have hstate : (station t a).state = stateAfterRoll (station s a).state (timesShown roll a) := by rw [hstations]; rfl
  rw [Bool.eq_iff_iff, decide_eq_true_iff, hstate, ← h.timesShown, ← h.shownJoining]
  simp only [stationChanged, rejoined, Bool.or_eq_true, Bool.and_eq_true, bne_iff_ne, beq_iff_eq, List.contains_iff_mem, Bool.not_eq_true',
    ← Bool.not_eq_true, or_assoc, and_assoc]
  refine or_congr_right (or_congr_left (and_congr_right fun hpresent => ?_))
  refine ⟨fun h => ⟨h.2.1, h.2.2⟩, fun h => ⟨?_, h⟩⟩
  rw [hpresent, h.1]
  rfl

end Sys2Proof.Machine

/-! ## The owner of an accepted CALL (R60, R62, R123) -/

namespace Sys2Proof.Machine

set_option Elab.async false

/-- Between `x` and `u` stations, sweep state, line and host port are as before, and the pool but for what stands on the control list,
where `touched` allows a change there. -/
structure ControlOnly (touched : Prop) (x u : State) : Prop where
  st : u.st = x.st
  ru : u.ru = x.ru
  host : HostKept x u
  line : LineKept x u
  outside : OutsideKept x u
  lists : ∀ l, (touched → l ≠ .control) → listOf u l = listOf x l
  entries : ∀ p, (touched → p ∉ listOf x .control) → entry u p = entry x p

theorem ControlOnly.refl (touched : Prop) (x : State) : ControlOnly touched x x :=
  ⟨rfl, rfl, rfl, ⟨rfl, rfl⟩, .refl x, fun _ _ => rfl, fun _ _ => rfl⟩

theorem finishCallNow_of_isHead {s : State} {p : PoolIx} {e : PoolEntry} (h : IsHead s .control p e) (hkind : e.kind = .callNow)
    (status : Status) (count : Nat) : finishCallNow status count s = finishRequest p status 0 count .useReserved s := by
  simp only [finishCallNow, headEntry_of_isHead h, hkind, if_true]

theorem finishRequest_controlOnly {s : State} {p : PoolIx} {e : PoolEntry} (h : IsHead s .control p e)
    (hlist : listFor e.kind e.address = .control) (status : Status) (length count : Nat) (use : SlotUse) :
    ControlOnly True s (finishRequest p status length count use s) := by
  obtain ⟨hhead, he⟩ := h
  obtain ⟨-, -, hlost, hlists, hkept, -, hhost, -, -, -, hru, hline, hout⟩ := finishRequest_resolves he status length count use
  rw [hlist] at hlost hlists hkept
  refine ⟨st_finishRequest_of_control he hlist .., hru, hhost, hline, hout, fun l hl => hlists l (hl trivial), fun q hq => ?_⟩
  have hfree := hq trivial
  refine hkept q (fun h => hfree (h ▸ List.mem_of_head? hhead)) fun h => hfree ?_
  exact List.mem_of_mem_erase (hlost ▸ List.mem_of_head? h)

theorem finishCallNow_controlOnly (status : Status) (count : Nat) (s : State) : ControlOnly True s (finishCallNow status count s) := by
  unfold finishCallNow
  split
  · rename_i p e hhead
    split
    · rename_i hkind
      exact finishRequest_controlOnly (headEntry_some hhead) (by rw [hkind]; rfl) ..
    · exact .refl ..
  · exact .refl ..

theorem ls_finishCallNow (status : Status) (count : Nat) (s : State) : (finishCallNow status count s).ls = s.ls := by
  unfold finishCallNow
  split
  · split
    · exact finishRequest_ls ..
    · rfl
  · rfl

theorem ls_answerCallNow (held : Bool) (count : Nat) (s : State) : (answerCallNow held count s).ls = s.ls := by
  unfold answerCallNow
  split
  · rfl
  · exact ls_finishCallNow ..

theorem answerCallNow_controlOnly (held : Bool) (count : Nat) (s : State) : ControlOnly True s (answerCallNow held count s) := by
  unfold answerCallNow
  split
  · exact ⟨rfl, rfl, rfl, ⟨rfl, rfl⟩, .refl s, fun _ _ => rfl, fun _ _ => rfl⟩
  · exact finishCallNow_controlOnly ..

/-- The loop sequencer after an accepted CALL: its entry gone, the loop OPEN after CALLING, and 2 more for each JOIN entry (R29, R62). -/
def lsAfterRoll (rest : List TransitEntry) (entries : List CallEntry) (ls : LoopSequencer) : LoopSequencer :=
  { ls with
    state := if ls.state = .calling then .opened else ls.state
    transit := rest
    rawDelay := min 65535 (ls.rawDelay + 2 * (entries.filter (fun x => x.join)).length) }

theorem ls_rolled {s : State} {e : TransitEntry} {rest : List TransitEntry} {entries : List CallEntry} {roll : List (Addr × Bool)}
    (htransit : s.ls.transit = e :: rest) (hroll : RollNames entries roll) :
    (rolled roll s).ls = { s.ls with
      transit := rest, rawDelay := min 65535 (s.ls.rawDelay + 2 * (entries.filter (fun x => x.join)).length) } := by
  rw [rolled_eq htransit, hroll.joins]

/-- A roll call leaves host port, scheduler and line alone. -/
theorem rolled_keeps {s : State} {e : TransitEntry} {rest : List TransitEntry} (htransit : s.ls.transit = e :: rest)
    (roll : List (Addr × Bool)) :
    HostKept s (rolled roll s) ∧ (rolled roll s).sc = s.sc ∧ LineKept s (rolled roll s) ∧ OutsideKept s (rolled roll s) := by
  rw [rolled_eq htransit]
  exact ⟨rfl, rfl, ⟨rfl, rfl⟩, .refl s⟩

theorem LineKept.trans {s t u : State} (h : LineKept s t) (h' : LineKept t u) : LineKept s u :=
  ⟨h'.1.trans h.1, h'.2.trans h.2⟩

theorem lineKept_settleBus (n : Nat) (s : State) : LineKept s (settleBus n s) := ⟨settleBus_tx .., settleBus_rx ..⟩

theorem outsideKept_settleBus (n : Nat) (s : State) : OutsideKept s (settleBus n s) :=
  ⟨settleBus_clock .., settleBus_lineIn .., settleBus_pinsIn .., settleBus_pending ..⟩

theorem fitFor_callMarker {s : State} {e : TransitEntry} (hcall : e.element = .call) (entries : List CallEntry) (span : ReturnSpan) :
    fitFor s e (.callMarkerReturn entries span) = some (.callMarker entries) := by
  simp only [fitFor, deliveryOf, Option.bind_some, fitOf, hcall, callFit]

/-- The roll call that an accepted CALL brings in OPEN or DRAINING, and the CALL-NOW it answers (R57, R123). -/
theorem applyFit_accepted {s : State} {e : TransitEntry} {entries : List CallEntry} {roll : List (Addr × Bool)}
    (hroll : rollOf entries = some roll) (hstate : s.ls.state ≠ .calling) :
    applyFit e (.callMarker entries) s =
      if e.demand = true then answerCallNow (noticeClosed .stationChange s.cu) (changeCount s roll) (rolled roll s)
      else rolled roll s := by
  simp only [applyFit, if_neg hstate, callReturned, hroll]
  rfl

/-- The roll call of CALLING, the loop OPEN behind it (R62). -/
def openedByRoll (roll : List (Addr × Bool)) (s : State) : State :=
  { rolled roll s with ls := { (rolled roll s).ls with state := .opened }, cu := afterRaise (loopRaise .opened) (rolled roll s).cu }

theorem applyFit_accepted_calling {s : State} {e : TransitEntry} {entries : List CallEntry} {roll : List (Addr × Bool)}
    (hroll : rollOf entries = some roll) (hstate : s.ls.state = .calling) :
    applyFit e (.callMarker entries) s = openedByRoll roll s := by
  simp only [applyFit, if_pos hstate, callingReturned, hroll, raiseLoopState, raiseNotice_eq]
  rfl

/-- An accepted CALL: the roll call, and behind it what answers its CALL-NOW or opens the loop (R57, R62, R123). -/
theorem exec_accepted {s : State} {e : TransitEntry} {rest : List TransitEntry} {entries : List CallEntry} {span : ReturnSpan}
    {roll : List (Addr × Bool)} (hold : OldestAwaited s e rest ∨ s.ls.state = .calling ∧ s.ls.transit = e :: rest)
    (hcall : e.element = .call) (harrives : ArrivesNow s (.callMarkerReturn entries span)) (hroll : rollOf entries = some roll)
    (hnames : RollNames entries roll) :
    ∃ u, exec (.callMarkerReturn entries span) s = .next (settleBus s.hp.queue.length u) ∧
      applyFit e (.callMarker entries) s = u ∧ u.ls = lsAfterRoll rest entries s.ls ∧
      ControlOnly (e.demand = true ∧ s.ls.state ≠ .calling) (rolled roll s) u := by
  have hfit := fitFor_callMarker (s := s) hcall entries span
  refine ⟨applyFit e (.callMarker entries) s, ?_, rfl, ?_⟩
  all_goals rcases hold with hold | ⟨hcalling, htransit⟩
  case refine_1.inl =>
    have hstate : s.ls.state ≠ .calling := by
      rcases hold.2 with h | ⟨h, -⟩ <;> rw [h] <;> decide
    have hls : (applyFit e (.callMarker entries) s).ls = (rolled roll s).ls := by
      rw [applyFit_accepted hroll hstate]
      split
      · exact ls_answerCallNow ..
      · rfl
    rw [ls_rolled hold.1 hnames] at hls
    exact exec_awaited hold harrives hfit rfl (by rw [hls]) (by rw [hls])
  case refine_1.inr =>
    rw [exec_matched htransit (.inr (.inl hcalling)) harrives hfit, applyFit_accepted_calling hroll hcalling, quietWhenDrained, if_neg]
    exact fun h => nomatch h.1
  case refine_2.inl =>
    have hstate : s.ls.state ≠ .calling := by
      rcases hold.2 with h | ⟨h, -⟩ <;> rw [h] <;> decide
    rw [applyFit_accepted hroll hstate, lsAfterRoll, if_neg hstate, ← ls_rolled hold.1 hnames]
    split
    · rename_i hdemand
      simp only [hdemand, hstate, ne_eq, not_false_eq_true, and_self]
      exact ⟨ls_answerCallNow .., answerCallNow_controlOnly ..⟩
    · exact ⟨rfl, .refl ..⟩
  case refine_2.inr =>
    rw [applyFit_accepted_calling hroll hcalling, lsAfterRoll, if_pos hcalling]
    refine ⟨?_, rfl, rfl, rfl, ⟨rfl, rfl⟩, .refl _, fun _ _ => rfl, fun _ _ => rfl⟩
    rw [openedByRoll, ls_rolled htransit hnames]

/-- The roll call of the state whose oldest entry has left is that of the state before. -/
theorem reconciled_popOldest (roll : List (Addr × Bool)) (s : State) (a : Addr) :
    stationAfterRoll (popOldest s) roll a = stationAfterRoll s roll a ∧ leavesPresent (popOldest s) roll a = leavesPresent s roll a :=
  ⟨rfl, rfl⟩

theorem entry_rolled_free {s : State} {roll : List (Addr × Bool)} {p : PoolIx} (h : ∀ a, (station s a).outstanding ≠ some p) :
    entry (rolled roll s) p = entry s p := (entry_reconcile roll (popOldest s) p).1 h

/-- The outstanding request of one station after a roll call (R54, R55). -/
theorem entry_rolled_owner {s : State} {roll : List (Addr × Bool)} {a : Addr} {p : PoolIx} {q : PoolEntry}
    (h : (station s a).outstanding = some p) (hunique : ∀ b, (station s b).outstanding = some p → b = a) (hq : entry s p = some q) :
    entry (rolled roll s) p = some (
      let q' := if shownJoining roll a = true then joinResetEntry q else q
      if leavesPresent s roll a = true then stationLeftEntry q' else q') :=
  (entry_reconcile roll (popOldest s) p).2 a q h hunique hq

end Sys2Proof.Machine

section

set_option Elab.async false

open Sys2Proof.Machine

/-- Settles O48: the table of R58 and R59, the JOIN resets and the stations that left PRESENT, one outstanding request each. -/
theorem rollCallReconciles : Obligations.RollCallReconciles := by
  unfold Obligations.RollCallReconciles
  intro s e rest entries span hold hcall harrives haccepted
  obtain ⟨roll, hroll, hmapped⟩ := rollOf_of_accepted haccepted
  have hnames : RollNames entries roll := hmapped
  obtain ⟨u, hexec, -, huls, hu⟩ := exec_accepted hold hcall harrives hroll hnames
  have htransit : s.ls.transit = e :: rest := by
    rcases hold with hold | hold
    · exact hold.1
    · exact hold.2
  have hst : u.st = rollTable s roll := by rw [hu.st, rolled_eq htransit]
  have hstation (a : Sys2Proof.Addr) : station (settleBus s.hp.queue.length u) a = stationAfterRoll s roll a :=
    (station_congr (settleBus_st ..) a).trans (station_of_rollTable hst a)
  have hmap : (settleBus s.hp.queue.length u).st.loopMap = mapOfRoll roll := by rw [settleBus_st, hst]; rfl
  have hacks (a : Sys2Proof.Addr) :
      (settleBus s.hp.queue.length u).ru.acks[a] = if shownJoining roll a = true then none else s.ru.acks[a] := by
    rw [settleBus_ru, hu.ru]
    exact acks_reconcile roll (popOldest s) a
  have hjoins (a : Sys2Proof.Addr) :
      (∃ x ∈ entries.filter (fun x => x.address.toNat = a.val + 1), x.join = true) ↔ shownJoining roll a = true := by
    simp only [hnames.shownJoining, List.mem_filter, decide_eq_true_eq, and_assoc]
  have hentry (p : Sys2Proof.PoolIx) : entry (settleBus s.hp.queue.length u) p = entry u p := entry_congr (settleBus_rp ..) p
  obtain ⟨hhost, -, hline, hout⟩ := rolled_keeps htransit roll
  have hstate (a : Sys2Proof.Addr) : (station (settleBus s.hp.queue.length u) a).state =
      stateAfterRoll (station s a).state (entries.filter (fun x => x.address.toNat = a.val + 1)).length := by
    rw [hstation, ← hnames.timesShown]
    rfl
  refine ⟨_, hexec, fun a => ?states, fun a ha => ?joined, fun a ha => ?notJoined, fun a => ?failures, fun a => ?fields, fun a => ?map,
    ?mapOrder, fun a => ?position, ?loop, fun p hp hfree => ?free, fun a p q hout hunique hq hp => ?owner, fun l hl => ?lists,
    (hhost.trans hu.host).trans (hostKept_settleBus ..), (hline.trans hu.line).trans (lineKept_settleBus ..),
    (hout.trans hu.outside).trans (outsideKept_settleBus ..)⟩
  case states =>
    rw [hstate]
    generalize (station s a).state = old
    generalize (entries.filter (fun x => x.address.toNat = a.val + 1)).length = k
    cases old <;> rcases k with _ | _ | k <;> rfl
  case joined =>
    have hjoin := (hjoins a).mp ha
    rw [hstation, hacks, if_pos hjoin]
    simp only [stationAfterRoll, hjoin, if_true, and_self]
  case notJoined =>
    have hjoin : ¬shownJoining roll a = true := fun h => ha ((hjoins a).mpr h)
    rw [hstation, hacks, if_neg hjoin]
    simp only [stationAfterRoll, if_neg hjoin, and_self]
  case failures =>
    rw [hstation]
    rfl
  case fields =>
    rw [hstation]
    exact ⟨rfl, rfl, rfl⟩
  case map =>
    rw [hmap, hnames.mem_mapOfRoll]
    simp only [ne_eq, List.filter_eq_nil_iff, decide_eq_true_eq, not_forall, not_not, exists_prop]
  case mapOrder =>
    rw [hmap]
    exact hnames.map_pairwise
  case position =>
    rw [hmap, hstation]
    rfl
  case loop =>
    rw [settleBus_ls, huls]
    rfl
  case free =>
    rw [hentry, hu.entries p (by rw [listOf_rolled]; exact hp), entry_rolled_free hfree]
  case owner =>
    have hleaves : leavesPresent s roll a = true ↔
        (station s a).state = .present ∧ (station (settleBus s.hp.queue.length u) a).state ≠ .present := by
      rw [hstation]
      exact decide_eq_true_iff
    have howner := (hu.entries p (by rw [listOf_rolled]; exact hp)).trans (entry_rolled_owner hout hunique hq)
    rw [hentry, howner]
    refine ⟨fun ha => ?_, fun ha => ?_⟩
    · simp only [(hjoins a).mp ha, if_true, hleaves, stationLeftEntry, joinResetEntry]
      by_cases hpaused : q.phase = .paused <;> by_cases hleft : (station s a).state = .present ∧
        (station (settleBus s.hp.queue.length u) a).state ≠ .present <;> simp [hpaused, hleft]
    · have hjoin : ¬shownJoining roll a = true := fun h => ha ((hjoins a).mpr h)
      simp only [if_neg hjoin, hleaves, stationLeftEntry]
      by_cases hpaused : q.phase = .paused <;> by_cases hleft : (station s a).state = .present ∧
        (station (settleBus s.hp.queue.length u) a).state ≠ .present <;> simp [hpaused, hleft]
  case lists =>
    rw [listOf_congr (settleBus_rp ..), hu.lists l hl, listOf_rolled]

end

namespace Sys2Proof.Machine

set_option Elab.async false

/-- The head of the control list before a roll call is its head afterwards, with the record it had. -/
theorem IsHead.rolled {s : State} {p : PoolIx} {q : PoolEntry} (h : IsHead s .control p q) (roll : List (Addr × Bool)) :
    ∃ q', IsHead (rolled roll s) .control p q' ∧ SameRecord q q' := by
  obtain ⟨hhead, hq⟩ := h
  obtain ⟨q', hq', hsame⟩ := recordsKept_reconcile roll (popOldest s) p q hq
  exact ⟨q', ⟨by rw [listOf_rolled]; exact hhead, hq'⟩, hsame⟩

theorem cu_rolled {s : State} {e : TransitEntry} {rest : List TransitEntry} (htransit : s.ls.transit = e :: rest)
    (roll : List (Addr × Bool)) : (rolled roll s).cu = afterRollCall (changeCount s roll) s.cu := by rw [rolled_eq htransit]

theorem afterRollCall_reserved (n : Nat) (cu : CompletionUnit) : (afterRollCall n cu).reserved = cu.reserved := by
  unfold afterRollCall
  split
  · rfl
  · unfold afterRaise
    split <;> rfl

theorem answerCallNow_of_held {n : Nat} {held : Bool} (hn : n ≠ 0) (hheld : held = true) (s : State) :
    answerCallNow held n s = { s with cu := { s.cu with callAnswer := some n } } :=
  if_pos ⟨Nat.pos_of_ne_zero hn, hheld⟩

theorem answerCallNow_of_free {n : Nat} {held : Bool} (h : n = 0 ∨ ¬held = true) (s : State) :
    answerCallNow held n s = finishCallNow .ok n s :=
  if_neg fun hn => h.elim (fun h0 => absurd hn.1 (by omega)) fun hfree => hfree hn.2

end Sys2Proof.Machine

section

set_option Elab.async false

open Sys2Proof.Machine

/-- Settles O49: the count is the model's, its notice is raised before the CALL-NOW is answered or held. -/
theorem rollCallCountsChanges : Obligations.RollCallCountsChanges := by
  unfold Obligations.RollCallCountsChanges
  intro s e rest entries span hold hcall harrives haccepted
  obtain ⟨roll, hroll, hmapped⟩ := rollOf_of_accepted haccepted
  have hnames : RollNames entries roll := hmapped
  obtain ⟨u, hexec, happly, -, hu⟩ := exec_accepted (.inl hold) hcall harrives hroll hnames
  have hcount : rollChanges s (settleBus s.hp.queue.length u) entries = changeCount s roll :=
    rollChanges_eq hnames (by rw [settleBus_st, hu.st, rolled_eq hold.1])
  have hstate : s.ls.state ≠ .calling := by
    rcases hold.2 with h | ⟨h, -⟩ <;> rw [h] <;> decide
  rw [applyFit_accepted hroll hstate] at happly
  refine ⟨_, changeCount s roll, hexec, hcount.symm, fun hdemand => ?timer, fun p q hdemand hfree hhead hkind => ?answered,
    fun hdemand hn hheld => ?held⟩
  case timer =>
    rw [hdemand, if_neg Bool.false_ne_true] at happly
    rw [settleBus_cu, ← happly, cu_rolled hold.1]
  case answered =>
    obtain ⟨q', hhead', hsame⟩ := hhead.rolled roll
    have hkind' : q'.kind = .callNow := hsame.1.trans hkind
    have hlist : listFor q'.kind q'.address = .control := by rw [hkind']; rfl
    rw [if_pos hdemand, answerCallNow_of_free (hfree.imp_right fun h hclosed => h ((noticeClosed_iff ..).mp hclosed)),
      finishCallNow_of_isHead hhead' hkind'] at happly
    obtain ⟨hcu, hgone, hlost, -⟩ := finishRequest_resolves hhead'.2 .ok 0 (changeCount s roll) .useReserved
    rw [hlist, happly, listOf_rolled] at hlost
    rw [happly] at hcu hgone
    have hreserved := reserved_finishRequest hhead'.2 .ok 0 (changeCount s roll) .useReserved
    rw [happly, cu_rolled hold.1, afterRollCall_reserved] at hreserved
    refine ⟨?_, (entry_congr (settleBus_rp ..) p).trans hgone, (listOf_congr (settleBus_rp ..) _).trans hlost⟩
    rw [settleBus_cu, hcu, hreserved, doneRecord_eq_controlRecord hlist (by rw [hkind']; decide), hsame.controlRecord_eq,
      cu_rolled hold.1]
    rfl
  case held =>
    rw [if_pos hdemand, answerCallNow_of_held hn ((noticeClosed_iff ..).mpr hheld)] at happly
    subst happly
    refine ⟨?_, fun l => (listOf_congr (settleBus_rp ..) l).trans (listOf_rolled roll s l),
      fun p hfree => (entry_congr (settleBus_rp ..) p).trans (entry_rolled_free hfree)⟩
    rw [settleBus_cu, cu_rolled hold.1]

end

/-! ## The loop comes up (R27, R30, R31, R62) -/

namespace Sys2Proof.Machine

set_option Elab.async false

/-- A delivery in PROBING is judged against the PROBE alone (R27). -/
theorem exec_probing {s : State} {cmd : Instr} (hprobing : s.ls.state = .probing) (harrives : ArrivesNow s cmd) :
    ∃ d, deliveryOf cmd = some d ∧ exec cmd s = .next (settleBus s.hp.queue.length (deliverProbing d s)) := by
  obtain ⟨d, hd, hexec⟩ := exec_of_arrivesNow harrives
  refine ⟨d, hd, ?_⟩
  have hreceives : receiverDelivers s = true := by simp only [receiverDelivers, hprobing]
  rw [hexec, answerWithBus, hreceives, if_pos rfl]
  simp only [deliver, hprobing]

/-- When a PROBE succeeds: its number and the probe limit (R27). -/
theorem probeGood_iff {s : State} {c : Configuration} (hc : s.hp.config = some c) (e : TransitEntry) (echo : Octet) (stop : Nat) :
    probeGood s e echo stop = true ↔ echo = s.ls.probeNumber ∧ ∀ sent, e.sendEnd = some sent → stop ≤ sent + c.probeLimit := by
  have hconfigured : configured s = c := configured_of_some hc
  unfold probeGood
  rw [Bool.and_eq_true, decide_eq_true_eq, hconfigured]
  cases e.sendEnd <;> simp

theorem probeMeasured_eq {s : State} {e : TransitEntry} {rest : List TransitEntry} {sent : Nat} (htransit : s.ls.transit = e :: rest)
    (hsent : e.sendEnd = some sent) (start : Nat) :
    probeMeasured e start s =
      { s with ls := { s.ls with transit := rest, probeTimer := none, rawDelay := min 65535 (start - sent) } } := by
  simp only [probeMeasured, popOldest_transit htransit, measuredDelay, hsent]

/-- The CALL of CALLING waits at the transmitter, and the call timer is restarted (R30, R122). -/
theorem startCalling_eq {s : State} {c : Configuration} (hc : s.hp.config = some c) :
    startCalling s = { s with
      ls := { s.ls with state := .calling, transit := s.ls.transit ++ [plainEntry s.tx.nextId .call] }
      tx := withWaiting s.tx callSymbols
      sc := { s.sc with callTimer := some (s.clock.cycles + c.callInterval * 16000), callDue := false } } := by
  have hconfigured : configured { s with ls := { s.ls with state := .calling } } = c := configured_of_some hc
  rw [startCalling, restartCallTimer, hconfigured]
  rfl

end Sys2Proof.Machine

section

set_option Elab.async false

open Sys2Proof.Machine

/-- Settles O51: a PROBE that succeeds starts CALLING, and the accepted CALL of CALLING opens the loop. -/
theorem loopComesUp : Obligations.LoopComesUp := by
  unfold Obligations.LoopComesUp
  intro s e c htransit hc
  refine ⟨fun sent span hprobing hprobe hsent hlimit harrives => ?probed, fun entries span hcalling hcall harrives haccepted => ?opened⟩
  case probed =>
    obtain ⟨d, hd, hexec⟩ := exec_probing hprobing harrives
    cases hd
    have hgood : probeGood s e s.ls.probeNumber span.stop = true :=
      (probeGood_iff hc ..).mpr ⟨rfl, fun t ht => by rw [hsent] at ht; cases ht; exact hlimit⟩
    have hdelivered : deliverProbing { item := .probeMarker s.ls.probeNumber, span := span } s =
        startCalling (probeMeasured e span.start s) := by
      simp only [deliverProbing, htransit]
      exact if_pos ⟨hprobe, hgood⟩
    rw [hdelivered] at hexec
    obtain ⟨bus, queue, hsettled, hacc⟩ := settleBus_eq (n := s.hp.queue.length) (s := startCalling (probeMeasured e span.start s))
      (Nat.le_succ _)
    refine ⟨_, hexec.trans (congrArg _ hsettled), hacc, ?_⟩
    rw [startCalling_eq (by exact hc), probeMeasured_eq htransit hsent]
    rfl
  case opened =>
    obtain ⟨roll, hroll, hmapped⟩ := rollOf_of_accepted haccepted
    have hnames : RollNames entries roll := hmapped
    obtain ⟨u, hexec, happly, huls, hu⟩ := exec_accepted (.inr ⟨hcalling, htransit⟩) hcall harrives hroll hnames
    rw [applyFit_accepted_calling hroll hcalling] at happly
    obtain ⟨hhost, hsc, hline, hout⟩ := rolled_keeps htransit roll
    have hst : (settleBus s.hp.queue.length u).st = rollTable s roll := by rw [settleBus_st, hu.st, rolled_eq htransit]
    refine ⟨_, hexec, ?_, ?_, fun a => ?_, (hhost.trans hu.host).trans (hostKept_settleBus ..), ?_,
      (hline.trans hu.line).trans (lineKept_settleBus ..), (hout.trans hu.outside).trans (outsideKept_settleBus ..)⟩
    · rw [settleBus_ls, huls, lsAfterRoll, if_pos hcalling]
    · rw [settleBus_cu, rollChanges_eq hnames hst, ← happly, openedByRoll, cu_rolled htransit]
    · rw [hst]
      exact hnames.mem_mapOfRoll a
    · rw [settleBus_sc, ← happly]
      exact hsc

end

/-! ## One transit entry given up (R43) -/

namespace Sys2Proof.Machine

set_option Elab.async false

/-- Request `q` of entry `p` has left the pool between `s` and `x`, and its list goes on (R144, R148, R151). -/
structure PoolEnded (s x : State) (p : PoolIx) (q : PoolEntry) : Prop where
  here : entry s p = some q
  gone : entry x p = none
  list : listOf x (listFor q.kind q.address) = (listOf s (listFor q.kind q.address)).erase p
  lists : ∀ m, m ≠ listFor q.kind q.address → listOf x m = listOf s m
  others : ∀ r, r ≠ p → (listOf x (listFor q.kind q.address)).head? ≠ some r → entry x r = entry s r
  next : ∃ more, accesses x = accessesWithout p s ++ more ∧
    ∀ r y, (listOf x (listFor q.kind q.address)).head? = some r → r ≠ p → entry s r = some y →
      BecomesHead s x (listFor q.kind q.address) r y more
  timers : ∀ a, ListId.station a ≠ listFor q.kind q.address → headTimer x a = headTimer s a
  homes : ∀ r, homeOf x r = if r = p then none else homeOf s r

theorem Resolves.poolEnded {s s' x : State} {p : PoolIx} {q : PoolEntry} {r : CompletionRecord}
    (h : Resolves s' x (accessesWithout p s') p q r) (hq : entry s p = some q)
    (hhomes : ∀ r, homeOf x r = if r = p then none else homeOf s r) (hrp : s'.rp = s.rp := by rfl) (hsc : s'.sc = s.sc := by rfl)
    (hhp : s'.hp = s.hp := by rfl) (hclock : s'.clock = s.clock := by rfl) : PoolEnded s x p q := by
  obtain ⟨-, hgone, hlist, hlists, hothers, ⟨more, hacc, hnext, -⟩, -, -, htimers, -⟩ := h
  refine ⟨hq, hgone, by rw [hlist, listOf_congr hrp], fun m hm => by rw [hlists m hm, listOf_congr hrp],
    fun r hr hh => by rw [hothers r hr hh, entry_congr hrp], ⟨more, ?_, fun r y hh hr hy => ?_⟩,
    fun a ha => by rw [htimers a ha, headTimer_congr hsc], hhomes⟩
  · rw [hacc]
    simp only [accessesWithout, hhp]
  · have hbecomes := hnext r y hh hr (by rw [entry_congr hrp, hy])
    unfold BecomesHead at hbecomes ⊢
    rwa [hhp, hclock] at hbecomes

/-- Request `q` of entry `p` has become `q'` between `s` and `x`, and the pool is otherwise as before (R91). -/
structure PoolChanged (s x : State) (p : PoolIx) (q q' : PoolEntry) : Prop where
  here : entry s p = some q
  now : entry x p = some q'
  kept : PoolKeptBut p s x
  sc : x.sc = s.sc
  accesses : accesses x = accesses s

/-- The element of the entry serves a request through its pool entry (R77 to R79, R128). -/
def CarriesRequest (e : TransitEntry) : Prop := e.element = .exch ∨ e.element = .post ∨ e.element = .group ∨ e.element = .rest

/-- The request that giving up an entry ends or changes: that of its pool entry, or a SWEEP-NOW or CALL-NOW that completes with it
(R43). -/
def touchedBy (s : State) (e : TransitEntry) : Option PoolIx :=
  match e.element with
  | .exch | .post | .group | .rest => e.pool
  | .sweep | .call => if brokenRecord s e = none then none else (listOf s .control).head?
  | .probe => none

theorem touchedBy_of_carries {s : State} {e : TransitEntry} (h : CarriesRequest e) : touchedBy s e = e.pool := by
  rcases h with h | h | h | h <;> simp only [touchedBy, h]

/-- What giving up an entry does to the pool: its request ends, is PAUSED, or there is none (R43). -/
inductive PoolStep (c : Configuration) (s x : State) (e : TransitEntry) : Prop
  | ended (p : PoolIx) (q : PoolEntry) (htouched : touchedBy s e = some p) (hrecord : brokenRecord s e ≠ none) (h : PoolEnded s x p q)
  | paused (p : PoolIx) (q : PoolEntry) (hwork : e.element = .exch ∨ e.element = .post) (hpool : e.pool = some p)
    (hrecord : brokenRecord s e = none) (h : PoolChanged s x p q (pausedByBreak s c q))
  | same (hrecord : brokenRecord s e = none) (hfree : ∀ p, touchedBy s e = some p → entry s p = none) (hrp : x.rp = s.rp)
    (hsc : x.sc = s.sc) (haccesses : accesses x = accesses s)

/-- What giving up one transit entry does (R43). -/
structure EntryGivenUp (c : Configuration) (s x : State) (e : TransitEntry) : Prop where
  cu : x.cu = { withRecords (brokenRecord s e).toList s.cu with reserved := s.cu.reserved - brokenSlots s e }
  map : x.st.loopMap = s.st.loopMap
  stations : ∀ a, station x a = { station s a with outstanding := (station x a).outstanding }
  links : ∀ a, (station x a).outstanding = (station s a).outstanding ∨
    (station x a).outstanding = none ∧ brokenRecord s e ≠ none ∧ CarriesRequest e ∧ (station s a).outstanding = e.pool
  unlinked : ∀ p q a, CarriesRequest e → e.pool = some p → entry s p = some q → requestStation q = some a → brokenRecord s e ≠ none →
    (station x a).outstanding ≠ some p
  sweep : e.element = .sweep → SweepGivenUp s x e
  ru : e.element ≠ .sweep → x.ru = s.ru
  pool : PoolStep c s x e
  ls : x.ls = s.ls
  ri : x.ri = s.ri
  host : HostKept s x
  line : LineKept s x
  outside : OutsideKept s x

/-! ### The kinds of elements -/

theorem putEntry_putEntry (p : PoolIx) (e e' : Option PoolEntry) (s : State) : putEntry p e (putEntry p e' s) = putEntry p e s := by
  simp [putEntry, Vector.set_set]

/-- A request whose attempt was lost to a break (R43). -/
def lostEntry (q : PoolEntry) : PoolEntry := { q with attempts := q.attempts + 1, lastOutcome := some .lostToBreak }

/-- A request whose outcome was written ends, and its entry is given up with it (R43, R50, R130). -/
theorem entryGivenUp_of_finish {c : Configuration} {s : State} {e : TransitEntry} {p : PoolIx} {q q' : PoolEntry} {status : Status}
    (hcarries : CarriesRequest e) (hpool : e.pool = some p) (hq : entry s p = some q) (hkind : q'.kind = q.kind)
    (haddress : q'.address = q.address) (hrecord : brokenRecord s e = some (doneRecord s q' status 0 0)) (hslots : brokenSlots s e = 1) :
    EntryGivenUp c s (finishRequest p status 0 0 .useReserved (putEntry p (some q') s)) e := by
  have hq' : entry (putEntry p (some q') s) p = some q' := entry_putEntry_same ..
  have hnotSweep : e.element ≠ .sweep := by rcases hcarries with h | h | h | h <;> rw [h] <;> decide
  have hresolves : Resolves s (finishRequest p status 0 0 .useReserved (putEntry p (some q') s)) (accessesWithout p s) p q
      (doneRecord s q' status 0 0) :=
    (finishRequest_resolves hq' status 0 0 .useReserved).of_start hkind haddress rfl (poolKeptBut_putEntry p _ s) rfl rfl rfl rfl
      ⟨rfl, rfl⟩ (.refl s)
  have hhomes (r : PoolIx) : homeOf (finishRequest p status 0 0 .useReserved (putEntry p (some q') s)) r =
      if r = p then none else homeOf s r := by
    rw [homeOf_finishRequest, homeOf_putEntry_of_kept hq hkind haddress]
  have hstation (a : Addr) := station_finishRequest hq' status 0 0 .useReserved a
  have hsome : brokenRecord s e ≠ none := by rw [hrecord]; exact Option.some_ne_none _
  obtain ⟨hcu, -, -, -, -, -, hhost, -, -, hri, hru, hline, hout⟩ := id hresolves
  refine {
    cu := ?_, map := loopMap_finishRequest .., stations := fun a => ?_, links := fun a => ?_, unlinked := fun p' x a _ hp' hx ha _ => ?_,
    sweep := fun h => absurd h hnotSweep, ru := fun _ => hru,
    pool := .ended p q (by rw [touchedBy_of_carries hcarries, hpool]) hsome (hresolves.poolEnded hq hhomes),
    ls := finishRequest_ls .., ri := hri, host := hhost, line := hline, outside := hout }
  · rw [hcu, reserved_finishRequest hq', hrecord, hslots]
    rfl
  · rw [hstation]
    split <;> rfl
  · rw [hstation]
    split
    · rename_i h
      exact .inr ⟨rfl, hsome, hcarries, h.2.trans hpool.symm⟩
    · exact .inl rfl
  · rw [hpool] at hp'
    cases hp'
    rw [hq] at hx
    cases hx
    have hlist : listFor q'.kind q'.address = .station a := by rw [hkind, haddress]; exact requestStation_eq_some.mp ha
    rw [hstation]
    split
    · exact (Option.some_ne_none p).symm
    · rename_i h
      exact fun hout => h ⟨hlist, hout⟩

theorem resolveByBreak_work {s : State} {e : TransitEntry} {p : PoolIx} {q : PoolEntry} {a : Addr} {c : Configuration}
    (hwork : e.element = .exch ∨ e.element = .post) (hserves : ServesStation s e p q a) (hc : s.hp.config = some c) :
    resolveByBreak e s = match brokenStatus s q a with
      | some status => finishRequest p status 0 0 .useReserved (putEntry p (some (lostEntry q)) s)
      | none => giveBackSlots 1 (putEntry p (some (pausedByBreak s c q)) s) := by
  obtain ⟨hpool, hq, ha⟩ := hserves
  have hresolve : resolveByBreak e s = failedAttempt a p true (putEntry p (some (withOutcome .lostToBreak q)) s) := by
    rcases hwork with h | h <;> simp only [resolveByBreak, h, withStationRequest_eq hpool hq ha, writeOutcome_eq hq]
  rw [hresolve, failedAttempt_eq (q := withOutcome .lostToBreak q) (c := c) (entry_putEntry_same ..) hc]
  simp only [putEntry_putEntry, brokenStatus]
  by_cases hmark : q.expiryMark = true
  · rw [if_pos hmark, if_pos (by exact hmark)]
    rfl
  rw [if_neg hmark, if_neg (by exact hmark)]
  by_cases hstate : (station s a).state ≠ .present
  · rw [if_pos hstate, if_pos (by exact hstate)]
    rfl
  rw [if_neg hstate, if_neg (by exact hstate)]
  by_cases hlimit : q.attempts + 1 = q.attemptLimit
  · rw [if_pos hlimit, if_pos ⟨trivial, hlimit⟩]
    rfl
  · rw [if_neg hlimit, if_neg fun h => hlimit h.2]
    rfl

theorem brokenRecord_work {s : State} {e : TransitEntry} {p : PoolIx} {q : PoolEntry} {a : Addr}
    (hwork : e.element = .exch ∨ e.element = .post) (hserves : ServesStation s e p q a) :
    brokenRecord s e = (brokenStatus s q a).map (fun status => lostRecord s q status (q.attempts + 1) .lostToBreak) := by
  obtain ⟨hpool, hq, ha⟩ := hserves
  rcases hwork with h | h <;> simp only [brokenRecord, h, hpool, Option.bind_some, hq, ha]

theorem entryGivenUp_work {s : State} {e : TransitEntry} {p : PoolIx} {q : PoolEntry} {a : Addr} {c : Configuration}
    (hwork : e.element = .exch ∨ e.element = .post) (hserves : ServesStation s e p q a) (hc : s.hp.config = some c) :
    EntryGivenUp c s (resolveByBreak e s) e := by
  have hcarries : CarriesRequest e := hwork.elim .inl fun h => .inr (.inl h)
  have hslots : brokenSlots s e = 1 := by rcases hwork with h | h <;> simp only [brokenSlots, h]
  have hrecord := brokenRecord_work hwork hserves
  rw [resolveByBreak_work hwork hserves hc]
  obtain ⟨hpool, hq, ha⟩ := hserves
  cases hstatus : brokenStatus s q a with
  | some status =>
    rw [hstatus] at hrecord
    exact entryGivenUp_of_finish hcarries hpool hq rfl rfl hrecord hslots
  | none =>
    rw [hstatus, Option.map_none] at hrecord
    have hnotSweep : e.element ≠ .sweep := by rcases hwork with h | h <;> rw [h] <;> decide
    exact {
      cu := by rw [hrecord, hslots]; simp only [Option.toList_none, withRecords, List.append_nil]; rfl
      map := rfl, stations := fun _ => rfl, links := fun _ => .inl rfl
      unlinked := fun _ _ _ _ _ _ _ h => absurd hrecord h
      sweep := fun h => absurd h hnotSweep, ru := fun _ => rfl
      pool := .paused p q hwork hpool hrecord ⟨hq, entry_putEntry_same .., poolKeptBut_putEntry p _ s, rfl, rfl⟩
      ls := rfl, ri := rfl, host := rfl, line := ⟨rfl, rfl⟩, outside := .refl s }

/-- Giving up an entry that changes nothing: a PROBE, or one whose request is gone (R43). -/
theorem entryGivenUp_of_same {c : Configuration} {s : State} {e : TransitEntry} (hrecord : brokenRecord s e = none)
    (hslots : brokenSlots s e = 0) (hsweep : e.element ≠ .sweep) (hfree : ∀ p, touchedBy s e = some p → entry s p = none) :
    EntryGivenUp c s s e where
  cu := by rw [hrecord, hslots]; simp only [Option.toList_none, withRecords, List.append_nil]; rfl
  map := rfl
  stations _ := rfl
  links _ := .inl rfl
  unlinked _ _ _ _ _ _ _ h := absurd hrecord h
  sweep h := absurd h hsweep
  ru _ := rfl
  pool := .same hrecord hfree rfl rfl rfl
  ls := rfl
  ri := rfl
  host := rfl
  line := ⟨rfl, rfl⟩
  outside := .refl s

/-- A GROUP or REST: its request ends, where it is there (R43, R68, R95). -/
theorem entryGivenUp_frame {s : State} {e : TransitEntry} (c : Configuration) (hframe : e.element = .group ∨ e.element = .rest) :
    EntryGivenUp c s (resolveByBreak e s) e := by
  have hcarries : CarriesRequest e := .inr (.inr hframe)
  have hnotSweep : e.element ≠ .sweep := by rcases hframe with h | h <;> rw [h] <;> decide
  cases hq : e.pool.bind (entry s) with
  | none =>
    have hrecord : brokenRecord s e = none := by rcases hframe with h | h <;> simp only [brokenRecord, h, hq, Option.map_none]
    have hslots : brokenSlots s e = 0 := by rcases hframe with h | h <;> simp only [brokenSlots, h, hrecord] <;> rfl
    have hfree (p : PoolIx) (hp : e.pool = some p) : entry s p = none := by rwa [hp] at hq
    have hsame : resolveByBreak e s = s := by
      cases hpool : e.pool with
      | none => rcases hframe with h | h <;> simp only [resolveByBreak, h, withRequest, hpool]
      | some p =>
        have hwritten (o : LastOutcome) : writeOutcome p o s = s := by simp only [writeOutcome, modEntry, hfree p hpool]
        rcases hframe with h | h <;>
          simp only [resolveByBreak, h, withRequest, hpool, hwritten, finishRequest_of_none (hfree p hpool)]
    rw [hsame]
    exact entryGivenUp_of_same hrecord hslots hnotSweep fun p hp => hfree p (by rwa [touchedBy_of_carries hcarries] at hp)
  | some q =>
    obtain ⟨p, hpool, hq⟩ := Option.bind_eq_some_iff.mp hq
    rcases hframe with h | h
    · have hrecord : brokenRecord s e = some (lostRecord s q .loopFault q.attempts .lostToBreak) := by
        simp only [brokenRecord, h, hpool, Option.bind_some, hq, Option.map_some]
      have hslots : brokenSlots s e = 1 := by simp only [brokenSlots, h, hrecord]; rfl
      simp only [resolveByBreak, h, withRequest_eq hpool, writeOutcome_eq hq]
      exact entryGivenUp_of_finish (q' := withOutcome .lostToBreak q) hcarries hpool hq rfl rfl hrecord hslots
    · have hrecord : brokenRecord s e = some (lostRecord s q .ok q.attempts .unknown) := by
        simp only [brokenRecord, h, hpool, Option.bind_some, hq, Option.map_some]
      have hslots : brokenSlots s e = 1 := by simp only [brokenSlots, h, hrecord]; rfl
      simp only [resolveByBreak, h, withRequest_eq hpool, writeOutcome_eq hq]
      exact entryGivenUp_of_finish (q' := withOutcome .unknown q) hcarries hpool hq rfl rfl hrecord hslots

/-! ### A SWEEP-NOW or CALL-NOW given up (R117, R123) -/

/-- The control head, if it is a request of this kind, completes through its reserved slot: what `finishSweepNow` and `finishCallNow`
share (R113, R123). -/
def finishHead (kind : RequestKind) (status : Status) (count : Nat) (s : State) : State :=
  match headEntry s .control with
  | some (p, e) => if e.kind = kind then finishRequest p status 0 count .useReserved s else s
  | none => s

theorem finishSweepNow_eq (status : Status) (count : Nat) (s : State) : finishSweepNow status count s = finishHead .sweepNow status count s := rfl

theorem finishCallNow_eq (status : Status) (count : Nat) (s : State) : finishCallNow status count s = finishHead .callNow status count s := rfl

theorem finishHead_cases {s s' : State} (hrp : s'.rp = s.rp) (kind : RequestKind) (count : Nat) :
    (lostControlHead s kind count = none ∧ finishHead kind .loopFault count s' = s') ∨
    ∃ p q, IsHead s .control p q ∧ q.kind = kind ∧ lostControlHead s kind count = some (controlRecord q .loopFault 0 count) ∧
      finishHead kind .loopFault count s' = finishRequest p .loopFault 0 count .useReserved s' := by
  unfold lostControlHead controlHeadRecord finishHead
  rw [headEntry_congr hrp]
  cases hhead : (listOf s .control).head? with
  | none => exact .inl ⟨rfl, by simp only [headEntry, hhead]⟩
  | some p =>
    cases hq : entry s p with
    | none => exact .inl ⟨by simp only [Option.bind_some, hq], by simp only [headEntry, hhead, hq, Option.map_none]⟩
    | some q =>
      simp only [Option.bind_some, headEntry, hhead, hq, Option.map_some]
      by_cases hkind : q.kind = kind
      · exact .inr ⟨p, q, ⟨hhead, hq⟩, hkind, if_pos hkind, if_pos hkind⟩
      · exact .inl ⟨if_neg hkind, if_neg hkind⟩

/-- The sweep state and the slots that giving up an entry settles before the request it served completes. -/
def settledState (ru : ReportUnit) (slots : Nat) (s : State) : State :=
  { s with ru := ru, cu := { s.cu with reserved := s.cu.reserved - slots } }

/-- A sweep or CALL given up: what it settles, and the SWEEP-NOW or CALL-NOW that completes behind it (R43, R117, R123). -/
theorem entryGivenUp_of_head {c : Configuration} {s : State} {e : TransitEntry} {ru : ReportUnit} {slots count : Nat} {kind : RequestKind}
    (hclosing : e.element = .sweep ∨ e.element = .call) (hlist : listFor kind = fun _ => .control) (hnotExchange : kind ≠ .exchange)
    (hrecord : brokenRecord s e = lostControlHead s kind count)
    (hslots : brokenSlots s e = slots + (brokenRecord s e).toList.length)
    (hsweep : e.element = .sweep → SweepGivenUp s (settledState ru slots s) e) (hcall : e.element = .call → ru = s.ru) :
    EntryGivenUp c s (finishHead kind .loopFault count (settledState ru slots s)) e := by
  have hnotRequest : ¬CarriesRequest e := by
    intro hcarries
    rcases hclosing with h | h <;> simp [CarriesRequest, h] at hcarries
  have htouched : touchedBy s e = if brokenRecord s e = none then none else (listOf s .control).head? := by
    rcases hclosing with h | h <;> simp only [touchedBy, h]
  have hnotSweep (h : e.element ≠ .sweep) : ru = s.ru := hcall (hclosing.resolve_left h)
  rcases finishHead_cases (s := s) (s' := settledState ru slots s) rfl kind count with ⟨hnone, hsame⟩ | ⟨p, q, hhead, hkind, hsome, hfinish⟩
  · rw [hsame]
    rw [hnone] at hrecord
    exact {
      cu := by rw [hslots, hrecord]; simp only [Option.toList_none, withRecords, List.append_nil]; rfl
      map := rfl, stations := fun _ => rfl, links := fun _ => .inl rfl
      unlinked := fun _ _ _ h => absurd h hnotRequest
      sweep := hsweep, ru := hnotSweep
      pool := .same hrecord (fun p h => by rw [htouched, if_pos hrecord] at h; cases h) rfl rfl rfl
      ls := rfl, ri := rfl, host := rfl, line := ⟨rfl, rfl⟩, outside := .refl s }
  · rw [hfinish]
    rw [hsome] at hrecord
    have hq : entry (settledState ru slots s) p = some q := hhead.2
    have hcontrol : listFor q.kind q.address = .control := by rw [hkind, hlist]
    have hresolves := finishRequest_resolves hq .loopFault 0 count .useReserved
    have hpool : PoolEnded s (finishRequest p .loopFault 0 count .useReserved (settledState ru slots s)) p q :=
      hresolves.poolEnded hhead.2 fun r => homeOf_finishRequest ..
    have hsome' : brokenRecord s e ≠ none := by rw [hrecord]; exact Option.some_ne_none _
    have hst : (finishRequest p .loopFault 0 count .useReserved (settledState ru slots s)).st = s.st :=
      st_finishRequest_of_control hq hcontrol ..
    have hstation (a : Addr) : station (finishRequest p .loopFault 0 count .useReserved (settledState ru slots s)) a = station s a :=
      station_congr hst a
    obtain ⟨hcu, -, -, -, -, -, hhost, -, -, hri, hru, hline, hout⟩ := hresolves
    refine {
      cu := ?_, map := by rw [hst], stations := fun a => by rw [hstation], links := fun a => .inl (by rw [hstation])
      unlinked := fun _ _ _ h => absurd h hnotRequest
      sweep := fun h => ?_, ru := fun h => hru.trans (hnotSweep h)
      pool := .ended p q (by rw [htouched, if_neg hsome', hhead.1]) hsome' hpool
      ls := finishRequest_ls .., ri := hri, host := hhost, line := hline, outside := hout }
    · rw [hcu, reserved_finishRequest hq, hslots, hrecord,
        doneRecord_eq_controlRecord hcontrol (by rw [hkind]; exact hnotExchange)]
      rfl
    · have hgiven := hsweep h
      unfold SweepGivenUp at hgiven ⊢
      rwa [hru]

theorem acceptedOf_eq (s : State) : acceptedOf s = (s.ru.sweep.map (fun w => w.accepted)).getD 0 := rfl

/-- The report unit when a sweep was given up, but for its SWEEP-NOW (R116, R117). -/
def sweepEmptied (s : State) : ReportUnit :=
  { s.ru with acks := tabulate (fun a => s.ru.acks[a].bind (settledAck false)), sweep := none }

theorem endSweep_lost (e : TransitEntry) (s : State) :
    endSweep false e s =
      if e.demand = true then
        if acceptedOf s = 0 ∨ s.ru.reports = [] then
          finishHead .sweepNow .loopFault (acceptedOf s) (settledState (sweepEmptied s) (e.slots - 1) s)
        else settledState { sweepEmptied s with
          decision := some { status := .loopFault, count := acceptedOf s, after := s.ru.reports.length } } (e.slots - 1) s
      else settledState (sweepEmptied s) e.slots s := by
  cases hdemand : e.demand with
  | false =>
    simp only [endSweep, hdemand, Bool.false_eq_true, if_false]
    rfl
  | true =>
    have hnow : (decide (acceptedOf s = 0) || s.ru.reports.isEmpty) = true ↔ acceptedOf s = 0 ∨ s.ru.reports = [] := by
      rw [Bool.or_eq_true, decide_eq_true_eq, List.isEmpty_iff]
    simp only [endSweep, hdemand, if_true, ← acceptedOf_eq]
    exact if_congr hnow rfl rfl

theorem acks_sweepEmptied (s : State) (a : Addr) :
    (sweepEmptied s).acks[a] = s.ru.acks[a].map (fun x => { x with carried := false }) := by
  refine (getElem_tabulate _ a).trans ?_
  cases s.ru.acks[a] with
  | none => rfl
  | some x => simp only [Option.bind_some, settledAck, Bool.and_false, Bool.false_eq_true, if_false, Option.map_some]

/-- A SWEEP given up (R43, R117, R205). -/
theorem entryGivenUp_sweep {s : State} {e : TransitEntry} (c : Configuration) (h : e.element = .sweep) :
    EntryGivenUp c s (resolveByBreak e s) e := by
  have hresolve : resolveByBreak e s = endSweep false e s := by simp only [resolveByBreak, h]
  have hrecord : brokenRecord s e = if e.demand = true ∧ (acceptedOf s = 0 ∨ s.ru.reports = []) then
      lostControlHead s .sweepNow (acceptedOf s) else none := by simp only [brokenRecord, h]
  have hslots : brokenSlots s e = (e.slots - if e.demand = true then 1 else 0) + (brokenRecord s e).toList.length := by
    simp only [brokenSlots, h]
  have hfree (hnone : brokenRecord s e = none) (p : PoolIx) (hp : touchedBy s e = some p) : entry s p = none := by
    simp only [touchedBy, h, hnone, if_true, reduceCtorEq] at hp
  have hwithout (hnone : brokenRecord s e = none) (ru : ReportUnit) (hsweep : SweepGivenUp s (settledState ru (brokenSlots s e) s) e) :
      EntryGivenUp c s (settledState ru (brokenSlots s e) s) e := {
    cu := by rw [hnone]; simp only [Option.toList_none, withRecords, List.append_nil]; rfl
    map := rfl, stations := fun _ => rfl, links := fun _ => .inl rfl
    unlinked := fun _ _ _ _ _ _ _ hsome => absurd hnone hsome
    sweep := fun _ => hsweep, ru := fun hn => absurd h hn
    pool := .same hnone (hfree hnone) rfl rfl rfl
    ls := rfl, ri := rfl, host := rfl, line := ⟨rfl, rfl⟩, outside := .refl s }
  rw [hresolve, endSweep_lost]
  by_cases hdemand : e.demand = true
  · rw [if_pos hdemand]
    rw [if_pos hdemand] at hslots
    by_cases hnow : acceptedOf s = 0 ∨ s.ru.reports = []
    · rw [if_pos hnow]
      rw [if_pos ⟨hdemand, hnow⟩] at hrecord
      exact entryGivenUp_of_head (.inl h) rfl (by decide) hrecord hslots
        (fun _ => ⟨rfl, acks_sweepEmptied s, fun _ hreports hwaits => absurd hnow (not_or.mpr ⟨hreports, hwaits⟩), fun _ => rfl⟩)
        (fun hcall => by rw [h] at hcall; cases hcall)
    · rw [if_neg hnow]
      rw [if_neg fun hn => hnow hn.2] at hrecord
      rw [hrecord] at hslots
      have hwaits := hwithout hrecord { sweepEmptied s with
        decision := some { status := .loopFault, count := acceptedOf s, after := s.ru.reports.length } }
        ⟨rfl, acks_sweepEmptied s, fun _ _ _ => rfl, fun hn => ?_⟩
      · rwa [hslots] at hwaits
      · rcases hn with hn | hn
        · rw [hdemand] at hn
          cases hn
        · exact absurd hn hnow
  · rw [if_neg hdemand]
    rw [if_neg hdemand] at hslots
    rw [if_neg fun hn => hdemand hn.1] at hrecord
    rw [hrecord] at hslots
    have hgone := hwithout hrecord (sweepEmptied s)
      ⟨rfl, acks_sweepEmptied s, fun hn => absurd hn hdemand, fun _ => rfl⟩
    rwa [hslots] at hgone

/-- A CALL given up (R43, R123). -/
theorem entryGivenUp_call {s : State} {e : TransitEntry} (c : Configuration) (h : e.element = .call) :
    EntryGivenUp c s (resolveByBreak e s) e := by
  have hresolve : resolveByBreak e s = if e.demand = true then finishHead .callNow .loopFault 0 (settledState s.ru 0 s) else s := by
    simp only [resolveByBreak, h]
    rfl
  have hrecord : brokenRecord s e = if e.demand = true then lostControlHead s .callNow 0 else none := by simp only [brokenRecord, h]
  have hslots : brokenSlots s e = (brokenRecord s e).toList.length := by simp only [brokenSlots, h]
  have hnotSweep : e.element ≠ .sweep := by rw [h]; decide
  rw [hresolve]
  by_cases hdemand : e.demand = true
  · rw [if_pos hdemand] at hrecord ⊢
    exact entryGivenUp_of_head (.inr h) rfl (by decide) hrecord (by rw [hslots, Nat.zero_add]) (fun hn => absurd hn hnotSweep)
      (fun _ => rfl)
  · rw [if_neg hdemand] at hrecord ⊢
    rw [hrecord] at hslots
    exact entryGivenUp_of_same hrecord hslots hnotSweep fun p hp => by
      simp only [touchedBy, h, hrecord, if_true, reduceCtorEq] at hp

/-- Giving up a transit entry, whatever its kind (R43). -/
theorem entryGivenUp {s : State} {e : TransitEntry} {c : Configuration} (hc : s.hp.config = some c)
    (hserves : e.element = .exch ∨ e.element = .post → ∃ p q a, ServesStation s e p q a) :
    EntryGivenUp c s (resolveByBreak e s) e := by
  cases h : e.element with
  | exch =>
    obtain ⟨p, q, a, hs⟩ := hserves (.inl h)
    exact entryGivenUp_work (.inl h) hs hc
  | post =>
    obtain ⟨p, q, a, hs⟩ := hserves (.inr h)
    exact entryGivenUp_work (.inr h) hs hc
  | group => exact entryGivenUp_frame c (.inl h)
  | rest => exact entryGivenUp_frame c (.inr h)
  | sweep => exact entryGivenUp_sweep c h
  | call => exact entryGivenUp_call c h
  | probe =>
    have hsame : resolveByBreak e s = s := by simp only [resolveByBreak, h]
    rw [hsame]
    exact entryGivenUp_of_same (by simp only [brokenRecord, h]) (by simp only [brokenSlots, h]) (by rw [h]; decide) fun p hp => by
      simp only [touchedBy, h, reduceCtorEq] at hp

end Sys2Proof.Machine

/-! ## Transit entries given up one after the other (R42) -/

namespace Sys2Proof.Machine

set_option Elab.async false

/-- What becoming head can change of a request: its payload has started, or it is READY; an EXCHANGE or POST that is not QUEUED stays as
it is (R75, R149). -/
def Waiting (q q' : PoolEntry) : Prop :=
  q' = { q with phase := q'.phase, readStarted := q'.readStarted } ∧ (isWork q.kind = true → q.phase ≠ .queued → q' = q)

theorem Waiting.refl (q : PoolEntry) : Waiting q q := ⟨rfl, fun _ _ => rfl⟩

theorem Waiting.trans {q q' q'' : PoolEntry} (h : Waiting q q') (h' : Waiting q' q'') : Waiting q q'' := by
  obtain ⟨heq, hwork⟩ := h
  obtain ⟨heq', hwork'⟩ := h'
  refine ⟨by rw [heq', heq], fun hk hp => ?_⟩
  have hsame := hwork hk hp
  rw [hsame] at hwork'
  exact hwork' hk hp

theorem BecomesHead.waiting {s x : State} {l : ListId} {r : PoolIx} {y : PoolEntry} {more : List Access}
    (h : BecomesHead s x l r y more) : ∃ y', entry x r = some y' ∧ Waiting y y' := by
  obtain ⟨hstarts, hwaits, hready, -⟩ := h
  by_cases hreads : readsPayload y.kind
  · by_cases hstart : payloadStarts s.hp.engine y
    · refine ⟨_, (hstarts hstart).1, rfl, fun _ hphase => absurd hstart.2.2.1 hphase⟩
    · exact ⟨y, (hwaits hreads hstart).1, .refl y⟩
  · refine ⟨_, (hready hreads).1, rfl, fun hwork _ => absurd ?_ hreads⟩
    rcases (isWork_iff _).mp hwork with h | h
    · exact .inl h
    · exact .inr (.inl h)

/-- A request that giving up an entry does not touch (R75, R148). -/
theorem PoolStep.entry_of_untouched {c : Configuration} {s x : State} {e : TransitEntry} (h : PoolStep c s x e) {r : PoolIx}
    {y : PoolEntry} (hr : touchedBy s e ≠ some r) (hy : entry s r = some y) : ∃ y', entry x r = some y' ∧ Waiting y y' := by
  cases h with
  | ended p q htouched _ h =>
    have hne : r ≠ p := fun hrp => hr (hrp ▸ htouched)
    by_cases hhead : (listOf x (listFor q.kind q.address)).head? = some r
    · obtain ⟨more, -, hnext⟩ := h.next
      exact (hnext r y hhead hne hy).waiting
    · exact ⟨y, (h.others r hne hhead).trans hy, .refl y⟩
  | paused p q hwork hpool _ h =>
    have hne : r ≠ p := fun hrp => hr (by
      rw [touchedBy_of_carries (hwork.elim .inl fun h => .inr (.inl h)), hpool, hrp])
    exact ⟨y, (h.kept.2 r hne).trans hy, .refl y⟩
  | same _ _ hrp => exact ⟨y, (entry_congr hrp r).trans hy, .refl y⟩

theorem PoolStep.entry_of_none {c : Configuration} {s x : State} {e : TransitEntry} (h : PoolStep c s x e) {r : PoolIx}
    (hr : entry s r = none) : entry x r = none := by
  cases h with
  | ended p q _ _ h =>
    have hne : r ≠ p := fun hrp => by rw [hrp, h.here] at hr; cases hr
    have hhome := h.homes r
    rw [if_neg hne] at hhome
    simpa only [homeOf, hr, Option.map_none, Option.map_eq_none_iff] using hhome
  | paused p q _ _ _ h =>
    have hne : r ≠ p := fun hrp => by rw [hrp, h.here] at hr; cases hr
    exact (h.kept.2 r hne).trans hr
  | same _ _ hrp => exact (entry_congr hrp r).trans hr

theorem PoolStep.kind_of_touched {c : Configuration} {s x : State} {e : TransitEntry} (h : PoolStep c s x e) {p : PoolIx}
    {q : PoolEntry} (hp : touchedBy s e = some p) (hq : entry s p = some q) :
    entry x p = none ∨ ∃ q', entry x p = some q' ∧ q'.kind = q.kind := by
  cases h with
  | ended p' q' htouched _ h =>
    rw [htouched] at hp
    cases hp
    exact .inl h.gone
  | paused p' q' hwork hpool _ h =>
    rw [touchedBy_of_carries (hwork.elim .inl fun h => .inr (.inl h)), hpool] at hp
    cases hp
    have hsame := h.here
    rw [hq] at hsame
    cases hsame
    exact .inr ⟨_, h.now, rfl⟩
  | same _ hfree =>
    rw [hfree p hp] at hq
    cases hq

/-- A list in which giving up an entry touches no request (R148). -/
theorem PoolStep.list_of_untouched {c : Configuration} {s x : State} {e : TransitEntry} (h : PoolStep c s x e) {l : ListId}
    (hl : ∀ p q, touchedBy s e = some p → entry s p = some q → listFor q.kind q.address ≠ l) : listOf x l = listOf s l := by
  cases h with
  | ended p q htouched _ h => exact h.lists l fun hsame => hl p q htouched h.here hsame.symm
  | paused p q _ _ _ h => exact h.kept.1 l
  | same _ _ hrp => exact listOf_congr hrp l

/-! ### What earlier entries leave of a later one (R32, R33, R42) -/

theorem EntriesApart.not_closing {s : State} {e e' : TransitEntry} {es : List TransitEntry} (h : EntriesApart s (e :: es)) (he' : e' ∈ es) :
    e.element ≠ .sweep ∧ e.element ≠ .call := by
  obtain ⟨-, hclosing, -⟩ := h
  cases es with
  | nil => cases he'
  | cons y rest => exact hclosing e List.mem_cons_self

theorem EntriesApart.touched_eq {s : State} {e e' : TransitEntry} {es : List TransitEntry} (h : EntriesApart s (e :: es)) (he' : e' ∈ es)
    {p : PoolIx} (hp : touchedBy s e = some p) : e.pool = some p ∧ CarriesRequest e := by
  obtain ⟨hsweep, hcall⟩ := h.not_closing he'
  unfold touchedBy at hp
  cases helement : e.element with
  | exch => exact ⟨by simpa only [helement] using hp, .inl helement⟩
  | post => exact ⟨by simpa only [helement] using hp, .inr (.inl helement)⟩
  | group => exact ⟨by simpa only [helement] using hp, .inr (.inr (.inl helement))⟩
  | rest => exact ⟨by simpa only [helement] using hp, .inr (.inr (.inr helement))⟩
  | sweep => exact absurd helement hsweep
  | call => exact absurd helement hcall
  | probe => simp only [helement, reduceCtorEq] at hp

/-- The request of a later entry is not the one that giving up an earlier entry touches (R33). -/
theorem EntriesApart.pool_untouched {s : State} {e e' : TransitEntry} {es : List TransitEntry} (h : EntriesApart s (e :: es))
    (he' : e' ∈ es) {p : PoolIx} (hp : e'.pool = some p) : touchedBy s e ≠ some p := by
  intro htouched
  obtain ⟨hpool, -⟩ := h.touched_eq he' htouched
  have hnodup := h.1
  rw [List.filterMap_cons_some hpool] at hnodup
  exact (List.nodup_cons.mp hnodup).1 (List.mem_filterMap.mpr ⟨e', he', hp⟩)

/-- With a SWEEP-NOW or CALL-NOW in transit, an earlier entry touches a station's request alone (R33, R121). -/
theorem EntriesApart.touched_station {s : State} {e e' : TransitEntry} {es : List TransitEntry} (h : EntriesApart s (e :: es))
    (he' : e' ∈ es) (hdemand : e'.demand = true) {p : PoolIx} {q : PoolEntry} (hp : touchedBy s e = some p) (hq : entry s p = some q) :
    ∃ a, requestStation q = some a := by
  obtain ⟨hpool, hcarries⟩ := h.touched_eq he' hp
  obtain ⟨-, -, hserves, hgroup⟩ := h
  have hstation (hkind : e.element = .exch ∨ e.element = .post ∨ e.element = .rest) : ∃ a, requestStation q = some a := by
    obtain ⟨p', q', a, hpool', hq', ha⟩ := hserves e List.mem_cons_self hkind
    rw [hpool] at hpool'
    cases hpool'
    rw [hq] at hq'
    cases hq'
    exact ⟨a, ha⟩
  rcases hcarries with hk | hk | hk | hk
  · exact hstation (.inl hk)
  · exact hstation (.inr (.inl hk))
  · have hno := hgroup e List.mem_cons_self hk e' (List.mem_cons_of_mem e he')
    rw [hdemand] at hno
    cases hno
  · exact hstation (.inr (.inr hk))

section Later

variable {c : Configuration} {s x : State} {e e' : TransitEntry} {es : List TransitEntry}

theorem EntryGivenUp.state_eq (h : EntryGivenUp c s x e) (a : Addr) : (station x a).state = (station s a).state := by rw [h.stations a]

/-- The request of a later entry, after an earlier one was given up. -/
theorem EntryGivenUp.later_request (h : EntryGivenUp c s x e) (hapart : EntriesApart s (e :: es)) (he' : e' ∈ es) {p : PoolIx}
    {q : PoolEntry} (hp : e'.pool = some p) (hq : entry s p = some q) : ∃ q', entry x p = some q' ∧ Waiting q q' :=
  h.pool.entry_of_untouched (hapart.pool_untouched he' hp) hq

theorem requestStation_waiting {q q' : PoolEntry} (h : Waiting q q') : requestStation q' = requestStation q := by
  rw [h.1]
  rfl

theorem lostRecord_waiting (h : EntryGivenUp c s x e) {q q' : PoolEntry} (hq : Waiting q q') (status : Status) (attempts : Nat)
    (o : LastOutcome) : lostRecord x q' status attempts o = lostRecord s q status attempts o := by
  have hstate : (requestStation q').map (fun a => (station x a).state) = (requestStation q).map (fun a => (station s a).state) := by
    rw [requestStation_waiting hq]
    exact Option.map_congr fun a _ => h.state_eq a
  unfold lostRecord
  rw [hstate, hq.1]
  rfl

theorem brokenStatus_waiting (h : EntryGivenUp c s x e) {q q' : PoolEntry} (hq : Waiting q q') (a : Addr) :
    brokenStatus x q' a = brokenStatus s q a := by
  unfold brokenStatus
  rw [h.state_eq, hq.1]

/-- A request of the control list that giving up an earlier entry leaves at its head. -/
theorem EntryGivenUp.later_controlHead (h : EntryGivenUp c s x e) (hapart : EntriesApart s (e :: es)) (he' : e' ∈ es)
    (hdemand : e'.demand = true) {kind : RequestKind} (hkind : listFor kind = fun _ => .control) (status : Status) (count : Nat) :
    controlHeadRecord x kind status count = controlHeadRecord s kind status count ∧ listOf x .control = listOf s .control := by
  have hlist : listOf x .control = listOf s .control := h.pool.list_of_untouched fun p q hp hq hcontrol => by
    obtain ⟨a, ha⟩ := hapart.touched_station he' hdemand hp hq
    rw [requestStation_eq_none.mpr hcontrol] at ha
    cases ha
  refine ⟨?_, hlist⟩
  unfold controlHeadRecord
  rw [hlist]
  cases hhead : (listOf s .control).head? with
  | none => rfl
  | some p =>
    rw [Option.bind_some, Option.bind_some]
    cases hq : entry s p with
    | none => rw [h.pool.entry_of_none hq]
    | some q =>
      by_cases htouched : touchedBy s e = some p
      · obtain ⟨a, ha⟩ := hapart.touched_station he' hdemand htouched hq
        have hother : q.kind ≠ kind := fun hk => by
          rw [requestStation_eq_some, hk, hkind] at ha
          cases ha
        refine Eq.trans ?_ (if_neg hother).symm
        rcases h.pool.kind_of_touched htouched hq with hgone | ⟨q', hq', hsame⟩
        · rw [hgone]
        · rw [hq']
          exact if_neg (hsame ▸ hother)
      · obtain ⟨q', hq', hwaits⟩ := h.pool.entry_of_untouched htouched hq
        rw [hq', hwaits.1]
        rfl

/-- A later entry is given up as it would have been before (R42). -/
theorem EntryGivenUp.later_record (h : EntryGivenUp c s x e) (hapart : EntriesApart s (e :: es)) (he' : e' ∈ es) :
    brokenRecord x e' = brokenRecord s e' := by
  have hru : x.ru = s.ru := h.ru (hapart.not_closing he').1
  have hrequest {β : Type} (f g : PoolEntry → Option β)
      (hfg : ∀ p q q', e'.pool = some p → entry s p = some q → Waiting q q' → f q' = g q) :
      (e'.pool.bind (entry x)).bind f = (e'.pool.bind (entry s)).bind g := by
    cases hp : e'.pool with
    | none => rfl
    | some p =>
      rw [Option.bind_some, Option.bind_some]
      cases hq : entry s p with
      | none => rw [h.pool.entry_of_none hq]; rfl
      | some q =>
        obtain ⟨q', hq', hwaits⟩ := h.later_request hapart he' hp hq
        rw [hq']
        exact hfg p q q' hp hq hwaits
  have hwork : (e'.pool.bind (entry x)).bind (fun q => (requestStation q).bind (fun a =>
      (brokenStatus x q a).map (fun status => lostRecord x q status (q.attempts + 1) .lostToBreak))) =
      (e'.pool.bind (entry s)).bind (fun q => (requestStation q).bind (fun a =>
      (brokenStatus s q a).map (fun status => lostRecord s q status (q.attempts + 1) .lostToBreak))) := by
    refine hrequest _ _ fun p q q' _ _ hwaits => ?_
    have hattempts : q'.attempts = q.attempts := by rw [hwaits.1]
    simp only [requestStation_waiting hwaits, brokenStatus_waiting h hwaits, lostRecord_waiting h hwaits, hattempts]
  have hframe (status : Status) (o : LastOutcome) : (e'.pool.bind (entry x)).map (fun q => lostRecord x q status q.attempts o) =
      (e'.pool.bind (entry s)).map (fun q => lostRecord s q status q.attempts o) := by
    rw [Option.map_eq_bind, Option.map_eq_bind]
    refine hrequest _ _ fun p q q' _ _ hwaits => ?_
    have hattempts : q'.attempts = q.attempts := by rw [hwaits.1]
    simp only [Function.comp_apply, lostRecord_waiting h hwaits, hattempts]
  unfold brokenRecord
  cases e'.element with
  | exch => exact hwork
  | post => exact hwork
  | group => exact hframe ..
  | rest => exact hframe ..
  | sweep =>
    dsimp only
    rw [show acceptedOf x = acceptedOf s by rw [acceptedOf, hru, acceptedOf], hru]
    split
    · rename_i hdemand
      exact (h.later_controlHead hapart he' hdemand.1 rfl ..).1
    · rfl
  | call =>
    dsimp only
    split
    · rename_i hdemand
      exact (h.later_controlHead hapart he' hdemand rfl ..).1
    · rfl
  | probe => rfl

theorem EntryGivenUp.later_slots (h : EntryGivenUp c s x e) (hapart : EntriesApart s (e :: es)) (he' : e' ∈ es) :
    brokenSlots x e' = brokenSlots s e' := by
  unfold brokenSlots
  rw [h.later_record hapart he']

theorem EntryGivenUp.later_apart (h : EntryGivenUp c s x e) (hapart : EntriesApart s (e :: es)) : EntriesApart x es := by
  obtain ⟨hnodup, hclosing, hserves, hgroup⟩ := id hapart
  refine ⟨?_, fun y hy => ?_, fun y hy hkind => ?_, fun y hy hk z hz => ?_⟩
  · rw [List.filterMap_cons] at hnodup
    split at hnodup
    · exact hnodup
    · exact (List.nodup_cons.mp hnodup).2
  · refine hclosing y ?_
    cases es with
    | nil => cases hy
    | cons z rest => exact List.mem_cons_of_mem e hy
  · obtain ⟨p, q, a, hp, hq, ha⟩ := hserves y (List.mem_cons_of_mem e hy) hkind
    obtain ⟨q', hq', hwaits⟩ := h.later_request hapart hy hp hq
    exact ⟨p, q', a, hp, hq', (requestStation_waiting hwaits).trans ha⟩
  · exact hgroup y (List.mem_cons_of_mem e hy) hk z (List.mem_cons_of_mem e hz)

end Later

end Sys2Proof.Machine

/-! ## Every transit entry given up (R42, R43) -/

namespace Sys2Proof.Machine

set_option Elab.async false

/-- What a break keeps, whatever the entries (R43). -/
structure BreakKeeps (s x : State) : Prop where
  cu : ∃ records : List CompletionRecord, (∀ r ∈ records, r.kind = .done) ∧
    x.cu = { withRecords records s.cu with reserved := x.cu.reserved }
  map : x.st.loopMap = s.st.loopMap
  stations : ∀ a, station x a = { station s a with outstanding := (station x a).outstanding }
  ls : x.ls = s.ls
  ri : x.ri = s.ri
  host : HostKept s x
  line : LineKept s x
  outside : OutsideKept s x

theorem BreakKeeps.refl (s : State) : BreakKeeps s s :=
  ⟨⟨[], by simp, by simp only [withRecords, List.append_nil]⟩, rfl, fun _ => rfl, rfl, rfl, rfl, ⟨rfl, rfl⟩, .refl s⟩

theorem BreakKeeps.trans {s x t : State} (h : BreakKeeps s x) (h' : BreakKeeps x t) : BreakKeeps s t := by
  obtain ⟨records, hdone, hcu⟩ := h.cu
  obtain ⟨records', hdone', hcu'⟩ := h'.cu
  refine ⟨⟨records ++ records', fun r hr => (List.mem_append.mp hr).elim (hdone r) (hdone' r), ?_⟩, h'.map.trans h.map, fun a => ?_,
    h'.ls.trans h.ls, h'.ri.trans h.ri, h.host.trans h'.host, h.line.trans h'.line, h.outside.trans h'.outside⟩
  · rw [hcu', hcu]
    simp only [withRecords, List.append_assoc]
  · rw [h'.stations a, h.stations a]

theorem kind_of_controlHeadRecord {s : State} {kind : RequestKind} {status : Status} {count : Nat} {r : CompletionRecord}
    (h : controlHeadRecord s kind status count = some r) : r.kind = .done := by
  unfold controlHeadRecord at h
  split at h
  · split at h
    · cases h
      rfl
    · cases h
  · cases h

theorem kind_of_brokenRecord {s : State} {e : TransitEntry} {r : CompletionRecord} (h : brokenRecord s e = some r) : r.kind = .done := by
  have hwork (h : (e.pool.bind (entry s)).bind (fun q => (requestStation q).bind (fun a =>
      (brokenStatus s q a).map (fun status => lostRecord s q status (q.attempts + 1) .lostToBreak))) = some r) : r.kind = .done := by
    obtain ⟨q, -, h⟩ := Option.bind_eq_some_iff.mp h
    obtain ⟨a, -, h⟩ := Option.bind_eq_some_iff.mp h
    obtain ⟨status, -, rfl⟩ := Option.map_eq_some_iff.mp h
    rfl
  unfold brokenRecord at h
  split at h
  · exact hwork h
  · exact hwork h
  · obtain ⟨q, -, rfl⟩ := Option.map_eq_some_iff.mp h
    rfl
  · obtain ⟨q, -, rfl⟩ := Option.map_eq_some_iff.mp h
    rfl
  · split at h
    · exact kind_of_controlHeadRecord h
    · cases h
  · split at h
    · exact kind_of_controlHeadRecord h
    · cases h
  · cases h

theorem EntryGivenUp.keeps {c : Configuration} {s x : State} {e : TransitEntry} (h : EntryGivenUp c s x e) : BreakKeeps s x where
  cu := ⟨(brokenRecord s e).toList, fun r hr => kind_of_brokenRecord (Option.mem_toList.mp hr), by rw [h.cu]⟩
  map := h.map
  stations := h.stations
  ls := h.ls
  ri := h.ri
  host := h.host
  line := h.line
  outside := h.outside

theorem resolveByBreak_keeps {s : State} {c : Configuration} (hc : s.hp.config = some c) (e : TransitEntry) :
    BreakKeeps s (resolveByBreak e s) := by
  by_cases hserves : e.element = .exch ∨ e.element = .post → ∃ p q a, ServesStation s e p q a
  · exact (entryGivenUp hc hserves).keeps
  · obtain ⟨hwork, hnone⟩ := Classical.not_imp.mp hserves
    have hsame (f : Addr → PoolIx → State → State) : withStationRequest e f s = s := by
      unfold withStationRequest
      split
      · rfl
      · rename_i p hpool
        split
        · rfl
        · rename_i a ha
          obtain ⟨q, hq, ha⟩ := Option.bind_eq_some_iff.mp ha
          exact absurd ⟨p, q, a, hpool, hq, ha⟩ hnone
    have hresolve : resolveByBreak e s = s := by rcases hwork with h | h <;> simp only [resolveByBreak, h, hsame]
    rw [hresolve]
    exact .refl s

theorem resolveAll_keeps {c : Configuration} (es : List TransitEntry) {s : State} (hc : s.hp.config = some c) :
    BreakKeeps s (resolveAll es s) := by
  induction es generalizing s with
  | nil => exact .refl s
  | cons e rest ih =>
    have hstep := resolveByBreak_keeps hc e
    exact hstep.trans (ih (hstep.host.config_eq.trans hc))

/-- What giving up a list of transit entries does to their requests, reports and slots (R42, R43). -/
structure AllGivenUp (c : Configuration) (s t : State) (es : List TransitEntry) : Prop where
  cu : t.cu = { withRecords (es.filterMap (brokenRecord s)) s.cu with reserved := s.cu.reserved - (es.map (brokenSlots s)).sum }
  ended : ∀ e ∈ es, ∀ p, touchedBy s e = some p → brokenRecord s e ≠ none → entry t p = none
  unlinked : ∀ e ∈ es, ∀ p q a, CarriesRequest e → e.pool = some p → entry s p = some q → requestStation q = some a →
    brokenRecord s e ≠ none → (station t a).outstanding ≠ some p
  paused : ∀ e ∈ es, ∀ p q, CarriesRequest e → e.pool = some p → entry s p = some q → brokenRecord s e = none → isWork q.kind = true →
    q.phase = .inTransit → entry t p = some (pausedByBreak s c q) ∧
    ∀ a, (station s a).outstanding = some p → (station t a).outstanding = some p
  sweep : ∀ e ∈ es, e.element = .sweep → SweepGivenUp s t e
  ru : (∀ e ∈ es, e.element ≠ .sweep) → t.ru = s.ru
  others : ∀ r y, entry s r = some y → (∀ e ∈ es, touchedBy s e ≠ some r) → ∃ y', entry t r = some y' ∧ Waiting y y'
  free : ∀ r, entry s r = none → entry t r = none
  links : ∀ a, (station t a).outstanding = (station s a).outstanding ∨ (station t a).outstanding = none
  linked : ∀ a p, (station s a).outstanding = some p → (∀ e ∈ es, e.pool ≠ some p) → (station t a).outstanding = some p

theorem demand_of_brokenRecord {s : State} {e : TransitEntry} (hclosing : e.element = .sweep ∨ e.element = .call)
    (h : brokenRecord s e ≠ none) :
    e.demand = true ∧ ∃ p q, IsHead s .control p q ∧ listFor q.kind = fun _ => .control := by
  have hhead {kind : RequestKind} {count : Nat} (hkind : listFor kind = fun _ => .control)
      (hsome : lostControlHead s kind count ≠ none) : ∃ p q, IsHead s .control p q ∧ listFor q.kind = fun _ => .control := by
    rcases finishHead_cases (s := s) rfl kind count with ⟨hnone, -⟩ | ⟨p, q, hisHead, rfl, -⟩
    · exact absurd hnone hsome
    · exact ⟨p, q, hisHead, hkind⟩
  unfold brokenRecord at h
  rcases hclosing with he | he <;> simp only [he] at h
  · split at h
    · rename_i hdemand
      exact ⟨hdemand.1, hhead rfl h⟩
    · exact absurd rfl h
  · split at h
    · rename_i hdemand
      exact ⟨hdemand, hhead rfl h⟩
    · exact absurd rfl h

theorem touchedBy_of_closing {s : State} {e : TransitEntry} (hclosing : e.element = .sweep ∨ e.element = .call) :
    touchedBy s e = if brokenRecord s e = none then none else (listOf s .control).head? := by
  rcases hclosing with h | h <;> simp only [touchedBy, h]

theorem element_cases (e : TransitEntry) : CarriesRequest e ∨ (e.element = .sweep ∨ e.element = .call) ∨ e.element = .probe := by
  unfold CarriesRequest
  cases e.element <;> simp

section Later

variable {c : Configuration} {s x : State} {e e' : TransitEntry} {es : List TransitEntry}

/-- Two entries touch different requests (R33). -/
theorem EntriesApart.touched_ne (h : EntriesApart s (e :: es)) (he' : e' ∈ es) {p : PoolIx} (hp : touchedBy s e = some p) :
    touchedBy s e' ≠ some p := by
  intro hp'
  rcases element_cases e' with hcarries | hclosing | hprobe
  · rw [touchedBy_of_carries hcarries] at hp'
    exact h.pool_untouched he' hp' hp
  · rw [touchedBy_of_closing hclosing] at hp'
    split at hp'
    · cases hp'
    · rename_i hrecord
      obtain ⟨hdemand, p', q, hhead, hcontrol⟩ := demand_of_brokenRecord hclosing hrecord
      rw [hhead.1] at hp'
      cases hp'
      obtain ⟨a, ha⟩ := h.touched_station he' hdemand hp hhead.2
      rw [requestStation_eq_some, hcontrol] at ha
      cases ha
  · simp only [touchedBy, hprobe, reduceCtorEq] at hp'

theorem EntryGivenUp.later_touched (h : EntryGivenUp c s x e) (hapart : EntriesApart s (e :: es)) (he' : e' ∈ es) :
    touchedBy x e' = touchedBy s e' := by
  rcases element_cases e' with hcarries | hclosing | hprobe
  · rw [touchedBy_of_carries hcarries, touchedBy_of_carries hcarries]
  · rw [touchedBy_of_closing hclosing, touchedBy_of_closing hclosing, h.later_record hapart he']
    split
    · rfl
    · rename_i hrecord
      obtain ⟨hdemand, p, q, -, -⟩ := demand_of_brokenRecord hclosing hrecord
      rw [(h.later_controlHead hapart he' hdemand (kind := .callNow) rfl .ok 0).2]
  · simp only [touchedBy, hprobe]

theorem EntryGivenUp.later_paused (h : EntryGivenUp c s x e) (hapart : EntriesApart s (e :: es)) (he' : e' ∈ es) {p : PoolIx}
    {q : PoolEntry} (hp : e'.pool = some p) (hq : entry s p = some q) (hwork : isWork q.kind = true) (hphase : q.phase = .inTransit) :
    entry x p = some q := by
  obtain ⟨q', hq', hwaits⟩ := h.later_request hapart he' hp hq
  rw [hq', hwaits.2 hwork (by rw [hphase]; decide)]

end Later

theorem PoolStep.gone_of_touched {c : Configuration} {s x : State} {e : TransitEntry} (h : PoolStep c s x e) {p : PoolIx}
    (hp : touchedBy s e = some p) (hrecord : brokenRecord s e ≠ none) : entry x p = none := by
  cases h with
  | ended p' q htouched _ h =>
    rw [htouched] at hp
    cases hp
    exact h.gone
  | paused _ _ _ _ hnone => exact absurd hnone hrecord
  | same hnone => exact absurd hnone hrecord

theorem PoolStep.paused_of_carries {c : Configuration} {s x : State} {e : TransitEntry} (h : PoolStep c s x e) {p : PoolIx} {q : PoolEntry}
    (hcarries : CarriesRequest e) (hp : e.pool = some p) (hq : entry s p = some q) (hrecord : brokenRecord s e = none) :
    entry x p = some (pausedByBreak s c q) ∧ PoolKeptBut p s x := by
  cases h with
  | ended _ _ _ hsome => exact absurd hrecord hsome
  | paused p' q' _ hpool _ h =>
    rw [hpool] at hp
    cases hp
    have hsame := h.here
    rw [hq] at hsame
    cases hsame
    exact ⟨h.now, h.kept⟩
  | same _ hfree =>
    rw [hfree p ((touchedBy_of_carries hcarries).trans hp)] at hq
    cases hq

theorem SweepGivenUp.of_ru {s x t : State} {e : TransitEntry} (h : SweepGivenUp x t e) (hru : x.ru = s.ru) : SweepGivenUp s t e := by
  unfold SweepGivenUp acceptedOf at h ⊢
  rwa [hru] at h

/-- Entries that stand apart are given up one by one, as if each were the first (R42). -/
theorem allGivenUp {c : Configuration} (es : List TransitEntry) {s : State} (hc : s.hp.config = some c) (hapart : EntriesApart s es) :
    AllGivenUp c s (resolveAll es s) es := by
  induction es generalizing s with
  | nil =>
    exact {
      cu := by simp only [List.filterMap_nil, withRecords, List.append_nil]; rfl
      ended := by simp, unlinked := by simp, paused := by simp, sweep := by simp, ru := fun _ => rfl, others := fun r y hy _ => ⟨y, hy, .refl y⟩, free := fun _ h => h
      links := fun _ => .inl rfl, linked := fun _ _ h _ => h }
  | cons e rest ih =>
    have hstep : EntryGivenUp c s (resolveByBreak e s) e :=
      entryGivenUp hc fun hwork => hapart.2.2.1 e List.mem_cons_self (hwork.elim .inl fun h => .inr (.inl h))
    have hrest := ih (hstep.host.config_eq.trans hc) (hstep.later_apart hapart)
    rw [show resolveAll (e :: rest) s = resolveAll rest (resolveByBreak e s) from rfl]
    generalize resolveByBreak e s = x at hstep hrest
    generalize resolveAll rest x = t at hrest
    have hclock : x.clock = s.clock := hstep.outside.1
    have hrecords : rest.filterMap (brokenRecord x) = rest.filterMap (brokenRecord s) :=
      List.filterMap_congr fun e' he' => hstep.later_record hapart he'
    have hslots : rest.map (brokenSlots x) = rest.map (brokenSlots s) := List.map_congr_left fun e' he' => hstep.later_slots hapart he'
    have halone (hclosing : e.element = .sweep ∨ e.element = .call) : rest = [] := List.eq_nil_iff_forall_not_mem.mpr fun e' he' => by
      obtain ⟨hsweep, hcall⟩ := hapart.not_closing he'
      exact hclosing.elim hsweep hcall
    refine {
      cu := ?_, ended := ?_, unlinked := ?_, paused := ?_, sweep := ?_, ru := ?_, others := ?_
      free := fun r hr => hrest.free r (hstep.pool.entry_of_none hr), links := ?_, linked := ?_ }
    · rw [hrest.cu, hstep.cu, hrecords, hslots, List.filterMap_cons, List.map_cons, List.sum_cons, Nat.sub_sub]
      cases brokenRecord s e <;> simp [withRecords]
    · intro e' he' p hp hrecord
      rcases List.mem_cons.mp he' with rfl | he'
      · exact hrest.free p (hstep.pool.gone_of_touched hp hrecord)
      · exact hrest.ended e' he' p ((hstep.later_touched hapart he').trans hp) (by rwa [hstep.later_record hapart he'])
    · intro e' he' p q a hcarries hp hq ha hrecord
      rcases List.mem_cons.mp he' with rfl | he'
      · rcases hrest.links a with hsame | hnone
        · rw [hsame]
          exact hstep.unlinked p q a hcarries hp hq ha hrecord
        · rw [hnone]
          exact (Option.some_ne_none p).symm
      · obtain ⟨q', hq', hwaits⟩ := hstep.later_request hapart he' hp hq
        exact hrest.unlinked e' he' p q' a hcarries hp hq' ((requestStation_waiting hwaits).trans ha)
          (by rwa [hstep.later_record hapart he'])
    · intro e' he' p q hcarries hp hq hrecord hwork hphase
      rcases List.mem_cons.mp he' with rfl | he'
      · obtain ⟨hnow, hout⟩ := hstep.pool.paused_of_carries hcarries hp hq hrecord
        have htouched : touchedBy s e' = some p := by rw [touchedBy_of_carries hcarries, hp]
        obtain ⟨q', hq', hwaits⟩ := hrest.others p _ hnow fun y hy => by
          rw [hstep.later_touched hapart hy]
          exact hapart.touched_ne hy htouched
        rw [hq', hwaits.2 hwork nofun]
        refine ⟨rfl, fun a hlinked => hrest.linked a p ?_ fun y hy hpool => hapart.pool_untouched hy hpool htouched⟩
        rcases hstep.links a with hsame | ⟨-, hsome, -⟩
        · rw [hsame, hlinked]
        · exact absurd hrecord hsome
      · obtain ⟨hnow, hkept⟩ := hrest.paused e' he' p q hcarries hp (hstep.later_paused hapart he' hp hq hwork hphase)
          (by rwa [hstep.later_record hapart he']) hwork hphase
        refine ⟨by rw [hnow, pausedByBreak, hclock]; rfl, fun a hlinked => hkept a ?_⟩
        rcases hstep.links a with hsame | ⟨-, hsome, hcarries', hpool⟩
        · rw [hsame, hlinked]
        · have htouched : touchedBy s e = some p := by rw [touchedBy_of_carries hcarries', ← hpool, hlinked]
          exact absurd htouched (hapart.pool_untouched he' hp)
    · intro e' he' hsweep
      rcases List.mem_cons.mp he' with rfl | he'
      · have hnil := halone (.inl hsweep)
        have hru : t.ru = x.ru := hrest.ru (by simp [hnil])
        have hgiven := hstep.sweep hsweep
        unfold SweepGivenUp at hgiven ⊢
        rwa [hru]
      · exact (hrest.sweep e' he' hsweep).of_ru (hstep.ru (hapart.not_closing he').1)
    · intro hnone
      rw [hrest.ru fun e' he' => hnone e' (List.mem_cons_of_mem e he')]
      exact hstep.ru (hnone e List.mem_cons_self)
    · intro r y hy huntouched
      obtain ⟨y', hy', hwaits⟩ := hstep.pool.entry_of_untouched (huntouched e List.mem_cons_self) hy
      obtain ⟨y'', hy'', hwaits'⟩ := hrest.others r y' hy' fun e' he' => by
        rw [hstep.later_touched hapart he']
        exact huntouched e' (List.mem_cons_of_mem e he')
      exact ⟨y'', hy'', hwaits.trans hwaits'⟩
    · intro a
      rcases hrest.links a with hsame | hnone
      · rw [hsame]
        exact (hstep.links a).imp id fun h => h.1
      · exact .inr hnone
    · intro a p hout hnone
      refine hrest.linked a p ?_ fun e' he' => hnone e' (List.mem_cons_of_mem e he')
      rcases hstep.links a with hsame | ⟨-, -, -, hpool⟩
      · rw [hsame, hout]
      · exact absurd (hpool.symm.trans hout) (hnone e List.mem_cons_self)

end Sys2Proof.Machine

/-! ## The lists after a break (R75, R148 to R151) -/

namespace Sys2Proof.Machine

set_option Elab.async false

/-- The list in which giving up an entry touches a request. -/
def touchedList (s : State) (e : TransitEntry) : Option ListId := (touchedBy s e).bind (homeOf s)

theorem homeOf_of_entry {s : State} {p : PoolIx} {q : PoolEntry} (h : entry s p = some q) :
    homeOf s p = some (listFor q.kind q.address) := by simp only [homeOf, h, Option.map_some]

theorem PoolOk.home_of_mem {s : State} (h : PoolOk s) {l : ListId} {p : PoolIx} (hp : p ∈ listOf s l) : homeOf s p = some l :=
  ((poolOk_iff s).mp h |>.2 l p).mp hp

theorem PoolOk.mem_of_home {s : State} (h : PoolOk s) {l : ListId} {p : PoolIx} (hp : homeOf s p = some l) : p ∈ listOf s l :=
  ((poolOk_iff s).mp h |>.2 l p).mpr hp

theorem isSome_entry (s : State) (p : PoolIx) : (entry s p).isSome = (homeOf s p).isSome := by
  simp only [homeOf, Option.isSome_map]

section Step

variable {c : Configuration} {s x : State} {e : TransitEntry}

theorem PoolStep.home_of_untouched (h : PoolStep c s x e) {r : PoolIx} (hr : touchedBy s e ≠ some r) : homeOf x r = homeOf s r := by
  cases hq : entry s r with
  | none =>
    simp only [homeOf, hq, h.entry_of_none hq, Option.map_none]
  | some q =>
    obtain ⟨q', hq', hwaits⟩ := h.entry_of_untouched hr hq
    rw [homeOf_of_entry hq, homeOf_of_entry hq', hwaits.1]

/-- A list in which no request is touched keeps its members, its head timer and its requests (R148, R151). -/
theorem PoolStep.untouched (h : PoolStep c s x e) (hpool : PoolOk s) {l : ListId} (hl : touchedList s e ≠ some l) :
    listOf x l = listOf s l ∧ (∀ a, l = .station a → headTimer x a = headTimer s a) ∧
    ∀ r, homeOf s r = some l → entry x r = entry s r := by
  cases h with
  | ended p q htouched _ h =>
    have hhome : touchedList s e = some (listFor q.kind q.address) := by rw [touchedList, htouched, Option.bind_some, homeOf_of_entry h.here]
    have hne : l ≠ listFor q.kind q.address := fun hsame => hl (by rw [hhome, hsame])
    refine ⟨h.lists l hne, fun a ha => h.timers a (ha ▸ hne), fun r hr => h.others r (fun hrp => ?_) fun hhead => ?_⟩
    · rw [hrp, homeOf_of_entry h.here] at hr
      exact hne (Option.some.inj hr).symm
    · have hmem := List.mem_of_head? hhead
      rw [h.list] at hmem
      have hhome' := hpool.home_of_mem (List.mem_of_mem_erase hmem)
      rw [hr] at hhome'
      exact hne (Option.some.inj hhome')
  | paused p q hwork hp _ h =>
    have hhome : touchedList s e = some (listFor q.kind q.address) := by
      rw [touchedList, touchedBy_of_carries (hwork.elim .inl fun h => .inr (.inl h)), hp, Option.bind_some, homeOf_of_entry h.here]
    refine ⟨h.kept.1 l, fun a _ => headTimer_congr h.sc a, fun r hr => h.kept.2 r fun hrp => hl ?_⟩
    rw [hhome, ← homeOf_of_entry h.here, ← hrp, hr]
  | same _ _ hrp hsc => exact ⟨listOf_congr hrp l, fun a _ => headTimer_congr hsc a, fun r _ => entry_congr hrp r⟩

/-- An access that serves an untouched request goes on (R76, R195). -/
theorem PoolStep.access_of_untouched (h : PoolStep c s x e) {y : Access} {r : PoolIx} (hr : touchedBy s e ≠ some r)
    (hy : y.kind.servedEntry = some r) (hmem : y ∈ accesses s) : y ∈ accesses x := by
  cases h with
  | ended p q htouched _ h =>
    have hne : y.kind.servedEntry ≠ some p := fun hp => hr (by rw [htouched, ← hp, hy])
    obtain ⟨more, hacc, -⟩ := h.next
    rw [hacc]
    refine List.mem_append_left _ ?_
    rcases List.mem_append.mp hmem with hbus | hqueue
    · refine List.mem_append_left _ ?_
      obtain ⟨b, hb, rfl⟩ := Option.map_eq_some_iff.mp (Option.mem_toList.mp hbus)
      rw [hb, Option.map_some, discardedFor]
      simp [hne]
    · exact List.mem_append_right _ (List.mem_filter.mpr ⟨hqueue, by simpa using hne⟩)
  | paused _ _ _ _ _ h => rw [h.accesses]; exact hmem
  | same _ _ _ _ hacc => rw [hacc]; exact hmem

/-- The lists lose what ended (R144, R148). -/
theorem PoolStep.lists_eq (h : PoolStep c s x e) (hpool : PoolOk s) (l : ListId) :
    listOf x l = (listOf s l).filter (fun p => (entry x p).isSome) := by
  have hall (hsame : ∀ r ∈ listOf s l, homeOf x r = homeOf s r) : (listOf s l).filter (fun p => (entry x p).isSome) = listOf s l :=
    List.filter_eq_self.mpr fun r hr => by rw [isSome_entry, hsame r hr, hpool.home_of_mem hr]; rfl
  cases h with
  | ended p q htouched _ h =>
    have hhome := homeOf_of_entry h.here
    by_cases hl : l = listFor q.kind q.address
    · rw [hl, h.list, (hpool.1 _).erase_eq_filter]
      refine List.filter_congr fun r hr => ?_
      rw [isSome_entry, h.homes]
      by_cases hrp : r = p
      · simp [hrp]
      · rw [if_neg hrp, hpool.home_of_mem hr]
        simp [hrp]
    · rw [h.lists l hl, hall]
      intro r hr
      rw [h.homes, if_neg]
      rintro rfl
      rw [hpool.home_of_mem hr] at hhome
      exact hl (Option.some.inj hhome)
  | paused p q hwork hp _ h =>
    rw [h.kept.1, hall]
    intro r hr
    by_cases hrp : r = p
    · rw [hrp, homeOf_of_entry h.now, homeOf_of_entry h.here]
      rfl
    · rw [homeOf, h.kept.2 r hrp, homeOf]
  | same _ _ hrp => rw [listOf_congr hrp, hall fun r _ => homeOf_congr hrp r]

end Step

/-! ### Under the slot invariant (R33, R74) -/

/-- Every request that giving up the entries touches is head of its list, and no list holds two of them (R74). -/
def HeadsApart (s : State) (es : List TransitEntry) : Prop :=
  (∀ e ∈ es, ∀ p l, touchedBy s e = some p → homeOf s p = some l → (listOf s l).head? = some p) ∧
  es.Pairwise (fun e e' => ∀ l, touchedList s e = some l → touchedList s e' ≠ some l)

theorem touchedList_eq_some {s : State} {e : TransitEntry} {l : ListId} :
    touchedList s e = some l ↔ ∃ p, touchedBy s e = some p ∧ homeOf s p = some l := Option.bind_eq_some_iff

theorem EntriesApart.tail {s : State} {e : TransitEntry} {es : List TransitEntry} (h : EntriesApart s (e :: es)) : EntriesApart s es := by
  obtain ⟨hnodup, hclosing, hserves, hgroup⟩ := h
  refine ⟨?_, fun y hy => hclosing y ?_, fun y hy => hserves y (List.mem_cons_of_mem e hy),
    fun y hy hk z hz => hgroup y (List.mem_cons_of_mem e hy) hk z (List.mem_cons_of_mem e hz)⟩
  · rw [List.filterMap_cons] at hnodup
    split at hnodup
    · exact hnodup
    · exact (List.nodup_cons.mp hnodup).2
  · cases es with
    | nil => cases hy
    | cons z rest => exact List.mem_cons_of_mem e hy

theorem EntriesApart.pairwise_touched {s : State} {es : List TransitEntry} (h : EntriesApart s es) :
    es.Pairwise (fun e e' => ∀ p, touchedBy s e = some p → touchedBy s e' ≠ some p) := by
  induction es with
  | nil => exact .nil
  | cons e rest ih => exact List.pairwise_cons.mpr ⟨fun e' he' p hp => h.touched_ne he' hp, ih h.tail⟩

/-- The slot invariant keeps each request in transit at the head of its list. -/
theorem SlotInv.headsApart {s : State} (h : SlotInv s) (hapart : EntriesApart s s.ls.transit) : HeadsApart s s.ls.transit := by
  obtain ⟨-, -, -, ⟨-, htransit⟩, hrequests, -⟩ := h
  have hheads (e : TransitEntry) (he : e ∈ s.ls.transit) (p : PoolIx) (l : ListId) (hp : touchedBy s e = some p)
      (hl : homeOf s p = some l) : (listOf s l).head? = some p := by
    rcases element_cases e with hcarries | hclosing | hprobe
    · rw [touchedBy_of_carries hcarries] at hp
      obtain ⟨q, hq, hphase, -⟩ := htransit e he p hp
      obtain ⟨hhead, -⟩ := hrequests p q hq
      rw [homeOf_of_entry hq] at hl
      cases hl
      exact hhead (.inl hphase)
    · rw [touchedBy_of_closing hclosing] at hp
      split at hp
      · cases hp
      · rename_i hrecord
        obtain ⟨-, p', q, hhead, hcontrol⟩ := demand_of_brokenRecord hclosing hrecord
        rw [hhead.1] at hp
        cases hp
        rw [homeOf_of_entry hhead.2, hcontrol] at hl
        cases hl
        exact hhead.1
    · simp only [touchedBy, hprobe, reduceCtorEq] at hp
  refine ⟨hheads, hapart.pairwise_touched.imp_of_mem fun {e e'} he he' hne l hl hl' => ?_⟩
  obtain ⟨p, hp, hhome⟩ := touchedList_eq_some.mp hl
  obtain ⟨p', hp', hhome'⟩ := touchedList_eq_some.mp hl'
  have hsame := (hheads e he p l hp hhome).symm.trans (hheads e' he' p' l hp' hhome')
  cases hsame
  exact hne p hp hp'

section Later

variable {c : Configuration} {s x : State} {e e' : TransitEntry} {es : List TransitEntry}

theorem EntryGivenUp.later_home (h : EntryGivenUp c s x e) (hapart : EntriesApart s (e :: es)) (he' : e' ∈ es) {p : PoolIx}
    (hp : touchedBy s e' = some p) : homeOf x p = homeOf s p :=
  h.pool.home_of_untouched fun htouched => hapart.touched_ne he' htouched hp

theorem EntryGivenUp.later_touchedList (h : EntryGivenUp c s x e) (hapart : EntriesApart s (e :: es)) (he' : e' ∈ es) :
    touchedList x e' = touchedList s e' := by
  rw [touchedList, touchedList, h.later_touched hapart he']
  cases hp : touchedBy s e' with
  | none => rfl
  | some p => exact h.later_home hapart he' hp

theorem EntryGivenUp.later_heads (h : EntryGivenUp c s x e) (hpool : PoolOk s) (hapart : EntriesApart s (e :: es))
    (hheads : HeadsApart s (e :: es)) : HeadsApart x es := by
  obtain ⟨hhead, hlists⟩ := hheads
  obtain ⟨hfirst, hrest⟩ := List.pairwise_cons.mp hlists
  refine ⟨fun e' he' p l hp hl => ?_, hrest.imp_of_mem fun {y z} hy hz hyz l hl => ?_⟩
  · rw [h.later_touched hapart he'] at hp
    rw [h.later_home hapart he' hp] at hl
    have htouched : touchedList s e ≠ some l := fun hel =>
      hfirst e' he' l hel (touchedList_eq_some.mpr ⟨p, hp, hl⟩)
    rw [(h.pool.untouched hpool htouched).1]
    exact hhead e' (List.mem_cons_of_mem e he') p l hp hl
  · rw [h.later_touchedList hapart hy] at hl
    rw [h.later_touchedList hapart hz]
    exact hyz l hl

theorem EntryGivenUp.next (hc : s.hp.config = some c) (hapart : EntriesApart s (e :: es)) :
    EntryGivenUp c s (resolveByBreak e s) e ∧ (resolveByBreak e s).hp.config = some c := by
  have hstep : EntryGivenUp c s (resolveByBreak e s) e :=
    entryGivenUp hc fun hwork => hapart.2.2.1 e List.mem_cons_self (hwork.elim .inl fun h => .inr (.inl h))
  exact ⟨hstep, hstep.host.config_eq.trans hc⟩

end Later

/-- The lists when the entries were given up: they lose the requests that ended (R144, R148). -/
theorem lists_resolveAll {c : Configuration} (es : List TransitEntry) {s : State} (hc : s.hp.config = some c) (hpool : PoolOk s)
    (hapart : EntriesApart s es) (l : ListId) :
    listOf (resolveAll es s) l = (listOf s l).filter (fun p => (entry (resolveAll es s) p).isSome) := by
  induction es generalizing s with
  | nil =>
    refine (List.filter_eq_self.mpr fun r hr => ?_).symm
    rw [isSome_entry, show homeOf (resolveAll [] s) r = homeOf s r from rfl, hpool.home_of_mem hr]
    rfl
  | cons e rest ih =>
    obtain ⟨hstep, hc'⟩ := EntryGivenUp.next hc hapart
    have hpool' : PoolOk (resolveByBreak e s) := (works_resolveByBreak e s).poolOk hpool
    have hrest := ih hc' hpool' (hstep.later_apart hapart)
    have hfree := (allGivenUp rest hc' (hstep.later_apart hapart)).free
    rw [show resolveAll (e :: rest) s = resolveAll rest (resolveByBreak e s) from rfl, hrest, hstep.pool.lists_eq hpool, List.filter_filter]
    refine List.filter_congr fun r _ => ?_
    cases hr : entry (resolveByBreak e s) r with
    | none => rw [hfree r hr]; rfl
    | some q => simp

/-- A list that no entry touches, when they were given up. -/
theorem untouched_resolveAll {c : Configuration} (es : List TransitEntry) {s : State} (hc : s.hp.config = some c) (hpool : PoolOk s)
    (hapart : EntriesApart s es) {l : ListId} (hl : ∀ e ∈ es, touchedList s e ≠ some l) :
    listOf (resolveAll es s) l = listOf s l ∧ (∀ a, l = .station a → headTimer (resolveAll es s) a = headTimer s a) ∧
    ∀ r, homeOf s r = some l → entry (resolveAll es s) r = entry s r := by
  induction es generalizing s with
  | nil => exact ⟨rfl, fun _ _ => rfl, fun _ _ => rfl⟩
  | cons e rest ih =>
    obtain ⟨hstep, hc'⟩ := EntryGivenUp.next hc hapart
    have hpool' : PoolOk (resolveByBreak e s) := (works_resolveByBreak e s).poolOk hpool
    obtain ⟨hlist, htimer, hentry⟩ := hstep.pool.untouched hpool (hl e List.mem_cons_self)
    obtain ⟨hlist', htimer', hentry'⟩ := ih hc' hpool' (hstep.later_apart hapart) fun e' he' => by
      rw [hstep.later_touchedList hapart he']
      exact hl e' (List.mem_cons_of_mem e he')
    refine ⟨hlist'.trans hlist, fun a ha => (htimer' a ha).trans (htimer a ha), fun r hr => ?_⟩
    have hr' : homeOf (resolveByBreak e s) r = some l := by rw [homeOf, hentry r hr, ← homeOf, hr]
    exact (hentry' r hr').trans (hentry r hr)

theorem access_resolveAll {c : Configuration} (es : List TransitEntry) {s : State} (hc : s.hp.config = some c) (hapart : EntriesApart s es)
    {y : Access} {r : PoolIx} (hr : ∀ e ∈ es, touchedBy s e ≠ some r) (hy : y.kind.servedEntry = some r) (hmem : y ∈ accesses s) :
    y ∈ accesses (resolveAll es s) := by
  induction es generalizing s with
  | nil => exact hmem
  | cons e rest ih =>
    obtain ⟨hstep, hc'⟩ := EntryGivenUp.next hc hapart
    refine ih hc' (hstep.later_apart hapart) (fun e' he' => ?_) (hstep.pool.access_of_untouched (hr e List.mem_cons_self) hy hmem)
    rw [hstep.later_touched hapart he']
    exact hr e' (List.mem_cons_of_mem e he')

theorem BecomesHead.serves {s x : State} {l : ListId} {r : PoolIx} {y : PoolEntry} {more : List Access} (h : BecomesHead s x l r y more) :
    ∀ z ∈ more, z.kind.servedEntry = some r := by
  obtain ⟨hstarts, hwaits, hready, -⟩ := h
  intro z hz
  by_cases hreads : readsPayload y.kind
  · by_cases hstart : payloadStarts s.hp.engine y
    · rw [(hstarts hstart).2, payloadReadOf] at hz
      split at hz
      · cases hz
      · rw [List.mem_singleton.mp hz]
        rfl
    · rw [(hwaits hreads hstart).2] at hz
      cases hz
  · rw [(hready hreads).2] at hz
    cases hz

/-- Becoming head depends on the engine state and the clock before, and on the request and its timer afterwards. -/
theorem BecomesHead.congr {s s' x x' : State} {l : ListId} {r : PoolIx} {y : PoolEntry} {more : List Access}
    (h : BecomesHead s x l r y more) (hengine : s'.hp.engine = s.hp.engine) (hclock : s'.clock = s.clock)
    (hentry : entry x' r = entry x r) (htimer : ∀ a, l = .station a → headTimer x' a = headTimer x a) :
    BecomesHead s' x' l r y more := by
  unfold BecomesHead at h ⊢
  obtain ⟨hstarts, hwaits, hready, harmed⟩ := h
  rw [hengine, hclock, hentry]
  exact ⟨hstarts, hwaits, hready, fun a ha => (htimer a ha).trans (harmed a ha)⟩

/-- A request that no entry touches is as it was, or became the head of its list (R75, R148). -/
theorem request_resolveAll {c : Configuration} (es : List TransitEntry) {s : State} (hc : s.hp.config = some c) (hpool : PoolOk s)
    (hapart : EntriesApart s es) (hheads : HeadsApart s es) {r : PoolIx} {y : PoolEntry} (hy : entry s r = some y)
    (hr : ∀ e ∈ es, touchedBy s e ≠ some r) :
    let t := resolveAll es s
    let l := listFor y.kind y.address
    ((listOf t l).head? ≠ some r ∨ (listOf s l).head? = some r → entry t r = some y) ∧
    ((listOf t l).head? = some r → (listOf s l).head? ≠ some r →
      ∃ more : List Access, BecomesHead s t l r y more ∧ ∀ z ∈ more, z ∈ accesses t) := by
  induction es generalizing s with
  | nil => exact ⟨fun _ => hy, fun hhead hnot => absurd hhead hnot⟩
  | cons e rest ih =>
    obtain ⟨hstep, hc'⟩ := EntryGivenUp.next hc hapart
    have hpool' : PoolOk (resolveByBreak e s) := (works_resolveByBreak e s).poolOk hpool
    have hapart' := hstep.later_apart hapart
    have huntouched (e' : TransitEntry) (he' : e' ∈ rest) : touchedBy (resolveByBreak e s) e' ≠ some r := by
      rw [hstep.later_touched hapart he']
      exact hr e' (List.mem_cons_of_mem e he')
    have hengine : (resolveByBreak e s).hp.engine = s.hp.engine := hstep.host.engine_eq
    have hhome := homeOf_of_entry hy
    dsimp only
    rw [show resolveAll (e :: rest) s = resolveAll rest (resolveByBreak e s) from rfl]
    by_cases htouched : touchedList s e = some (listFor y.kind y.address)
    · have hlater (e' : TransitEntry) (he' : e' ∈ rest) :
          touchedList (resolveByBreak e s) e' ≠ some (listFor y.kind y.address) := by
        rw [hstep.later_touchedList hapart he']
        exact (List.pairwise_cons.mp hheads.2).1 e' he' _ htouched
      obtain ⟨hlist, htimer, hentry⟩ := untouched_resolveAll rest hc' hpool' hapart' hlater
      have hsame : entry (resolveAll rest (resolveByBreak e s)) r = entry (resolveByBreak e s) r :=
        hentry r ((hstep.pool.home_of_untouched (hr e List.mem_cons_self)).trans hhome)
      obtain ⟨p, hp, hhomeP⟩ := touchedList_eq_some.mp htouched
      have hheadP : (listOf s (listFor y.kind y.address)).head? = some p := hheads.1 e List.mem_cons_self p _ hp hhomeP
      have hne : r ≠ p := fun hrp => hr e List.mem_cons_self (hrp ▸ hp)
      rw [hlist, hsame]
      have hnotHead : (listOf s (listFor y.kind y.address)).head? ≠ some r := by
        rw [hheadP]
        exact fun hpr => hne (Option.some.inj hpr).symm
      cases hstep.pool with
      | ended p' q htouched' _ h =>
        rw [htouched'] at hp
        cases hp
        have hl : listFor q.kind q.address = listFor y.kind y.address := by
          rw [homeOf_of_entry h.here] at hhomeP
          exact Option.some.inj hhomeP
        have hothers := h.others
        have hgoesOn := h.next
        rw [hl] at hothers hgoesOn
        refine ⟨fun hcase => ?_, fun hhead _ => ?_⟩
        · exact (hothers r hne (hcase.resolve_right hnotHead)).trans hy
        · obtain ⟨more, hacc, hnext⟩ := hgoesOn
          have hbecomes := hnext r y hhead hne hy
          refine ⟨more, hbecomes.congr rfl rfl hsame htimer, fun z hz => ?_⟩
          exact access_resolveAll rest hc' hapart' huntouched (hbecomes.serves z hz)
            (by rw [hacc]; exact List.mem_append_right _ hz)
      | paused p' q hwork hpool' _ h =>
        have hkept := h.kept
        rw [touchedBy_of_carries (hwork.elim .inl fun h => .inr (.inl h)), hpool'] at hp
        cases hp
        rw [hkept.1]
        exact ⟨fun _ => (hkept.2 r hne).trans hy, fun hhead => absurd hhead hnotHead⟩
      | same _ hfree =>
        rw [homeOf, hfree p hp] at hhomeP
        cases hhomeP
    · obtain ⟨hlist, -, hentry⟩ := hstep.pool.untouched hpool htouched
      obtain ⟨hkept, hbecomes⟩ := ih hc' hpool' hapart' (hstep.later_heads hpool hapart hheads) ((hentry r hhome).trans hy) huntouched
      rw [hlist] at hkept hbecomes
      refine ⟨hkept, fun hhead hnot => ?_⟩
      obtain ⟨more, hmore, hacc⟩ := hbecomes hhead hnot
      exact ⟨more, hmore.congr hengine.symm hstep.outside.1.symm rfl fun _ _ => rfl, hacc⟩

end Sys2Proof.Machine

/-! ## Breaks and their causes (R27, R28, R35 to R45) -/

namespace Sys2Proof.Machine

set_option Elab.async false

/-- The state in which the entries of the transit list are given up: only the loop sequencer and the receiver have changed. -/
def untracked (ls : LoopSequencer) (rx : Receiver) (s : State) : State := { s with ls := ls, rx := rx }

/-- What follows when the entries were given up: pool, stations, sweep and timers stay, accesses may move, and the completion unit
changes by `after`. -/
structure LostBehind (s x t : State) (after : CompletionUnit → CompletionUnit) : Prop where
  rp : t.rp = x.rp
  st : t.st = x.st
  ru : t.ru = x.ru
  sc : t.sc = x.sc
  rawDelay : t.ls.rawDelay = s.ls.rawDelay
  accesses : ∀ y ∈ accesses x, y ∈ accesses t
  cu : ∀ records slots, x.cu = { withRecords records s.cu with reserved := s.cu.reserved - slots } →
    t.cu = { after (withRecords records s.cu) with reserved := s.cu.reserved - slots }

theorem lostRecord_eq_workRecord {s : State} {q : PoolEntry} {a : Addr} (ha : requestStation q = some a) (hcount : q.expectedCount = none)
    (status : Status) (attempts : Nat) (o : LastOutcome) :
    lostRecord s q status attempts o = workRecord q status attempts (waitsField q) 0 (station s a).state (some o) := by
  simp only [lostRecord, workRecord, ha, hcount, Option.map_some, Option.map_none]

section Given

variable {c : Configuration} {s t : State} {ls : LoopSequencer} {rx : Receiver} {after : CompletionUnit → CompletionUnit}

theorem LostBehind.entry_eq {x : State} (h : LostBehind s x t after) (p : PoolIx) : entry t p = entry x p := entry_congr h.rp p

theorem LostBehind.station_eq {x : State} (h : LostBehind s x t after) (a : Addr) : station t a = station x a := station_congr h.st a

/-- One entry given up, alone in the transit list, by its kind (R43). -/
theorem aloneGivenUp {e : TransitEntry} (hc : s.hp.config = some c)
    (ht : LostBehind s (resolveByBreak e (untracked ls rx s)) t after) :
    AloneGivenUp s t c e (fun records slots => t.cu = { after (withRecords records s.cu) with reserved := s.cu.reserved - slots }) := by
  generalize hx : resolveByBreak e (untracked ls rx s) = x at ht
  have hstep (hserves : e.element = .exch ∨ e.element = .post → ∃ p q a, ServesStation (untracked ls rx s) e p q a) :
      EntryGivenUp c (untracked ls rx s) x e := hx ▸ entryGivenUp (by exact hc) hserves
  have hnotWork (h : e.element ≠ .exch ∧ e.element ≠ .post) : EntryGivenUp c (untracked ls rx s) x e :=
    hstep fun hwork => absurd hwork (not_or.mpr h)
  have henters (records : List CompletionRecord) (slots : Nat) (h : EntryGivenUp c (untracked ls rx s) x e)
      (hrecords : (brokenRecord s e).toList = records) (hslots : brokenSlots s e = slots) :
      t.cu = { after (withRecords records s.cu) with reserved := s.cu.reserved - slots } := by
    subst hrecords hslots
    exact ht.cu _ _ h.cu
  have hgone {p : PoolIx} (h : EntryGivenUp c (untracked ls rx s) x e) (hp : touchedBy s e = some p) (hrecord : brokenRecord s e ≠ none) :
      entry t p = none := (ht.entry_eq p).trans (h.pool.gone_of_touched hp hrecord)
  have hsame (h : EntryGivenUp c (untracked ls rx s) x e) (hrecord : brokenRecord s e = none) (hkind : ¬CarriesRequest e) : t.rp = s.rp := by
    refine ht.rp.trans ?_
    cases h.pool with
    | ended _ _ _ hsome => exact absurd hrecord hsome
    | paused _ _ hwork => exact absurd (hwork.elim .inl fun h => .inr (.inl h)) hkind
    | same _ _ hrp => exact hrp
  refine ⟨fun p q a hwork hserves hkind hcount => ?work, fun p q n helement hpool hq hkind hcount => ?group,
    fun p q a helement hpool hq hkind ha hcount => ?rest, fun helement => ?sweep, fun helement hdemand => ?call,
    fun p q helement hdemand hhead hkind => ?callNow, fun helement => ?probe⟩
  case work =>
    have hgiven := hstep fun _ => ⟨p, q, a, hserves⟩
    have hcarries : CarriesRequest e := hwork.elim .inl fun h => .inr (.inl h)
    have hslots : brokenSlots s e = 1 := by rcases hwork with h | h <;> simp only [brokenSlots, h]
    have hrecord := brokenRecord_work hwork hserves
    obtain ⟨hpool, hq, ha⟩ := hserves
    refine ⟨fun status hcase => ?_, fun hmark hpresent hleft => ?_⟩
    · have hstatus : brokenStatus s q a = some status := by
        unfold brokenStatus
        rcases hcase with ⟨hmark, rfl⟩ | ⟨hmark, hgone, rfl⟩ | ⟨hmark, hpresent, hlimit, rfl⟩
        · rw [if_pos hmark]
        · rw [if_neg (by rw [hmark]; exact Bool.false_ne_true), if_pos hgone]
        · rw [if_neg (by rw [hmark]; exact Bool.false_ne_true), if_neg (not_not.mpr hpresent), if_pos hlimit]
      rw [hstatus, Option.map_some, lostRecord_eq_workRecord ha hcount] at hrecord
      exact ⟨hgone hgiven ((touchedBy_of_carries hcarries).trans hpool) (by rw [hrecord]; exact Option.some_ne_none _),
        henters _ _ hgiven (by rw [hrecord]; rfl) hslots⟩
    · have hstatus : brokenStatus s q a = none := by
        unfold brokenStatus
        rw [if_neg (by rw [hmark]; exact Bool.false_ne_true), if_neg (not_not.mpr hpresent), if_neg hleft]
      rw [hstatus, Option.map_none] at hrecord
      obtain ⟨hnow, hlists, hentries⟩ := hgiven.pool.paused_of_carries hcarries hpool hq hrecord
      exact ⟨(ht.entry_eq p).trans hnow, ⟨fun l => (listOf_congr ht.rp l).trans (hlists l), fun r hr => (ht.entry_eq r).trans (hentries r hr)⟩,
        henters _ _ hgiven (by rw [hrecord]; rfl) hslots⟩
  case group =>
    have hgiven := hnotWork (by rw [helement]; decide)
    have hrecord : brokenRecord s e = some (lostRecord s q .loopFault q.attempts .lostToBreak) := by
      simp only [brokenRecord, helement, hpool, Option.bind_some, hq, Option.map_some]
    have hstation : requestStation q = none := requestStation_eq_none.mpr (by rw [hkind]; rfl)
    refine ⟨hgone hgiven ((touchedBy_of_carries (.inr (.inr (.inl helement)))).trans hpool) (by rw [hrecord]; exact Option.some_ne_none _),
      henters _ _ hgiven ?_ (by simp only [brokenSlots, helement, hrecord]; rfl)⟩
    rw [hrecord]
    simp only [lostRecord, hstation, hcount, waitsField, hkind, reduceCtorEq, if_false, Option.map_none, Option.map_some, Option.toList_some]
  case rest =>
    have hgiven := hnotWork (by rw [helement]; decide)
    have hrecord : brokenRecord s e = some (lostRecord s q .ok q.attempts .unknown) := by
      simp only [brokenRecord, helement, hpool, Option.bind_some, hq, Option.map_some]
    refine ⟨hgone hgiven ((touchedBy_of_carries (.inr (.inr (.inr helement)))).trans hpool) (by rw [hrecord]; exact Option.some_ne_none _),
      ht.rawDelay, henters _ _ hgiven ?_ (by simp only [brokenSlots, helement, hrecord]; rfl)⟩
    rw [hrecord, lostRecord_eq_workRecord ha hcount, waitsField, if_neg (by rw [hkind]; decide), Option.toList_some]
  case sweep =>
    have hgiven := hnotWork (by rw [helement]; decide)
    have hnotRequest : ¬CarriesRequest e := by simp [CarriesRequest, helement]
    have hswept : SweepGivenUp s t e := by
      have h := hgiven.sweep helement
      unfold SweepGivenUp at h ⊢
      rw [ht.ru]
      exact h
    have hrecord : brokenRecord s e = if e.demand = true ∧ (acceptedOf s = 0 ∨ s.ru.reports = []) then
      lostControlHead s .sweepNow (acceptedOf s) else none := by simp only [brokenRecord, helement]
    have hslots : brokenSlots s e = (e.slots - if e.demand = true then 1 else 0) + (brokenRecord s e).toList.length := by
      simp only [brokenSlots, helement]
    refine ⟨hswept, fun hdemand => ?_, fun p q hdemand hnow hhead hkind hone => ?_, fun hdemand haccepted hreports => ?_⟩
    · rw [if_neg (fun h => by rw [hdemand] at h; cases h.1)] at hrecord
      rw [hrecord, hdemand] at hslots
      exact ⟨henters _ _ hgiven (by rw [hrecord]; rfl) hslots, hsame hgiven hrecord hnotRequest⟩
    · rw [if_pos ⟨hdemand, hnow⟩] at hrecord
      have hlost : brokenRecord s e = some (controlRecord q .loopFault 0 (acceptedOf s)) := by
        rw [hrecord]
        simp only [lostControlHead, controlHeadRecord, hhead.1, Option.bind_some, hhead.2, hkind, if_true]
      have hsome : brokenRecord s e ≠ none := by rw [hlost]; exact Option.some_ne_none _
      rw [hlost, if_pos hdemand] at hslots
      refine ⟨hgone hgiven (by rw [touchedBy_of_closing (.inl helement), if_neg hsome, hhead.1]) hsome,
        henters _ _ hgiven (by rw [hlost]; rfl) (hslots.trans ?_)⟩
      simp only [Option.toList_some, List.length_singleton]
      omega
    · rw [if_neg (fun h => h.2.elim haccepted hreports)] at hrecord
      rw [hrecord, if_pos hdemand] at hslots
      exact ⟨henters _ _ hgiven (by rw [hrecord]; rfl) hslots, hsame hgiven hrecord hnotRequest⟩
  case call =>
    have hgiven := hnotWork (by rw [helement]; decide)
    have hrecord : brokenRecord s e = none := by
      simp only [brokenRecord, helement, hdemand, Bool.false_eq_true, if_false]
    exact ⟨henters _ _ hgiven (by rw [hrecord]; rfl) (by simp only [brokenSlots, helement, hrecord]; rfl),
      hsame hgiven hrecord (by simp [CarriesRequest, helement])⟩
  case callNow =>
    have hgiven := hnotWork (by rw [helement]; decide)
    have hrecord : brokenRecord s e = some (controlRecord q .loopFault 0 0) := by
      simp only [brokenRecord, helement, hdemand, if_true, lostControlHead, controlHeadRecord, hhead.1, Option.bind_some, hhead.2, hkind]
    have hsome : brokenRecord s e ≠ none := by rw [hrecord]; exact Option.some_ne_none _
    exact ⟨hgone hgiven (by rw [touchedBy_of_closing (.inr helement), if_neg hsome, hhead.1]) hsome,
      henters _ _ hgiven (by rw [hrecord]; rfl) (by simp only [brokenSlots, helement, hrecord]; rfl)⟩
  case probe =>
    have hgiven := hnotWork (by rw [helement]; decide)
    have hrecord : brokenRecord s e = none := by simp only [brokenRecord, helement]
    exact ⟨henters _ _ hgiven (by rw [hrecord]; rfl) (by simp only [brokenSlots, helement]),
      hsame hgiven hrecord (by simp [CarriesRequest, helement])⟩

/-- Every entry of the transit list is given up as R43 says. -/
theorem givenUp_of_resolveAll (hc : s.hp.config = some c)
    (ht : LostBehind s (resolveAll s.ls.transit (untracked ls rx s)) t after) : GivenUp s t c after := by
  have hconfig : (untracked ls rx s).hp.config = some c := hc
  have hkeeps := resolveAll_keeps s.ls.transit hconfig
  refine ⟨fun a => ?_, by rw [ht.st]; exact hkeeps.map, fun hapart => ?_, fun e halone => ?_⟩
  · rw [ht.station_eq, hkeeps.stations a]
    exact ⟨rfl, rfl, rfl⟩
  · have hapart' : EntriesApart (untracked ls rx s) s.ls.transit := hapart
    have hall := allGivenUp s.ls.transit hconfig hapart'
    refine ⟨ht.cu _ _ hall.cu, fun e he p q hcarries hp hq => ⟨fun hrecord => ⟨?_, fun a ha => ?_⟩, fun hrecord hwork hphase => ?_⟩,
      fun e he hsweep => ?_, fun hnone => ?_, fun e he p q hcompletes hhead => ?_, fun hinv => ⟨fun l => ?_, fun r hr => ?_, ?_⟩⟩
    · exact (ht.entry_eq p).trans (hall.ended e he p ((touchedBy_of_carries hcarries).trans hp) hrecord)
    · rw [ht.station_eq]
      exact hall.unlinked e he p q a hcarries hp hq ha hrecord
    · obtain ⟨hnow, hkept⟩ := hall.paused e he p q hcarries hp hq hrecord hwork hphase
      exact ⟨(ht.entry_eq p).trans hnow, fun a ha => (congrArg _ (ht.station_eq a)).trans (hkept a ha)⟩
    · have h := hall.sweep e he hsweep
      unfold SweepGivenUp at h ⊢
      rw [ht.ru]
      exact h
    · exact ht.ru.trans (hall.ru hnone)
    · exact (ht.entry_eq p).trans (hall.ended e he p
        ((touchedBy_of_closing hcompletes.1).trans ((if_neg hcompletes.2).trans hhead.1)) hcompletes.2)
    · have h := lists_resolveAll s.ls.transit hconfig (show PoolOk (untracked ls rx s) from hinv.1) hapart' l
      simp only [listOf_congr ht.rp, ht.entry_eq]
      exact h
    · exact (ht.entry_eq r).trans (hall.free r hr)
    · intro r y hy hpools hcontrol
      have huntouched (e : TransitEntry) (he : e ∈ s.ls.transit) : touchedBy s e ≠ some r := by
        rcases element_cases e with hcarries | hclosing | hprobe
        · rw [touchedBy_of_carries hcarries]
          exact hpools e he
        · rw [touchedBy_of_closing hclosing]
          split
          · exact (Option.some_ne_none r).symm
          · rename_i hrecord
            exact hcontrol e he ⟨hclosing, hrecord⟩
        · simp only [touchedBy, hprobe, ne_eq, reduceCtorEq, not_false_eq_true]
      obtain ⟨hkept, hbecomes⟩ := request_resolveAll s.ls.transit hconfig (show PoolOk (untracked ls rx s) from hinv.1) hapart'
        (show HeadsApart (untracked ls rx s) _ from hinv.headsApart hapart) (r := r) (y := y) hy huntouched
      dsimp only
      rw [listOf_congr ht.rp, ht.entry_eq]
      refine ⟨hkept, fun hhead hnot => ?_⟩
      obtain ⟨more, hmore, hacc⟩ := hbecomes hhead hnot
      exact ⟨more, hmore.congr rfl rfl (ht.entry_eq r) fun a _ => headTimer_congr ht.sc a, fun z hz => ht.accesses z (hacc z hz)⟩
  · rw [halone] at ht
    exact aloneGivenUp hc ht

end Given

end Sys2Proof.Machine

/-! ## The causes of a break (R27, R28, R31, R35, R41, R42) -/

namespace Sys2Proof.Machine

set_option Elab.async false

/-- An item that the oldest entry does not await is no match; only a PROBE in DRAINING is judged apart (R36, R41). -/
theorem fitFor_eq_none {s : State} {e : TransitEntry} {cmd : Instr} (hawaits : awaits e cmd = false)
    (hprobe : e.element = .probe → s.ls.state ≠ .draining) : fitFor s e cmd = none := by
  have hhead (h : fitsHead e cmd = false) : (deliveryOf cmd).bind (fun d => headFit e d.item) = none := by
    cases cmd with
    | headFrameReturn kind address toggle payload outcome copies span =>
      simp only [fitsHead, Bool.and_eq_false_iff, beq_eq_false_iff_ne] at h
      simp only [deliveryOf, Option.bind_some, headFit]
      refine if_neg fun hn => ?_
      obtain ⟨hk, ha, ht, hl⟩ := hn
      rcases h with ((h | h) | h) | h
      · exact h hk
      · exact h ha
      · exact h ht
      · exact h hl
    | damagedFrame span => cases h
    | _ => rfl
  unfold fitFor fitOf
  unfold awaits at hawaits
  cases helement : e.element with
  | post => simp only [helement] at hawaits; exact hhead hawaits
  | group => simp only [helement] at hawaits; exact hhead hawaits
  | rest => simp only [helement] at hawaits; exact hhead hawaits
  | exch =>
    simp only [helement] at hawaits
    cases hprogress : e.progress with
    | awaitingHead => simp only [hprogress] at hawaits; exact hhead hawaits
    | awaitingTurn =>
      simp only [hprogress] at hawaits
      cases cmd <;> first | rfl | cases hawaits
  | sweep =>
    simp only [helement] at hawaits
    cases cmd <;> first | rfl | cases hawaits
  | call =>
    simp only [helement] at hawaits
    cases cmd <;> first | rfl | cases hawaits
  | probe =>
    have hnone (d : Delivery) : probeFit s e d = none := by
      unfold probeFit
      split
      · exact if_neg fun h => hprobe helement h.1
      · rfl
    cases deliveryOf cmd with
    | none => rfl
    | some d => exact hnone d

theorem deliveryOf_probeMarker {cmd : Instr} {d : Delivery} {echo : Octet} (hd : deliveryOf cmd = some d)
    (hitem : d.item = .probeMarker echo) : cmd = .probeReturn echo d.span.start d.span.stop := by
  rw [← commandOf_deliveryOf hd, commandOf, hitem]

/-- The first item in PROBING that is no PROBE that succeeds breaks the loop (R27). -/
theorem deliverProbing_of_fails {s : State} {c : Configuration} {cmd : Instr} {d : Delivery} (hc : s.hp.config = some c)
    (hd : deliveryOf cmd = some d) (hfails : ∀ e, s.ls.transit.head? = some e → ¬probeSucceeds s c e cmd) :
    deliverProbing d s = enterBroken s := by
  unfold deliverProbing
  split
  · rename_i e rest echo htransit hitem
    refine if_neg fun hgood => hfails e (by rw [htransit]; rfl) ⟨hgood.1, d.span, ?_, ?_⟩
    · rw [← ((probeGood_iff hc ..).mp hgood.2).1]
      exact deliveryOf_probeMarker hd hitem
    · exact ((probeGood_iff hc ..).mp hgood.2).2
  · rfl

theorem deliverInTransit_of_mismatch {s : State} {cmd : Instr} {d : Delivery} (hd : deliveryOf cmd = some d)
    (hnone : ∀ e, s.ls.transit.head? = some e → fitFor s e cmd = none) : deliverInTransit d s = loseTrack s := by
  unfold deliverInTransit
  split
  · rfl
  · rename_i e rest htransit
    have hfit := hnone e (by rw [htransit]; rfl)
    rw [fitFor, hd, Option.bind_some] at hfit
    rw [hfit]

theorem failsRollCall_fit {s : State} {e : TransitEntry} {cmd : Instr} (hcall : e.element = .call) (h : failsRollCall cmd)
    (hcalling : s.ls.state = .calling) : ∃ fit, fitFor s e cmd = some fit ∧ applyFit e fit s = enterBroken s := by
  rcases h with ⟨kind, span, rfl⟩ | ⟨entries, span, rfl, hrejected⟩
  · exact ⟨.damagedCall, by simp only [fitFor, deliveryOf, Option.bind_some, fitOf, hcall, callFit], by
      simp only [applyFit, if_pos hcalling]⟩
  · exact ⟨.callMarker entries, fitFor_callMarker hcall entries span, by
      simp only [applyFit, if_pos hcalling, callingReturned, rollOf_of_rejected hrejected]⟩

theorem loseTrack_of_up {s : State} (h : s.ls.state = .opened ∨ s.ls.state = .calling ∨ s.ls.state = .probing) :
    loseTrack s = enterBroken s := by
  rcases h with h | h | h <;> simp only [loseTrack, h]

/-- Every cause of a break enters BROKEN (R28, R35, R41, R42). -/
theorem exec_breaks {s : State} {c : Configuration} {cmd : Instr} (hc : s.hp.config = some c) (h : BreaksLoop s c cmd) :
    exec cmd s = .next (settleBus s.hp.queue.length (enterBroken s)) := by
  rcases h with ⟨rfl, hstate, e, rest, d, htransit, hdeadline, hpassed⟩ | ⟨rfl, hprobing, d, htimer, hpassed⟩ |
    ⟨harrives, ⟨hprobing, hfails⟩ | ⟨hstate, hawaits⟩ | ⟨hcalling, ⟨e, rest, htransit, hcall⟩, hfails⟩⟩
  · have hpassed' : octetPassed s (returnLimit s) = true :=
      octetPassed_iff.mpr ⟨d, returnLimit_eq_some.mpr ⟨by tauto, e, rest, htransit, hdeadline⟩, hpassed⟩
    change execReturnLimitExpiry s = _
    rw [execReturnLimitExpiry, answerWithBus, if_pos hpassed', loseTrack_of_up (by tauto)]
  · have hpassed' : (octetPassed s s.ls.probeTimer && (s.ls.state == .probing || s.ls.state == .draining)) = true := by
      rw [Bool.and_eq_true]
      exact ⟨octetPassed_iff.mpr ⟨d, htimer, hpassed⟩, by rw [hprobing]; rfl⟩
    change execProbeTimerExpiry s = _
    rw [execProbeTimerExpiry, answerWithBus, if_pos hpassed', probeTimerExpires, loseTrack_of_up (s := { s with ls := { s.ls with probeTimer := none } }) (.inr (.inr hprobing))]
    rfl
  · obtain ⟨d, hd, hexec⟩ := exec_probing hprobing harrives
    rw [hexec, deliverProbing_of_fails hc hd hfails]
  · have hdelivering : s.ls.state = .opened ∨ s.ls.state = .calling ∨ s.ls.state = .draining := by tauto
    obtain ⟨d, hd, hexec⟩ := exec_of_arrivesNow harrives
    have hnone (e : TransitEntry) (he : s.ls.transit.head? = some e) : fitFor s e cmd = none :=
      fitFor_eq_none (hawaits e he) fun _ => by rcases hstate with h | h <;> rw [h] <;> decide
    rw [hexec, answerWithBus, receiverDelivers_of hdelivering, if_pos rfl, deliver_of_delivering d hdelivering,
      deliverInTransit_of_mismatch hd hnone, loseTrack_of_up (by tauto)]
  · obtain ⟨fit, hfit, happly⟩ := failsRollCall_fit hcall hfails hcalling
    have hbroken : quietWhenDrained (enterBroken s) = enterBroken s := if_neg fun h => by
      rw [(enterBroken_loop s).2.2.1] at h
      cases h.1
    rw [exec_matched htransit (.inr (.inl hcalling)) harrives hfit, happly, hbroken]

/-- The loop sequencer at the entry to BROKEN, before the settle timer (R42). -/
def brokenLoop (s : State) : LoopSequencer := { s.ls with state := .broken, transit := [], probeTimer := none, settleTimer := none }

/-- The entries given up at the entry to BROKEN. -/
def resolvedByBreak (s : State) : State := resolveAll s.ls.transit (untracked (brokenLoop s) .seek s)

theorem afterRaise_with_reserved (x : Raise) (cu : CompletionUnit) (n : Nat) :
    afterRaise x { cu with reserved := n } = { afterRaise x cu with reserved := n } := by
  unfold afterRaise
  by_cases h : raiseIsHeld x.kind cu
  · rw [if_pos (by exact h), if_pos h]
  · rw [if_neg (by exact h), if_neg h]

/-- The entry to BROKEN: behind the resolutions the notice, and the settle timer where nothing is left to send (R42, R44, R45). -/
theorem enterBroken_eq {s : State} {c : Configuration} (hc : s.hp.config = some c) :
    enterBroken s = { resolvedByBreak s with
      cu := afterRaise (loopRaise .broken) (resolvedByBreak s).cu
      ls := { s.ls with
        state := .broken, transit := [], probeTimer := none
        settleTimer := if s.tx.sending = none ∧ s.tx.waiting = [] then some (s.clock.cycles + c.settleTime * 16000) else none } } := by
  have hkeeps : BreakKeeps (untracked (brokenLoop s) .seek s) (resolvedByBreak s) := resolveAll_keeps s.ls.transit (by exact hc)
  have hls : (resolvedByBreak s).ls = brokenLoop s := hkeeps.ls
  have htx : (resolvedByBreak s).tx = s.tx := hkeeps.line.1
  have hclock : (resolvedByBreak s).clock = s.clock := hkeeps.outside.1
  have hconfigured (k : CompletionUnit) : configured { resolvedByBreak s with cu := k } = c :=
    configured_of_some (hkeeps.host.config_eq.trans hc)
  have hentered : enterBroken s = settleWhenIdle { resolvedByBreak s with cu := afterRaise (loopRaise .broken) (resolvedByBreak s).cu } := by
    rw [← raiseNotice_eq]
    rfl
  have hidle (k : CompletionUnit) : transmitterIdle { resolvedByBreak s with cu := k } = true ↔ s.tx.sending = none ∧ s.tx.waiting = [] := by
    rw [transmitterIdle, Bool.and_eq_true, Option.isNone_iff_eq_none, List.isEmpty_iff]
    exact Iff.of_eq (by rw [htx])
  rw [hentered, settleWhenIdle]
  by_cases h : s.tx.sending = none ∧ s.tx.waiting = []
  · rw [if_pos ((hidle _).mpr h), if_pos h, startSettle, hconfigured]
    simp only [hls, hclock]
    rfl
  · rw [if_neg fun hn => h ((hidle _).mp hn), if_neg h]
    conv_lhs => rw [show resolvedByBreak s = { resolvedByBreak s with ls := brokenLoop s } by rw [← hls]]
    rfl

end Sys2Proof.Machine

section

set_option Elab.async false

open Sys2Proof.Machine

/-- Settles O52: every cause ends in `enterBroken`, of which `enterBroken_eq` says what it leaves. -/
theorem breaksEnterBroken : Obligations.BreaksEnterBroken := by
  unfold Obligations.BreaksEnterBroken
  intro s c cmd hc hbreaks
  have hkeeps : BreakKeeps (untracked (brokenLoop s) .seek s) (resolvedByBreak s) := resolveAll_keeps s.ls.transit (by exact hc)
  have heq := enterBroken_eq hc
  obtain ⟨records, hdone, hcu⟩ := hkeeps.cu
  refine ⟨_, exec_breaks hc hbreaks, ?_, ?_, ?_, ⟨records, hdone, ?_⟩, ?_, ?_, ?_, ?_⟩
  · rw [settleBus_ls, heq]
  · rw [settleBus_rx, heq]
    exact hkeeps.line.2
  · rw [settleBus_tx, heq]
    exact hkeeps.line.1
  · rw [settleBus_cu, heq]
    change afterRaise (loopRaise .broken) (resolvedByBreak s).cu = _
    rw [hcu, afterRaise_with_reserved]
    rfl
  · rw [settleBus_st, heq]
    exact hkeeps.map
  · rw [settleBus_ri, heq]
    exact hkeeps.ri
  · refine HostKept.trans ?_ (hostKept_settleBus ..)
    rw [heq]
    exact hkeeps.host
  · refine OutsideKept.trans ?_ (outsideKept_settleBus ..)
    rw [heq]
    exact hkeeps.outside

/-- Settles O53: the entries are given up (`givenUp_of_resolveAll`), and the notice follows. -/
theorem breakResolvesEachElement : Obligations.BreakResolvesEachElement := by
  unfold Obligations.BreakResolvesEachElement
  intro s c cmd hc hbreaks
  refine ⟨_, exec_breaks hc hbreaks, givenUp_of_resolveAll (ls := brokenLoop s) (rx := .seek) hc ?_⟩
  have heq := enterBroken_eq hc
  refine ⟨?_, ?_, ?_, ?_, ?_, fun y hy => ?_, fun records slots hcu => ?_⟩
  · rw [settleBus_rp, heq]
    rfl
  · rw [settleBus_st, heq]
    rfl
  · rw [settleBus_ru, heq]
    rfl
  · rw [settleBus_sc, heq]
    rfl
  · rw [settleBus_ls, heq]
  · rw [mem_accesses_settled, heq]
    exact hy
  · rw [settleBus_cu, heq]
    change afterRaise (loopRaise .broken) (resolveAll s.ls.transit (untracked (brokenLoop s) .seek s)).cu = _
    rw [hcu, afterRaise_with_reserved]

end

/-! ## The loop state and the owners of items (R47)

What an item in its place does to its owner does not depend on whether the loop is OPEN or DRAINING: each operation, applied to the state
with another loop state, gives its result with that loop state. -/

namespace Sys2Proof.Machine

set_option Elab.async false

/-- The state with the loop in state `l`. -/
def withLoopState (l : LoopState) (s : State) : State := { s with ls := { s.ls with state := l } }

@[simp] theorem entry_withLoopState (l : LoopState) (s : State) (p : PoolIx) : entry (withLoopState l s) p = entry s p := rfl

@[simp] theorem station_withLoopState (l : LoopState) (s : State) (a : Addr) : station (withLoopState l s) a = station s a := rfl

@[simp] theorem listOf_withLoopState (l : LoopState) (s : State) (m : ListId) : listOf (withLoopState l s) m = listOf s m := by cases m <;> rfl

@[simp] theorem headEntry_withLoopState (l : LoopState) (s : State) (m : ListId) : headEntry (withLoopState l s) m = headEntry s m :=
  headEntry_congr rfl m

theorem withLoopState_ite (l : LoopState) (P : Prop) [Decidable P] (s t : State) :
    withLoopState l (if P then s else t) = if P then withLoopState l s else withLoopState l t := apply_ite _ _ _ _

@[simp] theorem putEntry_withLoopState (l : LoopState) (p : PoolIx) (e : Option PoolEntry) (s : State) :
    putEntry p e (withLoopState l s) = withLoopState l (putEntry p e s) := rfl

@[simp] theorem modEntry_withLoopState (l : LoopState) (p : PoolIx) (f : PoolEntry → PoolEntry) (s : State) :
    modEntry p f (withLoopState l s) = withLoopState l (modEntry p f s) := by
  simp only [modEntry, entry_withLoopState]
  cases entry s p <;> rfl

@[simp] theorem writeOutcome_withLoopState (l : LoopState) (p : PoolIx) (o : LastOutcome) (s : State) :
    writeOutcome p o (withLoopState l s) = withLoopState l (writeOutcome p o s) := modEntry_withLoopState ..

@[simp] theorem raiseNotice_withLoopState (l : LoopState) (x : Raise) (s : State) :
    raiseNotice x (withLoopState l s) = withLoopState l (raiseNotice x s) := by
  rw [raiseNotice_eq, raiseNotice_eq]
  rfl

@[simp] theorem startPayload_withLoopState (l : LoopState) (p : PoolIx) (s : State) :
    startPayload p (withLoopState l s) = withLoopState l (startPayload p s) := by
  simp only [startPayload, entry_withLoopState]
  cases entry s p with
  | none => rfl
  | some e => simp only [withLoopState_ite]; rfl

@[simp] theorem armHeadTimer_withLoopState (l : LoopState) (m : ListId) (e : PoolEntry) (s : State) :
    armHeadTimer m e (withLoopState l s) = withLoopState l (armHeadTimer m e s) := by cases m <;> rfl

@[simp] theorem becomeHead_withLoopState (l : LoopState) (m : ListId) (s : State) :
    becomeHead m (withLoopState l s) = withLoopState l (becomeHead m s) := by
  simp only [becomeHead, headEntry_withLoopState]
  cases headEntry s m with
  | none => rfl
  | some x =>
    simp only [armHeadTimer_withLoopState, startPayload_withLoopState, modEntry_withLoopState, withLoopState_ite]

@[simp] theorem clearOutstanding_withLoopState (l : LoopState) (m : ListId) (p : PoolIx) (s : State) :
    clearOutstanding m p (withLoopState l s) = withLoopState l (clearOutstanding m p s) := by
  cases m with
  | control => rfl
  | station a =>
    simp only [clearOutstanding, station_withLoopState, withLoopState_ite]
    rfl

@[simp] theorem leaveList_withLoopState (l : LoopState) (m : ListId) (p : PoolIx) (s : State) :
    leaveList m p (withLoopState l s) = withLoopState l (leaveList m p s) := by cases m <;> rfl

@[simp] theorem finishRequest_withLoopState (l : LoopState) (p : PoolIx) (status : Status) (length count : Nat) (use : SlotUse) (s : State) :
    finishRequest p status length count use (withLoopState l s) = withLoopState l (finishRequest p status length count use s) := by
  simp only [finishRequest, entry_withLoopState]
  cases entry s p with
  | none => rfl
  | some e =>
    simp only [← becomeHead_withLoopState, ← clearOutstanding_withLoopState, ← leaveList_withLoopState]
    rfl

@[simp] theorem pauseRequest_withLoopState (l : LoopState) (p : PoolIx) (s : State) :
    pauseRequest p (withLoopState l s) = withLoopState l (pauseRequest p s) :=
  congrArg (giveBackSlots 1) (modEntry_withLoopState l p
    (fun e => { e with phase := .paused, fetchTimer := .running (s.clock.cycles + (configured s).fetchDelay * cyclesPer10us) }) s)

@[simp] theorem failedAttempt_withLoopState (l : LoopState) (a : Addr) (p : PoolIx) (counted : Bool) (s : State) :
    failedAttempt a p counted (withLoopState l s) = withLoopState l (failedAttempt a p counted s) := by
  simp only [failedAttempt, modEntry_withLoopState, entry_withLoopState, station_withLoopState, pauseRequest_withLoopState,
    finishRequest_withLoopState]
  generalize modEntry p (fun e => { e with attempts := if counted = true then e.attempts + 1 else e.attempts }) s = u
  cases entry u p with
  | none => rfl
  | some e =>
    simp only [withLoopState_ite]

@[simp] theorem countFailure_withLoopState (l : LoopState) (a : Addr) (s : State) :
    countFailure a (withLoopState l s) = withLoopState l (countFailure a s) := by
  simp only [countFailure, station_withLoopState, withLoopState_ite]
  exact if_congr Iff.rfl (raiseNotice_withLoopState l (changeRaise 1)
    (putStation a { station s a with failures := min 15 ((station s a).failures + 1), state := .silent } s)) rfl

@[simp] theorem applyOutcomeToFailures_withLoopState (l : LoopState) (o : LastOutcome) (a : Addr) (s : State) :
    applyOutcomeToFailures o a (withLoopState l s) = withLoopState l (applyOutcomeToFailures o a s) := by
  cases o <;> first | rfl | exact countFailure_withLoopState ..

theorem flipCommandToggle_withLoopState (l : LoopState) (a : Addr) (s : State) :
    flipCommandToggle a (withLoopState l s) = withLoopState l (flipCommandToggle a s) := rfl

theorem clearFailures_withLoopState (l : LoopState) (a : Addr) (s : State) :
    clearFailures a (withLoopState l s) = withLoopState l (clearFailures a s) := rfl

theorem postReturned_withLoopState (l : LoopState) (a : Addr) (p : PoolIx) (o : LastOutcome) (s : State) :
    postReturned a p o (withLoopState l s) = withLoopState l (postReturned a p o s) := by
  simp only [postReturned, writeOutcome_withLoopState, applyOutcomeToFailures_withLoopState, failedAttempt_withLoopState,
    flipCommandToggle_withLoopState, finishRequest_withLoopState]
  cases o <;> rfl

theorem groupReturned_withLoopState (l : LoopState) (p : PoolIx) (o : LastOutcome) (copies : Nat) (s : State) :
    groupReturned p o copies (withLoopState l s) = withLoopState l (groupReturned p o copies s) := by
  simp only [groupReturned, writeOutcome_withLoopState, entry_withLoopState, finishRequest_withLoopState, withLoopState_ite]
  cases entry (writeOutcome p o s) p <;> simp only [withLoopState_ite]

theorem restReturned_withLoopState (l : LoopState) (p : PoolIx) (o : LastOutcome) (s : State) :
    restReturned p o (withLoopState l s) = withLoopState l (restReturned p o s) := by
  simp only [restReturned, writeOutcome_withLoopState, finishRequest_withLoopState, withLoopState_ite]
  rfl

theorem withRequest_withLoopState {f : PoolIx → State → State} {l : LoopState}
    (hf : ∀ p s, f p (withLoopState l s) = withLoopState l (f p s)) (e : TransitEntry) (s : State) :
    withRequest e f (withLoopState l s) = withLoopState l (withRequest e f s) := by
  unfold withRequest
  cases e.pool with
  | none => rfl
  | some p => exact hf p s

theorem withStationRequest_withLoopState {f : Addr → PoolIx → State → State} {l : LoopState}
    (hf : ∀ a p s, f a p (withLoopState l s) = withLoopState l (f a p s)) (e : TransitEntry) (s : State) :
    withStationRequest e f (withLoopState l s) = withLoopState l (withStationRequest e f s) := by
  unfold withStationRequest
  cases e.pool with
  | none => rfl
  | some p =>
    simp only [entry_withLoopState]
    cases (entry s p).bind requestStation with
    | none => rfl
    | some a => exact hf a p s

/-! ### Turns -/

theorem validResponse_withLoopState (l : LoopState) (a : Addr) (p : PoolIx) (payload : List Octet) (s : State) :
    validResponse a p payload (withLoopState l s) = withLoopState l (validResponse a p payload s) := by
  simp only [validResponse, clearFailures_withLoopState, flipCommandToggle_withLoopState, modEntry_withLoopState, entry_withLoopState]
  generalize modEntry p (fun e => { e with response := some payload.length }) (flipCommandToggle a (clearFailures a s)) = u
  cases entry u p with
  | none => rfl
  | some e =>
    simp only [finishRequest_withLoopState, withLoopState_ite]
    rfl

theorem badResponse_withLoopState (l : LoopState) (a : Addr) (p : PoolIx) (o : LastOutcome) (s : State) :
    badResponse a p o (withLoopState l s) = withLoopState l (badResponse a p o s) := by
  simp only [badResponse, modEntry_withLoopState, failedAttempt_withLoopState]

theorem notReady_withLoopState (l : LoopState) (a : Addr) (p : PoolIx) (s : State) :
    notReady a p (withLoopState l s) = withLoopState l (notReady a p s) := by
  simp only [notReady, modEntry_withLoopState, entry_withLoopState]
  generalize modEntry p (fun e => { e with waits := e.waits + 1, lastOutcome := some .notReady, nextFrame := some .fetch }) s = u
  cases entry u p with
  | none => rfl
  | some e =>
    simp only [finishRequest_withLoopState, failedAttempt_withLoopState, withLoopState_ite]
    rfl

theorem turnAfterAccepted_withLoopState (l : LoopState) (a : Addr) (p : PoolIx) (e : PoolEntry) (t : TurnItem) (s : State) :
    turnAfterAccepted a p e t (withLoopState l s) = withLoopState l (turnAfterAccepted a p e t s) := by
  cases t with
  | unchanged => exact notReady_withLoopState ..
  | damaged => exact badResponse_withLoopState ..
  | response source toggle payload =>
    simp only [turnAfterAccepted, validResponse_withLoopState, badResponse_withLoopState, withLoopState_ite]

theorem turnReturned_withLoopState (l : LoopState) (a : Addr) (p : PoolIx) (t : TurnItem) (s : State) :
    turnReturned a p t (withLoopState l s) = withLoopState l (turnReturned a p t s) := by
  simp only [turnReturned, entry_withLoopState]
  cases entry s p with
  | none => rfl
  | some e =>
    simp only [clearFailures_withLoopState, turnAfterAccepted_withLoopState, applyOutcomeToFailures_withLoopState,
      failedAttempt_withLoopState]
    cases e.lastOutcome with
    | none => rfl
    | some o => cases o <;> rfl

/-! ### Sweeps -/

theorem testDescriptorRead_withLoopState (l : LoopState) (s : State) :
    testDescriptorRead (withLoopState l s) = withLoopState l (testDescriptorRead s) := by
  simp only [testDescriptorRead, withLoopState_ite]
  rfl

theorem finishSweepNow_withLoopState (l : LoopState) (status : Status) (count : Nat) (s : State) :
    finishSweepNow status count (withLoopState l s) = withLoopState l (finishSweepNow status count s) := by
  simp only [finishSweepNow, headEntry_withLoopState]
  cases headEntry s .control with
  | none => rfl
  | some x => simp only [finishRequest_withLoopState, withLoopState_ite]

theorem enterReport_withLoopState (l : LoopState) (r : PendingReport) (status : Status) (s : State) :
    enterReport r status (withLoopState l s) = withLoopState l (enterReport r status s) := by
  have hentered : enterRecord (reportRecord (withLoopState l s) r status) .useReserved (withLoopState l s) =
      withLoopState l (enterRecord (reportRecord s r status) .useReserved s) := rfl
  simp only [enterReport, hentered]
  generalize enterRecord (reportRecord s r status) .useReserved s = u
  rw [show (withLoopState l u).ru.decision = u.ru.decision from rfl]
  cases u.ru.decision with
  | none => rfl
  | some d =>
    simp only [withLoopState_ite]
    exact if_congr Iff.rfl (finishSweepNow_withLoopState l d.status d.count { u with ru := { u.ru with decision := none } }) rfl

theorem pumpReports_withLoopState (l : LoopState) (rs : List PendingReport) (s : State) :
    pumpReports rs (withLoopState l s) = withLoopState l (pumpReports rs s) := by
  induction rs generalizing s with
  | nil => rfl
  | cons r rest ih =>
    simp only [pumpReports, enterReport_withLoopState, ih, withLoopState_ite]
    rfl

/-- An accepted report joins those pending, and its descriptor and slot are taken (R110). -/
def reportJoined (a : Addr) (d : Descriptor) (cache : List Descriptor) (w : SweepRecord) (payload : List Octet) (v : State) : State :=
  { v with ru := { v.ru with cache := cache
                             sweep := some { w with reserved := w.reserved - 1, accepted := w.accepted + 1 }
                             reports := v.ru.reports ++ [{ source := a, descriptor := d, payload := payload }] } }

/-- What follows an acceptance: the oldest report's write where none is being made, and the next descriptor read (R101, R111). -/
def reportFollowed (v : State) : State := testDescriptorRead (if v.ru.writing then v else pumpReports v.ru.reports v)

/-- Toggle, ack entry and slot of an accepted report (R110). -/
def reportAcknowledged (a : Addr) (toggle : Toggle) (s : State) : State :=
  takeSweepSlot (putAck a (some { toggle := toggle, carried := false }) (putStation a { station s a with reportToggle := some toggle } s))

theorem acceptReport_stages {s : State} {d : Descriptor} {cache : List Descriptor} {w : SweepRecord} (hcache : s.ru.cache = d :: cache)
    (hsweep : s.ru.sweep = some w) (a : Addr) (toggle : Toggle) (payload : List Octet) :
    acceptReport a toggle payload s = reportFollowed (reportJoined a d cache w payload (reportAcknowledged a toggle s)) := by
  simp only [acceptReport, hcache, hsweep]
  rfl

theorem acceptReport_withLoopState (l : LoopState) (a : Addr) (toggle : Toggle) (payload : List Octet) (s : State) :
    acceptReport a toggle payload (withLoopState l s) = withLoopState l (acceptReport a toggle payload s) := by
  have htaken (u : State) : takeSweepSlot (withLoopState l u) = withLoopState l (takeSweepSlot u) := by
    unfold takeSweepSlot
    rw [show (withLoopState l u).ls.transit = u.ls.transit from rfl]
    cases u.ls.transit <;> rfl
  have hacknowledged : reportAcknowledged a toggle (withLoopState l s) = withLoopState l (reportAcknowledged a toggle s) :=
    htaken (putAck a (some { toggle := toggle, carried := false }) (putStation a { station s a with reportToggle := some toggle } s))
  have hfollowed (v : State) : reportFollowed (withLoopState l v) = withLoopState l (reportFollowed v) := by
    rw [reportFollowed, reportFollowed, ← testDescriptorRead_withLoopState, withLoopState_ite]
    exact congrArg testDescriptorRead (if_congr Iff.rfl rfl (pumpReports_withLoopState ..))
  cases hcache : s.ru.cache with
  | nil => simp only [acceptReport, show (withLoopState l s).ru = s.ru from rfl, hcache]
  | cons d cache =>
    cases hsweep : s.ru.sweep with
    | none => simp only [acceptReport, show (withLoopState l s).ru = s.ru from rfl, hcache, hsweep]
    | some w =>
      rw [acceptReport_stages hcache hsweep, acceptReport_stages (s := withLoopState l s) hcache hsweep, hacknowledged, ← hfollowed]
      rfl

theorem reportReturned_withLoopState (l : LoopState) (source : Octet) (toggle : Toggle) (payload : List Octet) (s : State) :
    reportReturned source toggle payload (withLoopState l s) = withLoopState l (reportReturned source toggle payload s) := by
  have hcounted : countReportItem (withLoopState l s) = withLoopState l (countReportItem s) := rfl
  simp only [reportReturned, hcounted]
  generalize countReportItem s = u
  rw [show (withLoopState l u).ru = u.ru from rfl]
  cases u.ru.sweep with
  | none => rfl
  | some w =>
    cases stationAt source.toNat with
    | none => rfl
    | some a =>
      simp only [station_withLoopState, acceptReport_withLoopState, withLoopState_ite]
      rfl

theorem endSweep_withLoopState (l : LoopState) (intact : Bool) (e : TransitEntry) (s : State) :
    endSweep intact e (withLoopState l s) = withLoopState l (endSweep intact e s) := by
  simp only [endSweep, withLoopState_ite]
  refine if_congr Iff.rfl (if_congr Iff.rfl ?_ rfl) rfl
  have hsettled : giveBackSlots (e.slots - if e.demand = true then 1 else 0) (settleAcks intact (withLoopState l s)) =
      withLoopState l (giveBackSlots (e.slots - if e.demand = true then 1 else 0) (settleAcks intact s)) := rfl
  rw [hsettled]
  generalize giveBackSlots (e.slots - if e.demand = true then 1 else 0) (settleAcks intact s) = u
  exact finishSweepNow_withLoopState l _ _ { u with ru := { u.ru with sweep := none } }

/-! ### Roll calls -/

theorem finishCallNow_withLoopState (l : LoopState) (status : Status) (count : Nat) (s : State) :
    finishCallNow status count (withLoopState l s) = withLoopState l (finishCallNow status count s) := by
  simp only [finishCallNow, headEntry_withLoopState]
  cases headEntry s .control with
  | none => rfl
  | some x => simp only [finishRequest_withLoopState, withLoopState_ite]

theorem modOutstanding_withLoopState (l : LoopState) (a : Addr) (f : PoolEntry → PoolEntry) (s : State) :
    modOutstanding a f (withLoopState l s) = withLoopState l (modOutstanding a f s) := by
  simp only [modOutstanding, station_withLoopState]
  cases (station s a).outstanding with
  | none => rfl
  | some p => exact modEntry_withLoopState ..

theorem foldl_withLoopState {f : State → Addr → State} {l : LoopState}
    (hf : ∀ s a, f (withLoopState l s) a = withLoopState l (f s a)) (as : List Addr) (s : State) :
    as.foldl f (withLoopState l s) = withLoopState l (as.foldl f s) := by
  induction as generalizing s with
  | nil => rfl
  | cons a rest ih => rw [List.foldl_cons, hf, ih, List.foldl_cons]

theorem reconcile_withLoopState (l : LoopState) (roll : List (Addr × Bool)) (s : State) :
    reconcile roll (withLoopState l s) = withLoopState l (reconcile roll s) := by
  have hjoined : rollJoined roll (withLoopState l s) = withLoopState l (rollJoined roll s) :=
    foldl_withLoopState (fun u a => by
      simp only [applyJoin, withLoopState_ite]
      exact if_congr Iff.rfl (modOutstanding_withLoopState l a joinResetEntry (putAck a none u)) rfl) allStations
      { s with st := rollTable s roll }
  have hraised : rollRaised roll (withLoopState l s) = withLoopState l (rollRaised roll s) := by
    rw [rollRaised, hjoined]
    rfl
  rw [reconcile_eq, reconcile_eq, hraised]
  refine foldl_withLoopState (fun u a => ?_) allStations (rollRaised roll s)
  simp only [applyLeaving, station_withLoopState, modOutstanding_withLoopState]
  exact (withLoopState_ite ..).symm

theorem discardCall_withLoopState (l : LoopState) (e : TransitEntry) (s : State) :
    discardCall e (withLoopState l s) = withLoopState l (discardCall e s) := by
  have hpopped : { popOldest (withLoopState l s) with sc := { (popOldest (withLoopState l s)).sc with callDue := true } } =
      withLoopState l { popOldest s with sc := { (popOldest s).sc with callDue := true } } := rfl
  simp only [discardCall, hpopped, headEntry_withLoopState, withLoopState_ite]
  generalize ({ popOldest s with sc := { (popOldest s).sc with callDue := true } } : State) = u
  refine if_congr Iff.rfl ?_ rfl
  cases headEntry u .control with
  | none => rfl
  | some x =>
    simp only [withLoopState_ite]
    rfl

theorem callReturned_withLoopState (l : LoopState) (e : TransitEntry) (entries : List CallEntry) (s : State) :
    callReturned e entries (withLoopState l s) = withLoopState l (callReturned e entries s) := by
  unfold callReturned
  cases rollOf entries with
  | none => exact discardCall_withLoopState ..
  | some roll =>
    have hrolled : addJoins roll (reconcile roll (popOldest (withLoopState l s))) = withLoopState l (rolled roll s) := by
      rw [show popOldest (withLoopState l s) = withLoopState l (popOldest s) from rfl, reconcile_withLoopState]
      rfl
    simp only [hrolled, withLoopState_ite]
    refine if_congr Iff.rfl ?_ rfl
    simp only [answerCallNow, finishCallNow_withLoopState, withLoopState_ite]
    rfl

/-! ### Items -/

/-- What a matched item does to its owner does not depend on the loop state, outside CALLING (R36, R47). -/
theorem applyFit_withLoopState {s : State} {l : LoopState} (hl : l ≠ .calling) (hs : s.ls.state ≠ .calling) (e : TransitEntry) (fit : Fit) :
    applyFit e fit (withLoopState l s) = withLoopState l (applyFit e fit s) := by
  cases fit with
  | headFrame o copies =>
    simp only [applyFit, headFrameMatched]
    cases e.element with
    | exch =>
      have hadvanced : advanceOldest (withLoopState l s) = withLoopState l (advanceOldest s) := by
        unfold advanceOldest
        rw [show (withLoopState l s).ls.transit = s.ls.transit from rfl]
        cases s.ls.transit <;> rfl
      simp only [hadvanced]
      exact withRequest_withLoopState (fun p u => writeOutcome_withLoopState l p o u) e (advanceOldest s)
    | post => exact withStationRequest_withLoopState (fun a p u => postReturned_withLoopState l a p o u) e (popOldest s)
    | group => exact withRequest_withLoopState (fun p u => groupReturned_withLoopState l p o copies u) e (popOldest s)
    | rest => exact withRequest_withLoopState (fun p u => restReturned_withLoopState l p o u) e (popOldest s)
    | _ => rfl
  | turn t => exact withStationRequest_withLoopState (fun a p u => turnReturned_withLoopState l a p t u) e (popOldest s)
  | report source toggle payload => exact reportReturned_withLoopState ..
  | damagedReport => rfl
  | sweepMarker acks => exact endSweep_withLoopState l (acks == e.acks) e (popOldest s)
  | damagedSweep => exact endSweep_withLoopState l false e (popOldest s)
  | callMarker entries =>
    simp only [applyFit, if_neg hs, if_neg (show (withLoopState l s).ls.state ≠ .calling from hl)]
    exact callReturned_withLoopState ..
  | damagedCall =>
    simp only [applyFit, if_neg hs, if_neg (show (withLoopState l s).ls.state ≠ .calling from hl)]
    exact discardCall_withLoopState ..
  | probe start => rfl

end Sys2Proof.Machine

/-! ## The drain (R43, R47, R189) -/

namespace Sys2Proof.Machine

set_option Elab.async false

/-- The pending causes when the engine passes from STOPPING to STOPPED (R189). -/
def causesWhenQuiet (engine : EngineState) (causes : Causes) : Causes := if engine = .stopping then withEngineCause causes else causes

/-- The state in QUIET: nothing in transit, the timers stopped, the receiver held in SEEK, and a STOPPING engine STOPPED (R47, R189). -/
def quieted (u : State) : State :=
  { u with
    ls := { u.ls with state := .quiet, transit := [], probeTimer := none, settleTimer := none }
    rx := .seek
    hp := { u.hp with engine := engineWhenQuiet u.hp.engine }
    cu := { u.cu with pendingCauses := causesWhenQuiet u.hp.engine u.cu.pendingCauses } }

theorem enterQuiet_eq (u : State) : enterQuiet u = quieted u := by
  unfold quieted engineWhenQuiet causesWhenQuiet
  by_cases h : u.hp.engine = .stopping
  · rw [enterQuiet_of_stopping h, if_pos h, if_pos h]
  · rw [enterQuiet_of_not_stopping h, if_neg h, if_neg h]

theorem mayBeginAccess_whenQuiet (e : EngineState) : mayBeginAccess (engineWhenQuiet e) = mayBeginAccess e := by cases e <;> rfl

/-- The end of the step and the entry to QUIET do not meet: the sequencer begins accesses in STOPPING and in STOPPED (R197). -/
theorem settleBus_quieted (n : Nat) (u : State) : settleBus n (quieted u) = quieted (settleBus n u) := by
  have hjoined : joinRequests n (quieted u) = quieted (joinRequests n u) := rfl
  rw [settleBus, settleBus, hjoined]
  generalize joinRequests n u = v
  unfold beginAccess
  rw [show (quieted v).hp.bus = v.hp.bus from rfl, show (quieted v).hp.queue = v.hp.queue from rfl,
    show mayBeginAccess (quieted v).hp.engine = mayBeginAccess v.hp.engine from mayBeginAccess_whenQuiet _]
  cases v.hp.bus with
  | some b => rfl
  | none =>
    cases v.hp.queue with
    | nil => rfl
    | cons x rest => cases mayBeginAccess v.hp.engine <;> rfl

theorem settleBus_withLoopState (l : LoopState) (n : Nat) (u : State) :
    settleBus n (withLoopState l u) = withLoopState l (settleBus n u) := by
  have hjoined : joinRequests n (withLoopState l u) = withLoopState l (joinRequests n u) := rfl
  rw [settleBus, settleBus, hjoined]
  generalize joinRequests n u = v
  unfold beginAccess
  rw [show (withLoopState l v).hp = v.hp from rfl]
  cases v.hp.bus with
  | some b => rfl
  | none =>
    cases v.hp.queue with
    | nil => rfl
    | cons x rest => cases mayBeginAccess v.hp.engine <;> rfl

/-- The end of a drain that a matched item may bring (R47). -/
theorem quietWhenDrained_draining {u : State} (h : u.ls.state = .draining) :
    quietWhenDrained u = if u.ls.transit = [] then quieted u else u := by
  unfold quietWhenDrained
  rw [← enterQuiet_eq]
  exact if_congr ⟨fun hd => hd.2, fun ht => ⟨h, ht⟩⟩ rfl rfl

/-- An awaited item is a match (R36 to R40). -/
theorem awaits_fits {s : State} {e : TransitEntry} {cmd : Instr} (h : awaits e cmd = true) : ∃ fit, fitFor s e cmd = some fit := by
  have hhead (h : fitsHead e cmd = true) : ∃ fit, (deliveryOf cmd).bind (fun d => headFit e d.item) = some fit := by
    cases cmd with
    | headFrameReturn kind address toggle payload outcome copies span =>
      simp only [fitsHead, Bool.and_eq_true, beq_iff_eq, and_assoc] at h
      exact ⟨.headFrame (lastOutcomeOf outcome) copies, if_pos h⟩
    | damagedFrame span => exact ⟨_, rfl⟩
    | _ => cases h
  unfold fitFor fitOf
  unfold awaits at h
  cases helement : e.element with
  | post => simp only [helement] at h; exact hhead h
  | group => simp only [helement] at h; exact hhead h
  | rest => simp only [helement] at h; exact hhead h
  | exch =>
    simp only [helement] at h
    cases hprogress : e.progress with
    | awaitingHead => simp only [hprogress] at h; exact hhead h
    | awaitingTurn =>
      simp only [hprogress] at h
      cases cmd <;> cases h <;> exact ⟨_, rfl⟩
  | sweep =>
    simp only [helement] at h
    cases cmd <;> cases h <;> exact ⟨_, rfl⟩
  | call =>
    simp only [helement] at h
    cases cmd <;> cases h <;> exact ⟨_, rfl⟩
  | probe =>
    simp only [helement] at h
    cases h

theorem fitFor_withLoopState {s : State} {e : TransitEntry} (hprobe : e.element ≠ .probe) (l : LoopState) (cmd : Instr) :
    fitFor (withLoopState l s) e cmd = fitFor s e cmd := by
  unfold fitFor
  refine Option.bind_congr fun d _ => ?_
  unfold fitOf
  cases helement : e.element with
  | probe => exact absurd helement hprobe
  | _ => rfl

end Sys2Proof.Machine

namespace Sys2Proof.Machine

set_option Elab.async false

section Drain

variable {s : State} {e : TransitEntry} {rest : List TransitEntry} {c : Configuration} {cmd : Instr}

/-- An awaited item in DRAINING does what it does in OPEN, and may end the drain (R47). -/
theorem exec_draining_awaited (hstate : s.ls.state = .draining) (htransit : s.ls.transit = e :: rest) (harrives : ArrivesNow s cmd)
    (hawaits : awaits e cmd = true) :
    ∃ v, exec cmd (withLoopState .opened s) = .next (settleBus s.hp.queue.length v) ∧
      exec cmd s = .next (settleBus s.hp.queue.length (quietWhenDrained (withLoopState .draining v))) ∧
      v.ls.state = .opened ∧ v.hp.engine = s.hp.engine := by
  obtain ⟨fit, hfit⟩ := awaits_fits (s := s) hawaits
  have hprobe : e.element ≠ .probe := fun h => by
    rw [awaits, h] at hawaits
    cases hawaits
  have hfit' : fitFor (withLoopState .opened s) e cmd = some fit := (fitFor_withLoopState hprobe ..).trans hfit
  have hloop := applyFit_loop e fit (s := withLoopState .opened s) (show LoopState.opened ≠ .calling by decide)
  have hsame : (applyFit e fit (withLoopState .opened s)).ls.state = .opened ∧
      (applyFit e fit (withLoopState .opened s)).hp.engine = s.hp.engine := by
    rcases hloop with h | h
    · exact ⟨h.state, h.engine⟩
    · exact ⟨h.state, h.engine⟩
  have hdraining : s = withLoopState .draining (withLoopState .opened s) := by
    rw [withLoopState, withLoopState, ← hstate]
  have happly : applyFit e fit s = withLoopState .draining (applyFit e fit (withLoopState .opened s)) := by
    conv_lhs => rw [hdraining]
    exact applyFit_withLoopState (by decide) (show LoopState.opened ≠ .calling by decide) e fit
  refine ⟨applyFit e fit (withLoopState .opened s), ?_, ?_, hsame⟩
  · rw [exec_matched (s := withLoopState .opened s) htransit (.inl rfl) harrives hfit']
    have hopened : quietWhenDrained (applyFit e fit (withLoopState .opened s)) = applyFit e fit (withLoopState .opened s) :=
      if_neg fun h => by
        rw [hsame.1] at h
        cases h.1
    rw [hopened]
    rfl
  · rw [exec_matched htransit (.inr (.inr hstate)) harrives hfit, happly]

theorem probeSucceeds_fits (hc : s.hp.config = some c) (hstate : s.ls.state = .draining) {span : ReturnSpan}
    (h : probeSucceeds s c e (.probeReturn s.ls.probeNumber span.start span.stop)) :
    fitFor s e (.probeReturn s.ls.probeNumber span.start span.stop) = some (.probe span.start) := by
  obtain ⟨hprobe, span', hcmd, hlimit⟩ := h
  simp only [Instr.probeReturn.injEq, true_and] at hcmd
  have hgood : probeGood s e s.ls.probeNumber span.stop = true := (probeGood_iff hc ..).mpr ⟨rfl, by rw [hcmd.2]; exact hlimit⟩
  simp only [fitFor, deliveryOf, Option.bind_some, fitOf, hprobe, probeFit]
  exact if_pos ⟨hstate, hgood⟩

/-- An item in DRAINING that the oldest entry does not await, and no PROBE that succeeds, is a mismatch (R41, R47). -/
theorem fitFor_of_draining (hc : s.hp.config = some c) (hawaits : awaits e cmd = false) (hfails : ¬probeSucceeds s c e cmd) :
    fitFor s e cmd = none := by
  by_cases hprobe : e.element = .probe
  · cases hd : deliveryOf cmd with
    | none => rw [fitFor, hd, Option.bind_none]
    | some d =>
      rw [fitFor, hd, Option.bind_some]
      simp only [fitOf, hprobe, probeFit]
      split
      · rename_i echo hitem
        refine if_neg fun h => hfails ⟨hprobe, d.span, ?_, ((probeGood_iff hc ..).mp h.2).2⟩
        rw [← ((probeGood_iff hc ..).mp h.2).1]
        exact deliveryOf_probeMarker hd hitem
      · rfl
  · exact fitFor_eq_none hawaits fun h => absurd h hprobe

theorem loseTrack_of_draining {u : State} (h : u.ls.state = .draining) : loseTrack u = abandonDrain u := by simp only [loseTrack, h]

/-- The loop sequencer while the entries of a drain are given up: the probe timer may have stopped. -/
def drainedLoop (timer : Option Nat) (s : State) : LoopSequencer := { s.ls with transit := [], probeTimer := timer }

theorem exec_abandons (hc : s.hp.config = some c) (hstate : s.ls.state = .draining) (htransit : s.ls.transit = e :: rest)
    (h : cmd = .returnLimitExpiry ∧ (∃ d, e.deadline = some d ∧ d < s.clock.octets) ∨
      cmd = .probeTimerExpiry ∧ (∃ d, s.ls.probeTimer = some d ∧ d < s.clock.octets) ∨
      ArrivesNow s cmd ∧ awaits e cmd = false ∧ ¬probeSucceeds s c e cmd) :
    ∃ timer, exec cmd s = .next (quieted (settleBus s.hp.queue.length (resolveAll s.ls.transit (untracked (drainedLoop timer s) s.rx s)))) := by
  have hlost : loseTrack s = quieted (resolveAll s.ls.transit (untracked (drainedLoop s.ls.probeTimer s) s.rx s)) := by
    rw [← enterQuiet_eq, loseTrack_of_draining hstate]
    rfl
  rcases h with ⟨rfl, d, hdeadline, hpassed⟩ | ⟨rfl, d, htimer, hpassed⟩ | ⟨harrives, hawaits, hfails⟩
  · have hpassed' : octetPassed s (returnLimit s) = true :=
      octetPassed_iff.mpr ⟨d, returnLimit_eq_some.mpr ⟨by tauto, e, rest, htransit, hdeadline⟩, hpassed⟩
    refine ⟨s.ls.probeTimer, ?_⟩
    change execReturnLimitExpiry s = _
    rw [execReturnLimitExpiry, answerWithBus, if_pos hpassed', hlost, settleBus_quieted]
  · have hpassed' : (octetPassed s s.ls.probeTimer && (s.ls.state == .probing || s.ls.state == .draining)) = true := by
      rw [Bool.and_eq_true]
      exact ⟨octetPassed_iff.mpr ⟨d, htimer, hpassed⟩, by rw [hstate]; rfl⟩
    refine ⟨none, ?_⟩
    change execProbeTimerExpiry s = _
    have hlost' : probeTimerExpires s = quieted (resolveAll s.ls.transit (untracked (drainedLoop none s) s.rx s)) := by
      rw [← enterQuiet_eq, probeTimerExpires, loseTrack_of_draining (by exact hstate)]
      rfl
    rw [execProbeTimerExpiry, answerWithBus, if_pos hpassed', hlost', settleBus_quieted]
  · refine ⟨s.ls.probeTimer, ?_⟩
    rw [exec_mismatched htransit (.inr (.inr hstate)) harrives (fitFor_of_draining hc hawaits hfails), hlost, settleBus_quieted]

end Drain

end Sys2Proof.Machine

section

set_option Elab.async false

open Sys2Proof.Machine

/-- Settles O54: awaited items act as in OPEN, and what ends the drain otherwise gives the entries up. -/
theorem drainEnds : Obligations.DrainEnds := by
  unfold Obligations.DrainEnds
  intro s e rest c cmd hstate htransit hc quiet
  have hquiet {u : Sys2Proof.Machine.State} (hu : u.hp.engine = s.hp.engine) : quieted u = quiet u := by
    simp only [quieted, engineWhenQuiet, causesWhenQuiet, hu]
    rfl
  have hdelivering : s.ls.state = .opened ∨ s.ls.state = .calling ∨ s.ls.state = .draining := .inr (.inr hstate)
  refine ⟨fun harrives hawaits => ?awaited, fun span hcmd harrives hsucceeds => ?probe,
    fun hfails harrives hrest hcall hdemand => ?call, fun hcause => ?abandoned⟩
  case awaited =>
    obtain ⟨v, hopened, hexec, hv, hengine⟩ := exec_draining_awaited hstate htransit harrives hawaits
    rw [quietWhenDrained_draining rfl] at hexec
    have hsettled : (settleBus s.hp.queue.length v).hp.engine = s.hp.engine := (hostKept_settleBus ..).engine_eq.trans hengine
    refine ⟨_, settleBus s.hp.queue.length v, hexec, hopened, by rw [settleBus_ls, hv], fun hleft => ?_, fun hempty => ?_⟩
    · rw [settleBus_ls] at hleft
      rw [if_neg (by exact hleft), settleBus_withLoopState]
      rfl
    · rw [settleBus_ls] at hempty
      rw [if_pos (by exact hempty), settleBus_quieted, settleBus_withLoopState, hquiet (by exact hsettled)]
      rfl
  case probe =>
    subst hcmd
    have hexec := exec_matched htransit hdelivering harrives (probeSucceeds_fits hc hstate hsucceeds)
    obtain ⟨bus, queue, hsettled, hacc⟩ := settleBus_eq (n := s.hp.queue.length) (s := probeMeasured e span.start s) (Nat.le_succ _)
    have hmeasured : probeMeasured e span.start s =
        { s with ls := { s.ls with transit := rest, probeTimer := none, rawDelay := measuredDelay e span.start } } := by
      rw [probeMeasured, popOldest_transit htransit]
    rw [applyFit, quietWhenDrained_draining (by exact hstate)] at hexec
    by_cases hrest : rest = []
    · rw [if_pos (by rw [hmeasured]; exact hrest), settleBus_quieted, hsettled] at hexec
      refine ⟨_, hexec, hacc, fun h => absurd hrest h, fun _ => ?_⟩
      rw [hmeasured, hquiet (by rfl)]
      rfl
    · rw [if_neg (by rw [hmeasured]; exact hrest), hsettled] at hexec
      refine ⟨_, hexec, hacc, fun _ => ?_, fun h => absurd h hrest⟩
      rw [hmeasured]
      rfl
  case call =>
    obtain ⟨fit, hfit, happly⟩ := applyFit_of_failsRollCall (s := s) hcall hfails (by rw [hstate]; decide)
    have hexec := exec_matched htransit hdelivering harrives hfit
    have hdiscarded : discardCall e s =
        { s with ls := { s.ls with transit := rest }, sc := { s.sc with callDue := true } } := by
      simp only [discardCall, popOldest_transit htransit, hdemand, Bool.false_eq_true, if_false]
    obtain ⟨bus, queue, hsettled, hacc⟩ := settleBus_eq (n := s.hp.queue.length)
      (s := { s with ls := { s.ls with transit := rest }, sc := { s.sc with callDue := true } }) (Nat.le_succ _)
    rw [happly, hdiscarded, quietWhenDrained_draining (by exact hstate), if_pos (by exact hrest), settleBus_quieted, hsettled] at hexec
    refine ⟨_, hexec, hacc, ?_⟩
    rw [hquiet (by rfl)]
    rfl
  case abandoned =>
    obtain ⟨timer, hexec⟩ := exec_abandons hc hstate htransit hcause
    have hkeeps : BreakKeeps (untracked (drainedLoop timer s) s.rx s) (resolveAll s.ls.transit (untracked (drainedLoop timer s) s.rx s)) :=
      resolveAll_keeps s.ls.transit (by exact hc)
    generalize hx : resolveAll s.ls.transit (untracked (drainedLoop timer s) s.rx s) = x at hkeeps hexec
    have hengine : (settleBus s.hp.queue.length x).hp.engine = s.hp.engine :=
      (hostKept_settleBus ..).engine_eq.trans hkeeps.host.engine_eq
    have hlost : LostBehind s x (quieted (settleBus s.hp.queue.length x)) (fun cu => { cu with
        pendingCauses := if s.hp.engine = .stopping then withEngineCause cu.pendingCauses else cu.pendingCauses }) := by
      refine ⟨settleBus_rp .., settleBus_st .., settleBus_ru .., settleBus_sc .., ?_, fun y hy => mem_accesses_settled.mpr hy,
        fun records slots hcu => ?_⟩
      · change (settleBus s.hp.queue.length x).ls.rawDelay = _
        rw [settleBus_ls, hkeeps.ls]
        rfl
      · simp only [quieted, causesWhenQuiet, settleBus_cu, hcu, hengine]
    obtain ⟨records, hdone, hcu⟩ := hkeeps.cu
    have hcu' : (quieted (settleBus s.hp.queue.length x)).cu = { s.cu with
        queue := s.cu.queue ++ records, reserved := x.cu.reserved
        pendingCauses := if s.hp.engine = .stopping then withEngineCause s.cu.pendingCauses else s.cu.pendingCauses } := by
      simp only [quieted, causesWhenQuiet, settleBus_cu, hengine]
      rw [hcu]
      rfl
    refine ⟨_, hexec, rfl, (settleBus_tx ..).trans hkeeps.line.1, (settleBus_ri ..).trans hkeeps.ri, ?_,
      hkeeps.outside.trans (outsideKept_settleBus ..), ?_, by rw [hcu'], fun r hr hkind => ?_, givenUp_of_resolveAll hc (by rw [hx]; exact hlost), ?_⟩
    · exact (congrArg _ (settleBus_st ..)).trans hkeeps.map
    · change engineWhenQuiet (settleBus s.hp.queue.length x).hp.engine = _
      rw [hengine]
      rfl
    · rw [hcu'] at hr
      refine (List.mem_append.mp hr).resolve_right fun hr => ?_
      rw [hdone r hr] at hkind
      cases hkind
    · simp only [quieted, settleBus_ls, hkeeps.ls]
      rfl

end

/-! ## Placement (R145 to R152) -/

namespace Sys2Proof.Machine

set_option Elab.async false

theorem bus_becomeHead (l : ListId) (s : State) : (becomeHead l s).hp.bus = s.hp.bus := by
  have hstarts (p : PoolIx) (u : State) : (startPayload p u).hp.bus = u.hp.bus := by
    obtain h | ⟨e, -, h | h⟩ := startPayload_cases p u <;> rw [h] <;> rfl
  unfold becomeHead
  split
  · rfl
  · split
    · rw [hstarts, armHeadTimer_hp]
    · rw [modEntry_hp, armHeadTimer_hp]

/-- Becoming head asks for at most one access behind those there were (R75). -/
theorem becomeHead_asks {l : ListId} {q : PoolIx} {x : PoolEntry} {s : State} (hhead : (listOf s l).head? = some q)
    (hx : entry s q = some x) : ∃ more, (becomeHead l s).hp = { s.hp with queue := s.hp.queue ++ more } ∧
      BecomesHead s (becomeHead l s) l q x more := by
  obtain ⟨more, hacc, hbecomes⟩ := becomeHead_becomesHead hhead hx
  refine ⟨more, ?_, hbecomes⟩
  have hqueue : (becomeHead l s).hp.queue = s.hp.queue ++ more := by
    rw [accesses, accesses, bus_becomeHead, List.append_assoc] at hacc
    exact List.append_cancel_left hacc
  rw [hostKept_becomeHead l s, bus_becomeHead, hqueue]

theorem BecomesHead.length_le {s x : State} {l : ListId} {r : PoolIx} {y : PoolEntry} {more : List Access}
    (h : BecomesHead s x l r y more) : more.length ≤ 1 := by
  obtain ⟨hstarts, hwaits, hready, -⟩ := h
  by_cases hreads : readsPayload y.kind
  · by_cases hstart : payloadStarts s.hp.engine y
    · rw [(hstarts hstart).2, payloadReadOf]
      split <;> simp
    · rw [(hwaits hreads hstart).2]
      exact Nat.zero_le 1
  · rw [(hready hreads).2]
    exact Nat.zero_le 1

theorem becomeHead_only (l : ListId) (s : State) :
    becomeHead l s = { s with hp := (becomeHead l s).hp, rp := (becomeHead l s).rp, sc := (becomeHead l s).sc } := by
  unfold becomeHead
  split
  · rfl
  · rename_i p e _
    split
    · obtain h | ⟨x, -, h | h⟩ := startPayload_cases p (armHeadTimer l e s) <;> rw [h] <;> cases l <;> rfl
    · unfold modEntry
      split <;> cases l <;> rfl

/-- Request `e` of entry `p` joined list `l` between `s` and `t`, and `more` was asked for it (R147, R148). -/
structure Joined (s t : State) (l : ListId) (p : PoolIx) (e : PoolEntry) (more : List Access) : Prop where
  list : listOf t l = listOf s l ++ [p]
  lists : ∀ m, m ≠ l → listOf t m = listOf s m
  others : ∀ q, q ≠ p → entry t q = entry s q
  first : listOf s l = [] → BecomesHead s t l p e more
  behind : listOf s l ≠ [] → entry t p = some e ∧ more = [] ∧ t.sc = s.sc
  timers : ∀ a, ListId.station a ≠ l → headTimer t a = headTimer s a
  short : more.length ≤ 1
  only : t = { s with hp := { s.hp with queue := s.hp.queue ++ more }, rp := t.rp, sc := { s.sc with headTimers := t.sc.headTimers } }

theorem joinList_joined (l : ListId) (p : PoolIx) (e : PoolEntry) (s : State) :
    ∃ more, Joined s (joinList l p e s) l p e more := by
  generalize hv : putList l (listOf s l ++ [p]) (putEntry p (some e) s) = v
  have hlists (m : ListId) : listOf v m = if m = l then listOf s l ++ [p] else listOf s m := by
    rw [← hv, listOf_putList, listOf_putEntry]
  have hentries (q : PoolIx) : entry v q = if q = p then some e else entry s q := by
    rw [← hv, entry_putList, entry_putEntry]
  have honly : v = { s with rp := v.rp } := by
    rw [← hv]
    cases l <;> rfl
  have hjoin : joinList l p e s = if listOf s l = [] then becomeHead l v else v := by rw [joinList, hv]
  have hlistsSame (m : ListId) (hm : m ≠ l) : listOf v m = listOf s m := by rw [hlists, if_neg hm]
  have htimers (a : Addr) : headTimer v a = headTimer s a := headTimer_congr (by rw [honly]) a
  by_cases hempty : listOf s l = []
  · have hhead : (listOf v l).head? = some p := by rw [hlists, if_pos rfl, hempty]; rfl
    obtain ⟨more, hhp, hbecomes⟩ := becomeHead_asks hhead (by rw [hentries, if_pos rfl])
    rw [if_pos hempty] at hjoin
    rw [hjoin]
    refine ⟨more, ?_, fun m hm => by rw [listOf_becomeHead, hlistsSame m hm], fun q hq => ?_,
      fun _ => hbecomes.congr (by rw [honly]) (by rw [honly]) rfl fun _ _ => rfl, fun h => absurd hempty h,
      fun a ha => (headTimer_becomeHead_of_ne ha v).trans (htimers a), hbecomes.length_le, ?_⟩
    · rw [listOf_becomeHead, hlists, if_pos rfl]
    · rw [entry_becomeHead_of_ne (by rw [hhead]; exact fun h => hq (Option.some.inj h).symm), hentries, if_neg hq]
    · have hsc := sc_becomeHead l v
      conv_lhs => rw [becomeHead_only l v, hhp, hsc]
      rw [honly]
  · rw [if_neg hempty] at hjoin
    rw [hjoin]
    refine ⟨[], ?_, hlistsSame, fun q hq => by rw [hentries, if_neg hq], fun h => absurd h hempty,
      fun _ => ⟨by rw [hentries, if_pos rfl], rfl, by rw [honly]⟩, fun a _ => htimers a, Nat.zero_le 1, ?_⟩
    · rw [hlists, if_pos rfl]
    · rw [List.append_nil, honly]

/-- The entry that a placement takes: the one named where it is free, and otherwise a free one (R146). -/
theorem freeEntry_spec {s : State} {named : PoolIx} :
    ((∀ p, entry s p ≠ none) → freeEntry s named = none) ∧
    ((∃ p, entry s p = none) → ∃ p, freeEntry s named = some p ∧ entry s p = none ∧ (entry s named = none → p = named)) := by
  refine ⟨fun hfull => ?_, fun ⟨q, hq⟩ => ?_⟩
  · rw [freeEntry, if_neg (hfull named), List.find?_eq_none]
    intro p _
    simpa [Option.isNone_iff_eq_none] using hfull p
  · by_cases hnamed : entry s named = none
    · exact ⟨named, if_pos hnamed, hnamed, fun _ => rfl⟩
    · rw [freeEntry, if_neg hnamed]
      cases hfind : (List.finRange 64).find? (fun p => (entry s p).isNone) with
      | none =>
        rw [List.find?_eq_none] at hfind
        have hno := hfind q (List.mem_finRange q)
        rw [hq] at hno
        exact absurd rfl hno
      | some p =>
        have hp := List.find?_some hfind
        exact ⟨p, rfl, Option.isNone_iff_eq_none.mp hp, fun h => absurd h hnamed⟩

theorem exec_placement {s : State} {named p : PoolIx} {r : RequestRecord} {k : RequestKind}
    (hheld : s.ri.held = some { record := r, judgment := .valid k }) (hfree : freeEntry s named = some p)
    (hrunning : s.hp.engine = .running) :
    exec (.placement named) s = .next (settleBus s.hp.queue.length (placeRecord p k r s)) := by
  change execPlacement named s = _
  unfold execPlacement
  rw [hheld, hfree]
  exact congrArg _ (if_pos ((isRunning_iff s).mpr hrunning))

/-- The fields of a placed request are those of R142 and R145. -/
theorem newEntry_eq {s : State} {c : Configuration} (hc : s.hp.config = some c) (k : RequestKind) (r : RequestRecord) :
    newEntry s k r = placedEntry k r c s.clock.cycles := by
  have hlimit : placedLimit s k r.attemptLimit =
      if k = .exchange ∨ k = .post then (if r.attemptLimit = 0 then c.attemptLimit else r.attemptLimit) else 0 := by
    unfold placedLimit
    rw [configured_of_some hc]
    cases k <;> simp
  unfold newEntry placedEntry
  rw [hlimit]
  cases k <;> simp [usesAddress, sendsPayload, usesResponse, placedDeadline, firstFrame]

end Sys2Proof.Machine

namespace Sys2Proof.Machine

set_option Elab.async false

section Placed

variable {s m j : State} {l : ListId} {p : PoolIx} {e : PoolEntry} {more : List Access} {c : Configuration}

/-- The step of a placement, from the request that joined its list to the sequencer settled (R140, R195). -/
structure Placed (s t : State) (c : Configuration) (more acc : List Access) : Prop where
  accesses : accesses t = accesses s ++ acc
  reads : (s.ri.head + 1) % c.requestSize ≠ s.ri.tail ∧ s.ri.reading = false →
    acc.Perm (more ++ [recordReadAt c ((s.ri.head + 1) % c.requestSize)]) ∧ t.ri.reading = true
  waits : ¬((s.ri.head + 1) % c.requestSize ≠ s.ri.tail ∧ s.ri.reading = false) → acc = more ∧ t.ri.reading = s.ri.reading
  ri : t.ri = { s.ri with held := none, head := (s.ri.head + 1) % c.requestSize, reading := t.ri.reading }
  host : HostKept s t
  st : t.st = s.st
  sc : t.sc = { s.sc with headTimers := t.sc.headTimers }
  ls : t.ls = s.ls
  line : LineKept s t
  ru : t.ru = s.ru
  cu : t.cu = s.cu
  outside : OutsideKept s t

theorem placed_of_joined (hm : m = { s with rp := m.rp }) (hj : Joined m j l p e more) (hrunning : s.hp.engine = .running)
    (hc : s.hp.config = some c) (hhead : s.ri.head < c.requestSize) :
    ∃ acc, Placed s (settleBus s.hp.queue.length (disposeRecord j)) c more acc ∧
      (settleBus s.hp.queue.length (disposeRecord j)).rp = j.rp ∧ (settleBus s.hp.queue.length (disposeRecord j)).sc = j.sc := by
  have honly : j = { s with hp := { s.hp with queue := s.hp.queue ++ more }, rp := j.rp, sc := { s.sc with headTimers := j.sc.headTimers } } := by
    have h := hj.only
    rw [hm] at h
    exact h
  have hcJ : j.hp.config = some c := by rw [honly]; exact hc
  have hrunningJ : j.hp.engine = .running := by rw [honly]; exact hrunning
  have hri : j.ri = s.ri := by rw [honly]
  have hiff := asksRecord_withoutRecord (s := j) (c := c) hrunningJ
  rw [hri] at hiff
  rw [disposeRecord_eq hcJ (by rw [hri]; exact hhead)]
  by_cases hreads : (s.ri.head + 1) % c.requestSize ≠ s.ri.tail ∧ s.ri.reading = false
  · rw [testRecordRead_of_asks (by exact hcJ) (hiff.mpr hreads)]
    have hnext : (withoutRecord c j).ri.head = (s.ri.head + 1) % c.requestSize := by rw [← hri]; rfl
    rw [hnext]
    obtain ⟨bus, queue, k, hsettled, acc, hperm, hacc⟩ := settleBus_asked (n := s.hp.queue.length) (before := s.hp.queue)
      (asked := more ++ [recordReadAt c ((s.ri.head + 1) % c.requestSize)])
      (s := requestAccess (recordReadAt c ((s.ri.head + 1) % c.requestSize))
        { withoutRecord c j with ri := { (withoutRecord c j).ri with reading := true } })
      (by rw [honly, ← List.append_assoc]; rfl) rfl
    refine ⟨acc, ⟨?_, fun _ => ⟨hperm, by rw [hsettled]; rfl⟩, fun hno => absurd hreads hno, ?_, ?_, ?_, ?_, ?_, ?_, ?_, ?_, ?_⟩, ?_, ?_⟩
    · rw [hacc, honly]
      rfl
    all_goals
      rw [hsettled, honly]
      first | rfl | exact ⟨rfl, rfl⟩ | exact .refl s
  · rw [testRecordRead_of_not_asks fun h => hreads (hiff.mp h)]
    obtain ⟨bus, queue, k, hsettled, acc, hperm, hacc⟩ := settleBus_asked (n := s.hp.queue.length) (before := s.hp.queue)
      (asked := more) (s := withoutRecord c j) (by rw [honly]; rfl) rfl
    have hmore : acc = more := perm_eq_of_length_le_one hperm hj.short
    refine ⟨acc, ⟨?_, fun hyes => absurd hyes hreads, fun _ => ⟨hmore, by rw [hsettled, honly]; rfl⟩, ?_, ?_, ?_, ?_, ?_, ?_, ?_, ?_, ?_⟩,
      ?_, ?_⟩
    · rw [hacc, honly]
      rfl
    all_goals
      rw [hsettled, honly]
      first | rfl | exact ⟨rfl, rfl⟩ | exact .refl s

end Placed

/-- A request with the cancel mark (R152). -/
def cancelled (q : PoolEntry) : PoolEntry := { q with cancelMark := true }

theorem entry_markCancelled (ps : List PoolIx) (s : State) (q : PoolIx) :
    entry (markCancelled ps s) q = if q ∈ ps then (entry s q).map cancelled else entry s q := by
  induction ps generalizing s with
  | nil => simp [markCancelled]
  | cons p rest ih =>
    rw [show markCancelled (p :: rest) s = markCancelled rest (modEntry p cancelled s) from rfl, ih, entry_modEntry]
    by_cases hq : q = p
    · subst hq
      by_cases hrest : q ∈ rest
      · cases entry s q <;> simp [hrest, cancelled]
      · simp [hrest]
    · simp [hq]

theorem markCancelled_only (ps : List PoolIx) (s : State) :
    markCancelled ps s = { s with rp := (markCancelled ps s).rp } ∧ ∀ l, listOf (markCancelled ps s) l = listOf s l := by
  induction ps generalizing s with
  | nil => exact ⟨rfl, fun _ => rfl⟩
  | cons p rest ih =>
    obtain ⟨honly, hlists⟩ := ih (modEntry p cancelled s)
    rw [show markCancelled (p :: rest) s = markCancelled rest (modEntry p cancelled s) from rfl]
    refine ⟨?_, fun l => (hlists l).trans (listOf_modEntry ..)⟩
    conv_lhs => rw [honly]
    unfold modEntry
    split <;> rfl

theorem mem_flushMarks {s : State} {a : Addr} {q : PoolIx} :
    q ∈ flushMarks s a ↔ q ∈ listOf s (.station a) ∧ (station s a).outstanding ≠ some q ∧
      ∃ x, entry s q = some x ∧ x.cancelMark = false := by
  unfold flushMarks
  rw [List.mem_filter]
  refine and_congr_right fun _ => ?_
  cases entry s q with
  | none => simp
  | some x => simp [and_comm]

end Sys2Proof.Machine

section

set_option Elab.async false

open Sys2Proof.Machine

/-- Settles O29: the request joins its list (`joinList_joined`), for a FLUSH behind the marks, and the record is disposed of
(`placed_of_joined`). -/
theorem placementFillsAnEntry : Obligations.PlacementFillsAnEntry := by
  unfold Obligations.PlacementFillsAnEntry
  refine ⟨fun s named r k c hrunning hc hhead hheld => ?_, fun s named r a c hrunning hc hhead hheld haddress hroom => ?_⟩
  · intro placed l next reads
    refine ⟨fun hfull => ?_, fun hkind hroom => ?_⟩
    · change execPlacement named s = _
      simp only [execPlacement, hheld, freeEntry_spec.1 hfull]
    · obtain ⟨p, hfree, hnone, hnamed⟩ := freeEntry_spec.2 hroom
      obtain ⟨more, hjoined⟩ := joinList_joined l p placed s
      obtain ⟨acc, hplaced, hrp, hsc⟩ := placed_of_joined (m := s) rfl hjoined hrunning hc hhead
      have hplace : placeRecord p k r s = disposeRecord (joinList l p placed s) := by
        have hentry : newEntry s k r = placed := newEntry_eq hc k r
        unfold placeRecord
        rw [hentry]
        cases k <;> first | rfl | exact absurd rfl hkind
      have hexec : exec (.placement named) s = .next (settleBus s.hp.queue.length (disposeRecord (joinList l p placed s))) := by
        rw [exec_placement hheld hfree hrunning, hplace]
      have hentry (q : Sys2Proof.PoolIx) : entry (settleBus s.hp.queue.length (disposeRecord (joinList l p placed s))) q =
          entry (joinList l p placed s) q := entry_congr hrp q
      refine ⟨_, p, more, acc, hexec, hnone, hnamed, ?_, fun m hm => ?_, fun q hq => ?_, fun hempty => ?_, fun hbehind => ?_, fun b hb => ?_,
        hplaced.accesses, fun h => (hplaced.reads h).1, fun h => (hplaced.waits h).1, hplaced.ri, ?_, hplaced.host, hplaced.st, hplaced.sc,
        hplaced.ls, hplaced.line, hplaced.ru, hplaced.cu, hplaced.outside⟩
      · rw [listOf_congr hrp, hjoined.list]
      · rw [listOf_congr hrp, hjoined.lists m hm]
      · rw [hentry, hjoined.others q hq]
      · exact (hjoined.first hempty).congr rfl rfl (hentry p) fun b _ => headTimer_congr hsc b
      · obtain ⟨hnow, hmore, hsame⟩ := hjoined.behind hbehind
        exact ⟨(hentry p).trans hnow, hmore, hsc.trans hsame⟩
      · rw [headTimer_congr hsc, hjoined.timers b hb]
      · by_cases hreads : reads
        · simp only [(hplaced.reads hreads).2, hreads, or_true]
        · rw [(hplaced.waits hreads).2]
          simp only [hreads, or_false]
  · intro next marked
    obtain ⟨p, hfree, hnone, hnamed⟩ := freeEntry_spec.2 hroom
    have hstation : stationAt r.address.toNat = some a := stationAt_eq_some.mpr haddress
    obtain ⟨honly, hlists⟩ := markCancelled_only (flushMarks s a) s
    generalize hm : markCancelled (flushMarks s a) s = m at honly hlists
    have hentries (q : Sys2Proof.PoolIx) : entry m q = if q ∈ flushMarks s a then (entry s q).map cancelled else entry s q := by
      rw [← hm, entry_markCancelled]
    obtain ⟨more, hjoined⟩ := joinList_joined (.station a) p
      { placedEntry .flush r c s.clock.cycles with cancelledCount := (flushMarks s a).length } m
    obtain ⟨acc, hplaced, hrp, hsc⟩ := placed_of_joined honly hjoined hrunning hc hhead
    have hplace : placeRecord p .flush r s = disposeRecord (joinList (.station a) p
        { placedEntry .flush r c s.clock.cycles with cancelledCount := (flushMarks s a).length } m) := by
      simp only [placeRecord, hstation, newEntry_eq hc, hm]
    have hexec := exec_placement hheld hfree hrunning
    rw [hplace] at hexec
    generalize hj : joinList (.station a) p { placedEntry .flush r c s.clock.cycles with cancelledCount := (flushMarks s a).length } m = j
      at hjoined hplaced hrp hsc hexec
    have hmore : more = [] := by
      by_cases hempty : listOf m (.station a) = []
      · have hfirst := hjoined.first hempty
        have hnotRead : ¬readsPayload (placedEntry .flush r c s.clock.cycles).kind := by
          change ¬readsPayload .flush
          simp [readsPayload]
        exact (hfirst.2.2.1 hnotRead).2
      · exact (hjoined.behind hempty).2.1
    subst hmore
    have hentry (q : Sys2Proof.PoolIx) : entry (settleBus s.hp.queue.length (disposeRecord j)) q = entry j q := entry_congr hrp q
    refine ⟨_, p, (flushMarks s a).length, hexec, hnone, hnamed, ⟨flushMarks s a, List.filter_sublist, fun q => mem_flushMarks, rfl⟩,
      ⟨fun hempty => ?_, fun hbehind => ?_⟩, fun b hb => ?_, fun q x hq hx hmarked => ?_, fun q hq hmarked => ?_, ?_, fun l hl => ?_,
      hplaced.ri, fun h => ?_, fun h => ?_, hplaced.host, hplaced.st, hplaced.sc, hplaced.ls, hplaced.line, hplaced.ru, hplaced.cu,
      hplaced.outside⟩
    · exact (hjoined.first ((hlists _).trans hempty)).congr (by rw [honly]) (by rw [honly]) (hentry p) fun b _ => headTimer_congr hsc b
    · obtain ⟨hnow, -, hsame⟩ := hjoined.behind fun h => hbehind ((hlists _).symm.trans h)
      exact ⟨(hentry p).trans hnow, hsc.trans (hsame.trans (by rw [honly]))⟩
    · have hother : Sys2Proof.ListId.station b ≠ .station a := fun h => hb (by injection h)
      exact ((headTimer_congr hsc b).trans (hjoined.timers b hother)).trans (headTimer_congr (by rw [honly]) b)
    · rw [hentry, hjoined.others q hq, hentries, if_pos (mem_flushMarks.mpr hmarked), hx]
      rfl
    · rw [hentry, hjoined.others q hq, hentries, if_neg fun h => hmarked (mem_flushMarks.mp h)]
    · rw [listOf_congr hrp, hjoined.list, hlists]
    · rw [listOf_congr hrp, hjoined.lists l hl, hlists]
    · obtain ⟨hperm, hreading⟩ := hplaced.reads h
      rw [List.nil_append] at hperm
      exact ⟨hreading, by rw [hplaced.accesses, List.perm_singleton.mp hperm]⟩
    · obtain ⟨hacc, hreading⟩ := hplaced.waits h
      exact ⟨hreading, by rw [hplaced.accesses, hacc, List.append_nil]⟩

end

/-! ## START resumes the requests (R190) -/

namespace Sys2Proof.Machine
set_option Elab.async false

/-- The end of `s` with other pool entries, head deadline timers and accesses asked for: all that resuming the requests touches. -/
def RequestsTouched (s t : State) : Prop :=
  t = { s with hp := { s.hp with queue := t.hp.queue }
               rp := { s.rp with entries := t.rp.entries }
               sc := { s.sc with headTimers := t.sc.headTimers } }

theorem RequestsTouched.refl (s : State) : RequestsTouched s s := rfl

theorem RequestsTouched.trans {s t u : State} (h1 : RequestsTouched s t) (h2 : RequestsTouched t u) : RequestsTouched s u := by
  unfold RequestsTouched at *
  rw [h2, h1]

theorem RequestsTouched.foldl {α : Type} {f : State → α → State} (h : ∀ s a, RequestsTouched s (f s a)) (as : List α) (s : State) :
    RequestsTouched s (as.foldl f s) := by
  induction as generalizing s with
  | nil => exact .refl s
  | cons a as ih => exact (h s a).trans (ih _)

theorem RequestsTouched.listOf {s t : State} (h : RequestsTouched s t) (l : ListId) : listOf t l = listOf s l := by
  rw [h]
  cases l <;> rfl

theorem requestsTouched_modEntry (p : PoolIx) (f : PoolEntry → PoolEntry) (s : State) : RequestsTouched s (modEntry p f s) := by
  unfold modEntry
  split <;> rfl

theorem requestsTouched_actOnExpiry (a : Addr) (s : State) : RequestsTouched s (actOnExpiry a s) := by
  unfold actOnExpiry
  split
  · rfl
  · split <;> rfl

theorem requestsTouched_startPayload (p : PoolIx) (s : State) : RequestsTouched s (startPayload p s) := by
  obtain h | ⟨e, -, h | h⟩ := startPayload_cases p s <;> rw [h] <;> rfl

/-- What the entry to RUNNING does for a list (R190). -/
def resumeList (s : State) : ListId → State
  | .station a => resumeHead s a
  | .control => resumeControl s

theorem requestsTouched_resumeList (s : State) (l : ListId) : RequestsTouched s (resumeList s l) := by
  cases l with
  | station a =>
    have hexpiry : RequestsTouched s (if headTimer s a = .expired then actOnExpiry a s else s) := by
      split
      · exact requestsTouched_actOnExpiry a s
      · exact .refl s
    simp only [resumeList, resumeHead]
    split
    · exact hexpiry.trans (requestsTouched_startPayload _ _)
    · exact hexpiry
  | control =>
    simp only [resumeList, resumeControl]
    split
    · exact requestsTouched_startPayload _ _
    · exact .refl s

/-! ## One list -/

/-- Head request `q` of list `l` with a held deadline expiry acted on (R93). -/
def headActedOn (s : State) (l : ListId) (q : PoolEntry) : PoolEntry :=
  match l with
  | .station a => if headTimer s a = .expired then deadlineActedOn q else q
  | .control => q

theorem resumedHead_eq (s : State) (l : ListId) (q : PoolEntry) : resumedHead s l q = headActedOn s l (released q) := by
  cases l <;> rfl

open Classical in
/-- A head request as it stands when the engine has entered RUNNING (R75). -/
noncomputable def headStarted (q : PoolEntry) : PoolEntry := if payloadStarts .running q then payloadStarted q else q

open Classical in
/-- The payload read that the entry to RUNNING asks for head request `q` of entry `p` (R75). -/
noncomputable def headRead (p : PoolIx) (q : PoolEntry) : List Access := if payloadStarts .running q then payloadReadOf p q else []

theorem headStarted_of_starts {q : PoolEntry} (h : payloadStarts .running q) : headStarted q = payloadStarted q := if_pos h

theorem headStarted_of_not {q : PoolEntry} (h : ¬payloadStarts .running q) : headStarted q = q := if_neg h

theorem headRead_of_starts {p : PoolIx} {q : PoolEntry} (h : payloadStarts .running q) : headRead p q = payloadReadOf p q := if_pos h

theorem headRead_of_not {p : PoolIx} {q : PoolEntry} (h : ¬payloadStarts .running q) : headRead p q = [] := if_neg h

/-- The payload read that the entry to RUNNING asks for the head of list `l` (R75). -/
noncomputable def askedForHead (s : State) (l : ListId) : List Access :=
  ((headEntry s l).map fun x => headRead x.1 (headActedOn s l x.2)).getD []

theorem askedForHead_of_isHead {s : State} {l : ListId} {p : PoolIx} {q : PoolEntry} (h : IsHead s l p q) :
    askedForHead s l = headRead p (headActedOn s l q) := by
  rw [askedForHead, headEntry_of_isHead h]
  rfl

theorem headEntry_eq_none {s : State} {l : ListId} (h : ∀ p q, ¬IsHead s l p q) : headEntry s l = none :=
  Option.eq_none_iff_forall_ne_some.mpr fun (p, q) hx => h p q (headEntry_eq_some.mp hx)

theorem askedForHead_of_none {s : State} {l : ListId} (h : ∀ p q, ¬IsHead s l p q) : askedForHead s l = [] := by
  rw [askedForHead, headEntry_eq_none h]
  rfl

/-- Between `s` and `t` the entry to RUNNING has acted for the lists `ls`. -/
structure ListsResumed (s t : State) (ls : List ListId) : Prop where
  only : RequestsTouched s t
  heads : ∀ l ∈ ls, ∀ p q, IsHead s l p q → entry t p = some (headStarted (headActedOn s l q))
  others : ∀ p, (∀ l ∈ ls, ∀ q, ¬IsHead s l p q) → entry t p = entry s p
  timers : ∀ a, .station a ∈ ls → ∀ p q, IsHead s (.station a) p q →
    headTimer t a = if headTimer s a = .expired ∧ q.phase = .inTransit then .stopped else headTimer s a
  timersKept : ∀ a, (.station a ∈ ls → ∀ p q, ¬IsHead s (.station a) p q) → headTimer t a = headTimer s a
  asked : t.hp.queue = s.hp.queue ++ ls.flatMap (askedForHead s)

theorem ListsResumed.nil (s : State) : ListsResumed s s [] where
  only := .refl s
  heads := by simp
  others := by simp
  timers := by simp
  timersKept := by simp
  asked := by simp

/-- The payload of a head starts with the engine RUNNING. -/
theorem startPayload_running {p : PoolIx} {e : PoolEntry} {s : State} (hrunning : s.hp.engine = .running) (he : entry s p = some e) :
    entry (startPayload p s) p = some (headStarted e) ∧
    (startPayload p s).hp.queue = s.hp.queue ++ headRead p e := by
  obtain ⟨hstarts, hwaits⟩ := startPayload_eq he
  rw [hrunning] at hstarts hwaits
  by_cases h : payloadStarts .running e
  · obtain ⟨hentry, hacc⟩ := hstarts h
    have hbus : (startPayload p s).hp.bus = s.hp.bus := by rw [requestsTouched_startPayload p s]
    rw [headStarted_of_starts h, headRead_of_starts h]
    refine ⟨hentry, ?_⟩
    rw [accesses, accesses, hbus, List.append_assoc] at hacc
    exact List.append_cancel_left hacc
  · rw [hwaits h, headStarted_of_not h, headRead_of_not h, List.append_nil]
    exact ⟨he, rfl⟩

/-- A held deadline expiry of a head, acted on. -/
theorem actOnHeld {s : State} {a : Addr} {p : PoolIx} {q : PoolEntry} (hhead : IsHead s (.station a) p q) :
    let u := if headTimer s a = .expired then actOnExpiry a s else s
    IsHead u (.station a) p (headActedOn s (.station a) q) ∧ (∀ p', p' ≠ p → entry u p' = entry s p') ∧ u.hp = s.hp ∧
    headTimer u a = (if headTimer s a = .expired ∧ q.phase = .inTransit then .stopped else headTimer s a) ∧
    ∀ b, b ≠ a → headTimer u b = headTimer s b := by
  intro u
  by_cases hexpired : headTimer s a = .expired
  · have hacted : headActedOn s (.station a) q = deadlineActedOn q := by simp [headActedOn, hexpired]
    have hu : u = actOnExpiry a s := if_pos hexpired
    rw [hacted, hu, actOnExpiry_eq hhead]
    obtain ⟨hfirst, he⟩ := hhead
    by_cases hsent : q.phase = .inTransit
    · rw [if_pos hsent, if_pos ⟨hexpired, hsent⟩]
      refine ⟨⟨hfirst, ?_⟩, fun p' hp' => ?_, rfl, ?_, fun b hb => ?_⟩
      · exact entry_putEntry_same ..
      · exact (entry_putEntry ..).trans (if_neg hp')
      · exact (headTimer_putHeadTimer ..).trans (if_pos rfl)
      · exact (headTimer_putHeadTimer ..).trans (if_neg hb)
    · have hkeeps : ¬(headTimer s a = .expired ∧ q.phase = .inTransit) := fun h => hsent h.2
      rw [if_neg hsent, if_neg hkeeps]
      by_cases hpaused : q.phase = .paused
      · rw [if_pos hpaused]
        exact ⟨⟨hfirst, entry_putEntry_same ..⟩, fun p' hp' => (entry_putEntry ..).trans (if_neg hp'), rfl, rfl, fun b _ => rfl⟩
      · rw [if_neg hpaused, deadlineActedOn_of_waiting hsent hpaused]
        exact ⟨⟨hfirst, he⟩, fun _ _ => rfl, rfl, rfl, fun _ _ => rfl⟩
  · have hacted : headActedOn s (.station a) q = q := by simp [headActedOn, hexpired]
    have hu : u = s := if_neg hexpired
    rw [hacted, hu, if_neg fun h => hexpired h.1]
    exact ⟨hhead, fun _ _ => rfl, rfl, rfl, fun _ _ => rfl⟩

/-- A list with no request at its head is left as it is. -/
theorem resumeList_of_none {s : State} {l : ListId} (h : ∀ p q, ¬IsHead s l p q) : resumeList s l = s := by
  have hnone := headEntry_eq_none h
  cases l with
  | station a =>
    have hexpiry : actOnExpiry a s = s := by rw [actOnExpiry, hnone]
    simp only [resumeList, resumeHead, hexpiry, ite_self, hnone]
  | control => simp only [resumeList, resumeControl, hnone]

/-- The head of a list, with its deadline expiry acted on in `u`, starts its payload. -/
theorem resumeList_of_isHead {s : State} {l : ListId} {p : PoolIx} {q : PoolEntry} (hrunning : s.hp.engine = .running)
    (hhead : IsHead s l p q) :
    entry (resumeList s l) p = some (headStarted (headActedOn s l q)) ∧
    (∀ p', p' ≠ p → entry (resumeList s l) p' = entry s p') ∧
    (∀ a, l = .station a → headTimer (resumeList s l) a =
      if headTimer s a = .expired ∧ q.phase = .inTransit then .stopped else headTimer s a) ∧
    (∀ a, l ≠ .station a → headTimer (resumeList s l) a = headTimer s a) ∧
    (resumeList s l).hp.queue = s.hp.queue ++ askedForHead s l := by
  rw [askedForHead_of_isHead hhead]
  have hfrom (u : State) (hresumed : resumeList s l = startPayload p u) (hentry : entry u p = some (headActedOn s l q))
      (hhp : u.hp = s.hp) :
      entry (resumeList s l) p = some (headStarted (headActedOn s l q)) ∧
      (∀ p', p' ≠ p → entry (resumeList s l) p' = entry u p') ∧ (∀ a, headTimer (resumeList s l) a = headTimer u a) ∧
      (resumeList s l).hp.queue = s.hp.queue ++ headRead p (headActedOn s l q) := by
    obtain ⟨hnow, hqueue⟩ := startPayload_running (by rw [hhp, hrunning]) hentry
    rw [hresumed, ← hhp]
    exact ⟨hnow, fun p' hp' => entry_startPayload_of_ne hp' u, fun a => headTimer_congr (startPayload_sc p u) a, hqueue⟩
  cases l with
  | control =>
    have hresumed : resumeList s .control = startPayload p s := by
      simp only [resumeList, resumeControl, headEntry_of_isHead hhead]
    obtain ⟨hnow, hothers, htimers, hqueue⟩ := hfrom s hresumed hhead.2 rfl
    exact ⟨hnow, hothers, nofun, fun a _ => htimers a, hqueue⟩
  | station a =>
    obtain ⟨hacted, hkept, hhp, htimer, hother⟩ := actOnHeld hhead
    generalize hu : (if headTimer s a = .expired then actOnExpiry a s else s) = u at hacted hkept hhp htimer hother
    have hresumed : resumeList s (.station a) = startPayload p u := by
      simp only [resumeList, resumeHead, hu, headEntry_of_isHead hacted]
    obtain ⟨hnow, hothers, htimers, hqueue⟩ := hfrom u hresumed hacted.2 hhp
    refine ⟨hnow, fun p' hp' => (hothers p' hp').trans (hkept p' hp'), fun b hb => ?_, fun b hb => ?_, hqueue⟩
    · cases hb
      exact (htimers a).trans htimer
    · exact (htimers b).trans (hother b fun h => hb (by rw [h]))

theorem resumeList_resumed {s : State} (hrunning : s.hp.engine = .running) (l : ListId) : ListsResumed s (resumeList s l) [l] := by
  by_cases h : ∃ p q, IsHead s l p q
  · obtain ⟨p, q, hhead⟩ := h
    obtain ⟨hnow, hothers, htimer, hkept, hqueue⟩ := resumeList_of_isHead hrunning hhead
    refine ⟨requestsTouched_resumeList s l, fun l' hl' p' q' h' => ?_, fun p' hp' => ?_, fun a ha p' q' h' => ?_, fun a ha => ?_, ?_⟩
    · cases List.mem_singleton.mp hl'
      obtain ⟨rfl, rfl⟩ := hhead.unique h'
      exact hnow
    · exact hothers p' fun heq => hp' l (List.mem_singleton_self l) q (heq ▸ hhead)
    · cases List.mem_singleton.mp ha
      obtain ⟨rfl, rfl⟩ := hhead.unique h'
      exact htimer a rfl
    · exact hkept a fun heq => ha (by rw [heq]; exact List.mem_singleton_self _) p q (heq ▸ hhead)
    · rw [hqueue, List.flatMap_singleton]
  · have hnone : ∀ p q, ¬IsHead s l p q := fun p q hh => h ⟨p, q, hh⟩
    rw [resumeList_of_none hnone]
    refine ⟨.refl s, fun l' hl' p' q' h' => ?_, fun _ _ => rfl, fun a ha p' q' h' => ?_, fun _ _ => rfl, by simp [askedForHead_of_none hnone]⟩
    · cases List.mem_singleton.mp hl'
      exact absurd h' (hnone p' q')
    · cases List.mem_singleton.mp ha
      exact absurd h' (hnone p' q')

/-! ## All lists -/

/-- A request stands at the head of one list at most. -/
def HeadsDiffer (s : State) : Prop := ∀ l l' p, (listOf s l).head? = some p → (listOf s l').head? = some p → l = l'

theorem PoolOk.headsDiffer {s : State} (h : PoolOk s) : HeadsDiffer s := by
  intro l l' p hl hl'
  have := h.home_of_mem (List.mem_of_mem_head? hl)
  rw [h.home_of_mem (List.mem_of_mem_head? hl')] at this
  exact (Option.some.inj this).symm

/-- The lists behind one that was resumed have the heads and timers they had. -/
theorem ListsResumed.isHead_other {s u : State} {l : ListId} (h : ListsResumed s u [l]) (hdiffer : HeadsDiffer s) {l' : ListId}
    (hne : l' ≠ l) {p : PoolIx} {q : PoolEntry} : IsHead u l' p q ↔ IsHead s l' p q := by
  unfold IsHead
  rw [h.only.listOf]
  refine and_congr_right fun hfirst => ?_
  rw [h.others p fun l'' hl'' q' hhead => ?_]
  cases List.mem_singleton.mp hl''
  exact hne (hdiffer _ _ p hfirst hhead.1)

theorem ListsResumed.headTimer_other {s u : State} {l : ListId} (h : ListsResumed s u [l]) {a : Addr} (hne : .station a ≠ l) :
    headTimer u a = headTimer s a :=
  h.timersKept a fun hmem => absurd (List.mem_singleton.mp hmem) hne

theorem ListsResumed.headActedOn_other {s u : State} {l : ListId} (h : ListsResumed s u [l]) {l' : ListId} (hne : l' ≠ l)
    (q : PoolEntry) : headActedOn u l' q = headActedOn s l' q := by
  cases l' with
  | control => rfl
  | station a => simp only [headActedOn, h.headTimer_other hne]

theorem ListsResumed.asked_other {s u : State} {l : ListId} (h : ListsResumed s u [l]) (hdiffer : HeadsDiffer s) {l' : ListId}
    (hne : l' ≠ l) : askedForHead u l' = askedForHead s l' := by
  have hhead : headEntry u l' = headEntry s l' := by
    refine Option.ext fun (p, q) => ?_
    exact headEntry_eq_some.trans ((h.isHead_other hdiffer hne).trans headEntry_eq_some.symm)
  simp only [askedForHead, hhead, h.headActedOn_other hne]

theorem ListsResumed.cons {s u t : State} {l : ListId} {ls : List ListId} (h : ListsResumed s u [l]) (hrest : ListsResumed u t ls)
    (hdiffer : HeadsDiffer s) (hl : l ∉ ls) : ListsResumed s t (l :: ls) := by
  have hne (l' : ListId) (hl' : l' ∈ ls) : l' ≠ l := fun heq => hl (heq ▸ hl')
  refine ⟨h.only.trans hrest.only, fun l' hl' p q hhead => ?_, fun p hp => ?_, fun a ha p q hhead => ?_, fun a ha => ?_, ?_⟩
  · rcases List.mem_cons.mp hl' with rfl | hl'
    · rw [hrest.others p fun l'' hl'' q' hother => ?_]
      · exact h.heads l' (List.mem_singleton_self l') p q hhead
      · exact hne l'' hl'' (hdiffer _ _ p ((h.isHead_other hdiffer (hne l'' hl'')).mp hother).1 hhead.1)
    · rw [hrest.heads l' hl' p q ((h.isHead_other hdiffer (hne l' hl')).mpr hhead), h.headActedOn_other (hne l' hl')]
  · rw [hrest.others p fun l' hl' q hhead => hp l' (List.mem_cons_of_mem _ hl') q ((h.isHead_other hdiffer (hne l' hl')).mp hhead)]
    exact h.others p fun l' hl' q => hp l' (by rw [List.mem_singleton.mp hl']; exact List.mem_cons_self ..) q
  · rcases List.mem_cons.mp ha with rfl | ha
    · rw [hrest.timersKept a fun hmem => absurd hmem hl]
      exact h.timers a (List.mem_singleton_self _) p q hhead
    · rw [hrest.timers a ha p q ((h.isHead_other hdiffer (hne _ ha)).mpr hhead), h.headTimer_other (hne _ ha)]
  · rw [hrest.timersKept a fun hmem p q hhead =>
      ha (List.mem_cons_of_mem _ hmem) p q ((h.isHead_other hdiffer (hne _ hmem)).mp hhead)]
    exact h.timersKept a fun hmem => ha (by rw [List.mem_singleton.mp hmem]; exact List.mem_cons_self ..)
  · have hlater : ls.flatMap (askedForHead u) = ls.flatMap (askedForHead s) :=
      List.flatMap_congr fun l' hl' => h.asked_other hdiffer (hne l' hl')
    rw [hrest.asked, h.asked, hlater, List.flatMap_cons, List.flatMap_cons, List.flatMap_nil, List.append_nil,
      List.append_assoc]

theorem listsResumed {s : State} {ls : List ListId} (hrunning : s.hp.engine = .running) (hdiffer : HeadsDiffer s) (hnodup : ls.Nodup) :
    ListsResumed s (ls.foldl resumeList s) ls := by
  induction ls generalizing s with
  | nil => exact .nil s
  | cons l ls ih =>
    obtain ⟨hl, hnodup⟩ := List.nodup_cons.mp hnodup
    have hstep := resumeList_resumed hrunning l
    refine hstep.cons (ih ?_ ?_ hnodup) hdiffer hl
    · rw [hstep.only]
      exact hrunning
    · intro l1 l2 p h1 h2
      rw [hstep.only.listOf] at h1 h2
      exact hdiffer l1 l2 p h1 h2

/-- Every list of the pool (R147). -/
def everyList : List ListId := allStations.map .station ++ [.control]

theorem mem_everyList (l : ListId) : l ∈ everyList := by
  cases l with
  | control => simp [everyList]
  | station a => simp [everyList, mem_allStations]

theorem nodup_everyList : everyList.Nodup := by
  refine List.nodup_append'.mpr ⟨(List.nodup_finRange 32).map fun a b h => by injection h, List.nodup_singleton _, ?_⟩
  intro l hl hcontrol
  obtain ⟨a, -, rfl⟩ := List.mem_map.mp hl
  cases List.mem_singleton.mp hcontrol

/-! ## The fetch delays held (R91) -/

theorem entry_releaseHeldFetch (p q : PoolIx) (s : State) :
    entry (releaseHeldFetch p s) q = if q = p then (entry s q).map released else entry s q := by
  unfold releaseHeldFetch
  rw [entry_modEntry]
  by_cases h : q = p
  · subst h
    rw [if_pos rfl, if_pos rfl]
    rfl
  · rw [if_neg h, if_neg h]

theorem entry_releaseHeldFetches (q : PoolIx) (ps : List PoolIx) (s : State) (hnodup : ps.Nodup) :
    entry (ps.foldl (fun x p => releaseHeldFetch p x) s) q = if q ∈ ps then (entry s q).map released else entry s q := by
  induction ps generalizing s with
  | nil => simp
  | cons p ps ih =>
    obtain ⟨hp, hnodup⟩ := List.nodup_cons.mp hnodup
    rw [List.foldl_cons, ih _ hnodup, entry_releaseHeldFetch]
    by_cases hq : q = p
    · subst hq
      rw [if_neg hp, if_pos rfl, if_pos (List.mem_cons_self ..)]
    · simp [hq]

/-- The end of `s` with other pool entries alone. -/
theorem releaseHeldFetches_only (ps : List PoolIx) (s : State) :
    ps.foldl (fun x p => releaseHeldFetch p x) s =
      { s with rp := { s.rp with entries := (ps.foldl (fun x p => releaseHeldFetch p x) s).rp.entries } } := by
  induction ps generalizing s with
  | nil => rfl
  | cons p ps ih =>
    have hstep : releaseHeldFetch p s = { s with rp := { s.rp with entries := (releaseHeldFetch p s).rp.entries } } := by
      unfold releaseHeldFetch modEntry
      split <;> rfl
    rw [List.foldl_cons, ih, hstep]

/-- The state with the engine RUNNING and the sweep timer started (R190, R135). -/
def runResumed (s : State) : State := startSweepTimer { s with hp := { s.hp with engine := .running } }

/-- That state with every held fetch delay acted on (R91). -/
@[irreducible] def fetchesReleased (s : State) : State := (List.finRange 64).foldl (fun x p => releaseHeldFetch p x) (runResumed s)

theorem startFromStopped_eq (s : State) :
    startFromStopped s = startProbing (testDescriptorRead (testRecordRead (everyList.foldl resumeList (fetchesReleased s)))) := by
  rw [everyList, List.foldl_append, List.foldl_map]
  unfold startFromStopped fetchesReleased
  generalize allStations = as
  generalize List.finRange 64 = ps
  rfl

theorem entry_fetchesReleased (s : State) (p : PoolIx) : entry (fetchesReleased s) p = (entry s p).map released := by
  unfold fetchesReleased
  rw [entry_releaseHeldFetches p _ _ (List.nodup_finRange 64), if_pos (List.mem_finRange p)]
  rfl

theorem fetchesReleased_only (s : State) :
    fetchesReleased s = { runResumed s with rp := { s.rp with entries := (fetchesReleased s).rp.entries } } := by
  unfold fetchesReleased
  generalize List.finRange 64 = ps
  exact releaseHeldFetches_only ps (runResumed s)

theorem headTimer_fetchesReleased (s : State) (a : Addr) : headTimer (fetchesReleased s) a = headTimer s a := by
  rw [fetchesReleased_only]
  rfl

theorem listOf_fetchesReleased (s : State) (l : ListId) : listOf (fetchesReleased s) l = listOf s l := by
  rw [fetchesReleased_only]
  cases l <;> rfl

theorem isHead_fetchesReleased {s : State} {l : ListId} {p : PoolIx} {q : PoolEntry} (h : IsHead s l p q) :
    IsHead (fetchesReleased s) l p (released q) :=
  ⟨by rw [listOf_fetchesReleased, h.1], by rw [entry_fetchesReleased, h.2]; rfl⟩

theorem isHead_of_fetchesReleased {s : State} {l : ListId} {p : PoolIx} {q : PoolEntry} (h : IsHead (fetchesReleased s) l p q) :
    ∃ x, IsHead s l p x ∧ q = released x := by
  obtain ⟨hfirst, he⟩ := h
  rw [entry_fetchesReleased] at he
  obtain ⟨x, hx, rfl⟩ := Option.map_eq_some_iff.mp he
  exact ⟨x, ⟨by rw [← listOf_fetchesReleased, hfirst], hx⟩, rfl⟩

theorem headActedOn_fetchesReleased (s : State) (l : ListId) (q : PoolEntry) :
    headActedOn (fetchesReleased s) l (released q) = resumedHead s l q := by
  rw [resumedHead_eq]
  cases l with
  | control => simp only [headActedOn]
  | station a => simp only [headActedOn, headTimer_fetchesReleased]

/-! ## The accesses asked for -/

/-- What the entry to RUNNING asks for the requests. -/
noncomputable def payloadsAsked (s : State) : List Access := everyList.flatMap (askedForHead (fetchesReleased s))

theorem mem_askedForHead {s : State} {l : ListId} {x : Access} :
    x ∈ askedForHead s l ↔
      ∃ p q, IsHead s l p q ∧ payloadStarts .running (headActedOn s l q) ∧ x ∈ payloadReadOf p (headActedOn s l q) := by
  constructor
  · intro hx
    by_cases hsome : ∃ p q, IsHead s l p q
    · obtain ⟨p, q, hhead⟩ := hsome
      rw [askedForHead_of_isHead hhead] at hx
      by_cases h : payloadStarts .running (headActedOn s l q)
      · exact ⟨p, q, hhead, h, headRead_of_starts h ▸ hx⟩
      · exact absurd (headRead_of_not h ▸ hx) List.not_mem_nil
    · exact absurd (askedForHead_of_none (fun p q h => hsome ⟨p, q, h⟩) ▸ hx) List.not_mem_nil
  · rintro ⟨p, q, hhead, h, hx⟩
    rwa [askedForHead_of_isHead hhead, headRead_of_starts h]

theorem kind_of_mem_payloadReadOf {p : PoolIx} {q : PoolEntry} {x : Access} (h : x ∈ payloadReadOf p q) : x.kind = .payload p := by
  unfold payloadReadOf at h
  split at h
  · exact absurd h List.not_mem_nil
  · rw [List.mem_singleton.mp h]

theorem nodup_payloadReadOf (p : PoolIx) (q : PoolEntry) : (payloadReadOf p q).Nodup := by
  unfold payloadReadOf
  split
  · exact List.nodup_nil
  · exact List.nodup_singleton _

theorem nodup_askedForHead (s : State) (l : ListId) : (askedForHead s l).Nodup := by
  by_cases hsome : ∃ p q, IsHead s l p q
  · obtain ⟨p, q, hhead⟩ := hsome
    rw [askedForHead_of_isHead hhead, headRead]
    split
    · exact nodup_payloadReadOf ..
    · exact List.nodup_nil
  · rw [askedForHead_of_none fun p q h => hsome ⟨p, q, h⟩]
    exact List.nodup_nil

theorem nodup_askedForHeads {s : State} {ls : List ListId} (hdiffer : HeadsDiffer s) (hnodup : ls.Nodup) :
    (ls.flatMap (askedForHead s)).Nodup := by
  refine List.nodup_flatMap.mpr ⟨fun l _ => nodup_askedForHead s l, hnodup.imp fun {l l'} hne x hx hx' => ?_⟩
  obtain ⟨p, q, hhead, -, hread⟩ := mem_askedForHead.mp hx
  obtain ⟨p', q', hhead', -, hread'⟩ := mem_askedForHead.mp hx'
  have hkinds := (kind_of_mem_payloadReadOf hread).symm.trans (kind_of_mem_payloadReadOf hread')
  injection hkinds with hp
  subst hp
  exact hne (hdiffer l l' p hhead.1 hhead'.1)

theorem mem_payloadsAsked {s : State} {x : Access} :
    x ∈ payloadsAsked s ↔
      ∃ l p q, IsHead s l p q ∧ payloadStarts .running (resumedHead s l q) ∧ x ∈ payloadReadOf p (resumedHead s l q) := by
  unfold payloadsAsked
  rw [List.mem_flatMap]
  constructor
  · rintro ⟨l, -, hx⟩
    obtain ⟨p, q, hhead, hstarts, hread⟩ := mem_askedForHead.mp hx
    obtain ⟨y, hy, rfl⟩ := isHead_of_fetchesReleased hhead
    rw [headActedOn_fetchesReleased] at hstarts hread
    exact ⟨l, p, y, hy, hstarts, hread⟩
  · rintro ⟨l, p, q, hhead, hstarts, hread⟩
    refine ⟨l, mem_everyList l, mem_askedForHead.mpr ⟨p, released q, isHead_fetchesReleased hhead, ?_, ?_⟩⟩
    · rwa [headActedOn_fetchesReleased]
    · rwa [headActedOn_fetchesReleased]

end Sys2Proof.Machine

/-! ## The whole of START -/

namespace Sys2Proof.Machine
set_option Elab.async false

/-- The test for a record read asks for one read or for none (R138). -/
theorem testRecordRead_eq {s : State} {c : Configuration} (hconfig : s.hp.config = some c) :
    ∃ reading asked, testRecordRead s =
        { s with hp := { s.hp with queue := s.hp.queue ++ asked }, ri := { s.ri with reading := reading } } ∧
      (asksRecord s → reading = true ∧ asked = [recordReadAt c s.ri.head]) ∧
      (¬asksRecord s → reading = s.ri.reading ∧ asked = []) := by
  by_cases h : asksRecord s
  · exact ⟨true, [recordReadAt c s.ri.head], testRecordRead_of_asks hconfig h, fun _ => ⟨rfl, rfl⟩, fun hn => absurd h hn⟩
  · refine ⟨s.ri.reading, [], ?_, fun hy => absurd hy h, fun _ => ⟨rfl, rfl⟩⟩
    rw [testRecordRead_of_not_asks h, List.append_nil]

/-- The requests as the entry to RUNNING leaves them, ahead of the ring reads. -/
@[irreducible] def requestsResumed (s : State) : State := everyList.foldl resumeList (fetchesReleased s)

theorem requestsResumed_only {s : State} {c : Configuration} (hconfig : s.hp.config = some c) :
    requestsResumed s =
      { s with hp := { s.hp with engine := .running, queue := (requestsResumed s).hp.queue }
               rp := { s.rp with entries := (requestsResumed s).rp.entries }
               sc := { s.sc with sweepTimer := freshSweepTimer s c, headTimers := (requestsResumed s).sc.headTimers } } := by
  have htouched : RequestsTouched (fetchesReleased s) (requestsResumed s) := by
    unfold requestsResumed
    exact .foldl requestsTouched_resumeList _ _
  have hrun : runResumed s = { s with hp := { s.hp with engine := .running }
                                      sc := { s.sc with sweepTimer := freshSweepTimer s c } } := by
    rw [runResumed, startSweepTimer, configured_of_some (by exact hconfig)]
    rfl
  rw [htouched, fetchesReleased_only, hrun]

/-- A record and a descriptor as START asks for them (R138, R101), and the state it leaves. -/
theorem startFromStopped_only {s : State} {c : Configuration} (hconfig : s.hp.config = some c) :
    ∃ record descriptor readingRecord readingDescriptor,
      startFromStopped s =
        { s with hp := { s.hp with engine := .running, queue := (requestsResumed s).hp.queue ++ record ++ descriptor }
                 rp := { s.rp with entries := (requestsResumed s).rp.entries }
                 sc := { s.sc with sweepTimer := freshSweepTimer s c, headTimers := (requestsResumed s).sc.headTimers }
                 ri := { s.ri with reading := readingRecord }
                 ru := { s.ru with reading := readingDescriptor }
                 ls := probeHandedOver s.ls s.tx.nextId
                 tx := withWaiting s.tx (probeSymbols (s.ls.probeNumber + 1)) } ∧
      (s.ri.head ≠ s.ri.tail ∧ s.ri.held = none ∧ s.ri.reading = false →
        readingRecord = true ∧ record = [recordReadAt c s.ri.head]) ∧
      (¬(s.ri.head ≠ s.ri.tail ∧ s.ri.held = none ∧ s.ri.reading = false) → readingRecord = s.ri.reading ∧ record = []) ∧
      (s.ru.cache.length < 8 ∧ s.ru.head ≠ s.hp.bufferTail ∧ s.ru.reading = false →
        readingDescriptor = true ∧ descriptor = [descriptorReadAt c s.ru.head]) ∧
      (¬(s.ru.cache.length < 8 ∧ s.ru.head ≠ s.hp.bufferTail ∧ s.ru.reading = false) →
        readingDescriptor = s.ru.reading ∧ descriptor = []) := by
  have honly := requestsResumed_only hconfig
  have hresumed : startFromStopped s = startProbing (testDescriptorRead (testRecordRead (requestsResumed s))) := by
    unfold requestsResumed
    exact startFromStopped_eq s
  generalize requestsResumed s = w at honly hresumed
  obtain ⟨readingRecord, record, hrecord, hasks, hnot⟩ := testRecordRead_eq (s := w) (c := c) (by rw [honly]; exact hconfig)
  obtain ⟨readingDescriptor, descriptor, hdescriptor, hasks', hnot'⟩ :=
    testDescriptorRead_eq (s := testRecordRead w) (c := c) (by rw [hrecord, honly]; exact hconfig)
  have hrecordWhen : asksRecord w ↔ s.ri.head ≠ s.ri.tail ∧ s.ri.held = none ∧ s.ri.reading = false := by
    rw [honly]
    exact ⟨fun h => h.2, fun h => ⟨rfl, h⟩⟩
  have hdescriptorWhen : asksDescriptor (testRecordRead w) ↔
      s.ru.cache.length < 8 ∧ s.ru.head ≠ s.hp.bufferTail ∧ s.ru.reading = false := by
    rw [hrecord, honly]
    exact ⟨fun h => h.2, fun h => ⟨rfl, h⟩⟩
  rw [hrecordWhen] at hasks hnot
  rw [hdescriptorWhen] at hasks' hnot'
  refine ⟨record, descriptor, readingRecord, readingDescriptor, ?_, ?_, ?_, ?_, ?_⟩
  · rw [hresumed, hdescriptor, hrecord, honly]
    rfl
  · rw [honly] at hasks; exact hasks
  · rw [honly] at hnot; exact hnot
  · rw [hrecord, honly] at hasks'; exact hasks'
  · rw [hrecord, honly] at hnot'; exact hnot'

/-- The lists that `s` has are those the requests are resumed in. -/
theorem listsResumed_of_poolOk {s : State} (hpool : PoolOk s) : ListsResumed (fetchesReleased s) (requestsResumed s) everyList := by
  unfold requestsResumed
  refine listsResumed ?_ (fun l l' p hl hl' => ?_) nodup_everyList
  · rw [fetchesReleased_only]
    rfl
  · rw [listOf_fetchesReleased] at hl hl'
    exact hpool.headsDiffer l l' p hl hl'

/-- Each head request as the entry to RUNNING leaves it. -/
theorem requestsResumed_of_isHead {s : State} (hpool : PoolOk s) {l : ListId} {p : PoolIx} {q : PoolEntry} (h : IsHead s l p q) :
    entry (requestsResumed s) p = some (headStarted (resumedHead s l q)) := by
  rw [← headActedOn_fetchesReleased]
  exact (listsResumed_of_poolOk hpool).heads l (mem_everyList l) p _ (isHead_fetchesReleased h)

/-- Every other request has its held fetch delay acted on. -/
theorem requestsResumed_of_not_head {s : State} (hpool : PoolOk s) {p : PoolIx} (h : ∀ l q, ¬IsHead s l p q) :
    entry (requestsResumed s) p = (entry s p).map released := by
  rw [← entry_fetchesReleased]
  refine (listsResumed_of_poolOk hpool).others p fun l _ q hhead => ?_
  obtain ⟨x, hx, -⟩ := isHead_of_fetchesReleased hhead
  exact h l x hx

theorem headTimer_requestsResumed_of_isHead {s : State} (hpool : PoolOk s) {a : Addr} {p : PoolIx} {q : PoolEntry}
    (h : IsHead s (.station a) p q) :
    headTimer (requestsResumed s) a =
      if headTimer s a = .expired ∧ (released q).phase = .inTransit then .stopped else headTimer s a := by
  rw [← headTimer_fetchesReleased s a]
  exact (listsResumed_of_poolOk hpool).timers a (mem_everyList _) p _ (isHead_fetchesReleased h)

theorem headTimer_requestsResumed_of_none {s : State} (hpool : PoolOk s) {a : Addr} (h : listOf s (.station a) = []) :
    headTimer (requestsResumed s) a = headTimer s a := by
  rw [← headTimer_fetchesReleased s a]
  refine (listsResumed_of_poolOk hpool).timersKept a fun _ p q hhead => ?_
  have hfirst := hhead.1
  rw [listOf_fetchesReleased, h] at hfirst
  exact absurd hfirst nofun

theorem queue_requestsResumed {s : State} (hpool : PoolOk s) :
    (requestsResumed s).hp.queue = s.hp.queue ++ payloadsAsked s := by
  have hkept : (fetchesReleased s).hp.queue = s.hp.queue := by
    rw [fetchesReleased_only]
    rfl
  rw [(listsResumed_of_poolOk hpool).asked, hkept, payloadsAsked]

theorem nodup_payloadsAsked {s : State} (hpool : PoolOk s) : (payloadsAsked s).Nodup := by
  refine nodup_askedForHeads (fun l l' p hl hl' => ?_) nodup_everyList
  rw [listOf_fetchesReleased] at hl hl'
  exact hpool.headsDiffer l l' p hl hl'

theorem kind_of_mem_payloadsAsked {s : State} {x : Access} (h : x ∈ payloadsAsked s) : ∃ p, x.kind = .payload p := by
  obtain ⟨l, p, q, -, -, hread⟩ := mem_payloadsAsked.mp h
  exact ⟨p, kind_of_mem_payloadReadOf hread⟩

theorem reading_iff {reads : Prop} {before after : Bool} {asked : List Access} {x : Access}
    (h : reads → after = true ∧ asked = [x]) (hnot : ¬reads → after = before ∧ asked = []) :
    after = true ↔ before = true ∨ reads := by
  by_cases hreads : reads
  · simp [(h hreads).1, hreads]
  · simp [(hnot hreads).1, hreads]

theorem asked_iff {reads : Prop} {before after : Bool} {asked : List Access} {x : Access}
    (h : reads → after = true ∧ asked = [x]) (hnot : ¬reads → after = before ∧ asked = []) :
    (asked = [] ∨ asked = [x]) ∧ ∀ y, y ∈ asked ↔ reads ∧ y = x := by
  by_cases hreads : reads
  · simp [(h hreads).2, hreads]
  · simp [(hnot hreads).2, hreads]

/-- A list of reads that begins with payload reads has no read twice when what follows has none and holds no payload read. -/
theorem nodup_append_of_kinds {payloads others : List Access} (hpayloads : payloads.Nodup) (hothers : others.Nodup)
    (hkinds : ∀ x ∈ payloads, ∃ p, x.kind = .payload p) (hnot : ∀ x ∈ others, ∀ p, x.kind ≠ .payload p) :
    (payloads ++ others).Nodup :=
  List.nodup_append'.mpr ⟨hpayloads, hothers, fun x hx hx' =>
    let ⟨p, hp⟩ := hkinds x hx
    hnot x hx' p hp⟩

/-- The ring reads START asks for are at most one of each kind. -/
theorem nodup_ringReads {record descriptor : List Access} {x y : Access} (hx : x.kind = .requestRecord) (hy : y.kind = .descriptor)
    (hrecord : record = [] ∨ record = [x]) (hdescriptor : descriptor = [] ∨ descriptor = [y]) :
    (record ++ descriptor).Nodup ∧ ∀ z ∈ record ++ descriptor, ∀ p, z.kind ≠ .payload p := by
  have hne : x ≠ y := fun h => by
    rw [h, hy] at hx
    exact absurd hx nofun
  rcases hrecord with rfl | rfl <;> rcases hdescriptor with rfl | rfl <;> simp [hx, hy, hne]

end Sys2Proof.Machine

section
set_option Elab.async false
open Sys2Proof.Machine

/-- Settles O17: each list of the pool is resumed once (`ListsResumed`), and under the pool's invariant no request heads two lists. -/
theorem startReadsOrResumes : Obligations.StartReadsOrResumes := by
  unfold Obligations.StartReadsOrResumes
  refine ⟨fun s hpor hoff => ?_, fun s c hpor hstopped hconfig => ?_⟩
  · obtain ⟨bus, queue, ht, hacc⟩ := settleBus_eq (n := s.hp.queue.length) (s := startFromOff s) (by simp [startFromOff, requestAccess])
    exact ⟨_, (exec_start_of_off hpor hoff).trans (congrArg _ ht), rfl, hacc.trans (accesses_requestAccess ..)⟩
  · obtain ⟨record, descriptor, readingRecord, readingDescriptor, honly, hrecord, hnoRecord, hdescriptor, hnoDescriptor⟩ :=
      startFromStopped_only hconfig
    have hexec := exec_start_of_stopped hpor hstopped
    obtain ⟨bus, queue, k, hsettled, -⟩ := settleBus_moves s.hp.queue.length (startFromStopped s)
    have hentry (p : Sys2Proof.PoolIx) : entry (settleBus s.hp.queue.length (startFromStopped s)) p = entry (requestsResumed s) p := by
      rw [hsettled, honly]
      rfl
    have htimer (a : Sys2Proof.Addr) :
        headTimer (settleBus s.hp.queue.length (startFromStopped s)) a = headTimer (requestsResumed s) a := by
      rw [hsettled, honly]
      rfl
    refine ⟨_, hexec, ?_, ?_, ?_, ?_, ?_, ?_, fun l => ?_, ?_, ?_, ?_, ?_, fun hpool => ?_⟩
    case refine_11 =>
      rw [hsettled, honly]
      exact ⟨rfl, rfl, rfl, rfl⟩
    case refine_12 =>
      refine ⟨fun p hp => ?_, fun p q hp hnot => ?_, fun l p q hhead => ⟨fun hstarts => ?_, fun hwaits => ?_⟩, fun a p q hhead => ?_,
        fun a hempty => ?_, ?_, ?_, ?_⟩
      · rw [hentry, requestsResumed_of_not_head hpool fun l q h => by rw [h.2] at hp; exact absurd hp nofun, hp]
        rfl
      · rw [hentry, requestsResumed_of_not_head hpool fun l q h => hnot l h.1, hp]
        rfl
      · rw [hentry, requestsResumed_of_isHead hpool hhead, headStarted_of_starts hstarts]
      · rw [hentry, requestsResumed_of_isHead hpool hhead, headStarted_of_not hwaits]
      · rw [htimer, headTimer_requestsResumed_of_isHead hpool hhead]
      · rw [htimer, headTimer_requestsResumed_of_none hpool hempty]
      · rw [show (settleBus s.hp.queue.length (startFromStopped s)).ri.reading = readingRecord by rw [hsettled, honly]; rfl]
        exact reading_iff hrecord hnoRecord
      · rw [show (settleBus s.hp.queue.length (startFromStopped s)).ru.reading = readingDescriptor by rw [hsettled, honly]; rfl]
        exact reading_iff hdescriptor hnoDescriptor
      · have hqueue : (startFromStopped s).hp.queue = s.hp.queue ++ (payloadsAsked s ++ (record ++ descriptor)) := by
          rw [honly, queue_requestsResumed hpool, List.append_assoc, List.append_assoc]
        obtain ⟨-, -, -, -, made, hmade, hacc⟩ := settleBus_asked hqueue rfl
        have hbus : (startFromStopped s).hp.bus = s.hp.bus := by rw [honly]
        have hrecords := asked_iff hrecord hnoRecord
        have hdescriptors := asked_iff hdescriptor hnoDescriptor
        obtain ⟨hnodup, hkinds⟩ := nodup_ringReads (x := recordReadAt c s.ri.head) (y := descriptorReadAt c s.ru.head) rfl rfl
          hrecords.1 hdescriptors.1
        refine ⟨made, ?_, hmade.nodup_iff.mpr (nodup_append_of_kinds (nodup_payloadsAsked hpool) hnodup
          (fun x hx => kind_of_mem_payloadsAsked hx) hkinds), fun x => ?_⟩
        · rw [hacc, hbus]
          rfl
        · rw [hmade.mem_iff, List.mem_append, List.mem_append, mem_payloadsAsked, hrecords.2, hdescriptors.2]
    all_goals (rw [hsettled, honly]; rfl)
end

/-! ## What FAULTED does with the accesses it drops (R197) -/

namespace Sys2Proof.Machine
set_option Elab.async false

/-! ### What giving up an access leaves alone -/

/-- Giving up accesses touches the requests, the reports, the reservations and the record write: nothing of the loop, no ring index,
no station state, and no record that is not a notice leaves the queue. -/
structure DropKeeps (s u : State) : Prop where
  only : u = { s with
    hp := { s.hp with bus := u.hp.bus, queue := u.hp.queue }
    ri := { s.ri with reading := u.ri.reading }
    rp := u.rp
    st := u.st
    sc := { s.sc with headTimers := u.sc.headTimers }
    ru := { s.ru with reading := u.ru.reading, reports := u.ru.reports, writing := u.ru.writing, decision := u.ru.decision }
    cu := { s.cu with queue := u.cu.queue, reserved := u.cu.reserved, write := u.cu.write, heldRaises := u.cu.heldRaises
                      callAnswer := u.cu.callAnswer } }
  loopMap : u.st.loopMap = s.st.loopMap
  states : ∀ a, (station u a).state = (station s a).state
  records : ∀ r ∈ s.cu.queue, isNotice r = false → r ∈ u.cu.queue

theorem DropKeeps.refl (s : State) : DropKeeps s s := ⟨rfl, rfl, fun _ => rfl, fun _ h _ => h⟩

theorem DropKeeps.trans {s t u : State} (h : DropKeeps s t) (h' : DropKeeps t u) : DropKeeps s u := by
  refine ⟨?_, h'.loopMap.trans h.loopMap, fun a => (h'.states a).trans (h.states a),
    fun r hr hn => h'.records r (h.records r hr hn) hn⟩
  rw [h'.only, h.only]

theorem clearOutstanding_only (l : ListId) (p : PoolIx) (s : State) :
    clearOutstanding l p s = { s with st := (clearOutstanding l p s).st } := by
  unfold clearOutstanding
  split
  · split <;> rfl
  · rfl

theorem finishRequest_only {s t : State} {p : PoolIx} {e : PoolEntry} {status : Status} {length count : Nat} {use : SlotUse}
    (he : entry s p = some e) (ht : finishRequest p status length count use s = t) :
    t = { s with hp := { s.hp with bus := t.hp.bus, queue := t.hp.queue }, rp := t.rp, st := t.st
                 sc := { s.sc with headTimers := t.sc.headTimers }
                 cu := { s.cu with queue := s.cu.queue ++ [doneRecord s e status length count], reserved := t.cu.reserved } } := by
  have honly : t = { s with hp := t.hp, rp := t.rp, st := t.st, sc := t.sc, cu := t.cu } := by
    rw [← ht]
    simp only [finishRequest, he]
    rw [becomeHead_only, clearOutstanding_only]
    cases listFor e.kind e.address <;> rfl
  have hresolves := finishRequest_resolves he status length count use
  rw [ht] at hresolves
  obtain ⟨hcu, -, -, -, -, -, hhost, hsc, -⟩ := hresolves
  unfold HostKept at hhost
  rw [hcu, hsc, hhost] at honly
  exact honly

/-- An entry is free as it was, or holds its request with other progress. -/
def SameRequestIn (o o' : Option PoolEntry) : Prop :=
  o = none ∧ o' = none ∨ ∃ e phase started, o = some e ∧ o' = some { e with phase := phase, readStarted := started }

theorem SameRequestIn.refl (o : Option PoolEntry) : SameRequestIn o o := by
  cases o with
  | none => exact .inl ⟨rfl, rfl⟩
  | some e => exact .inr ⟨e, e.phase, e.readStarted, rfl, rfl⟩

theorem BecomesHead.sameRequest {s t : State} {l : ListId} {q : PoolIx} {x : PoolEntry} {more : List Access}
    (h : BecomesHead s t l q x more) : SameRequestIn (some x) (entry t q) := by
  obtain ⟨hstarts, hwaits, hother, -⟩ := h
  by_cases hkind : readsPayload x.kind
  · by_cases hstart : payloadStarts s.hp.engine x
    · exact .inr ⟨x, (payloadStarted x).phase, true, rfl, (hstarts hstart).1⟩
    · rw [(hwaits hkind hstart).1]
      exact .refl _
  · exact .inr ⟨x, .ready, x.readStarted, rfl, (hother hkind).1⟩

/-- A request ended through its reserved slot between `s` and `u`. -/
structure EndedReserved (s u : State) (p : PoolIx) (r : CompletionRecord) : Prop where
  keeps : DropKeeps s u
  cu : u.cu = { s.cu with queue := s.cu.queue ++ [r], reserved := s.cu.reserved - 1 }
  ru : u.ru = s.ru
  ri : u.ri = s.ri
  gone : entry u p = none
  others : ∀ q, q ≠ p → SameRequestIn (entry s q) (entry u q)
  heads : ∀ l q, q ≠ p → (listOf s l).head? = some q → (listOf u l).head? = some q

theorem head_erase_of_ne {α : Type} [DecidableEq α] {xs : List α} {p q : α} (hne : q ≠ p) (h : xs.head? = some q) :
    (xs.erase p).head? = some q := by
  cases xs with
  | nil => exact absurd h nofun
  | cons x rest =>
    obtain rfl : x = q := Option.some.inj h
    rw [List.erase_cons_tail (by simpa using hne)]
    rfl

theorem finishRequest_endedReserved {s : State} {p : PoolIx} {e : PoolEntry} (he : entry s p = some e) (status : Status)
    (length count : Nat) :
    EndedReserved s (finishRequest p status length count .useReserved s) p (doneRecord s e status length count) := by
  obtain ⟨hcu, hgone, hlist, hothers, hkept, ⟨more, -, hnext, -⟩, -, -, -, hri, hru, -⟩ :=
    finishRequest_resolves he status length count .useReserved
  have honly := finishRequest_only (status := status) (length := length) (count := count) (use := .useReserved) he rfl
  have hreserved := reserved_finishRequest he status length count .useReserved
  have hhomes (q : PoolIx) (hq : q ≠ p) := homeOf_finishRequest p q status length count .useReserved s
  generalize hu : finishRequest p status length count .useReserved s = u at *
  rw [hreserved] at hcu
  refine ⟨⟨?_, ?_, fun a => ?_, fun r hr _ => ?_⟩, hcu, hru, hri, hgone, fun q hq => ?_, fun l q hq hhead => ?_⟩
  · conv_lhs => rw [honly]
    rw [hri, hru, hcu]
  · rw [← hu, loopMap_finishRequest]
  · rw [← hu, station_finishRequest he]
    split <;> rfl
  · rw [hcu]
    exact List.mem_append_left _ hr
  · by_cases hhead : (listOf u (listFor e.kind e.address)).head? = some q
    · cases hx : entry s q with
      | some x => exact (hnext q x hhead hq hx).sameRequest
      | none =>
        refine .inl ⟨rfl, ?_⟩
        have hhome := hhomes q hq
        rw [if_neg hq] at hhome
        have hnone : (entry u q).isSome = false := by rw [isSome_entry, hhome, ← isSome_entry, hx]; rfl
        exact Option.not_isSome_iff_eq_none.mp (by rw [hnone]; exact Bool.false_ne_true)
    · rw [hkept q hq hhead]
      exact .refl _
  · by_cases hl : l = listFor e.kind e.address
    · rw [hl, hlist]
      exact head_erase_of_ne hq (hl ▸ hhead)
    · rw [hothers l hl, hhead]

/-! ### The engine that makes no access any more -/

/-- FAULTED with nothing asked for and nothing on the bus. -/
def FaultedIdle (s : State) : Prop := s.hp.engine = .faulted ∧ s.hp.queue = [] ∧ s.hp.bus = none

theorem FaultedIdle.of_hp {s t : State} (h : FaultedIdle s) (hhp : t.hp = s.hp) : FaultedIdle t := by
  unfold FaultedIdle
  rwa [hhp]

theorem startPayload_of_faulted {s : State} (h : s.hp.engine = .faulted) (p : PoolIx) : startPayload p s = s := by
  cases he : entry s p with
  | none => simp only [startPayload, he]
  | some e =>
    refine (startPayload_eq he).2 fun hstarts => ?_
    rw [h] at hstarts
    exact absurd hstarts.1 nofun

theorem hp_becomeHead_of_faulted {s : State} (h : s.hp.engine = .faulted) (l : ListId) : (becomeHead l s).hp = s.hp := by
  unfold becomeHead
  split
  · rfl
  · split
    · rw [startPayload_of_faulted (by rw [armHeadTimer_hp, h]), armHeadTimer_hp]
    · rw [modEntry_hp, armHeadTimer_hp]

theorem hp_discardAccesses_of_idle {s : State} (h : FaultedIdle s) (p : PoolIx) : (discardAccesses p s).hp = s.hp := by
  obtain ⟨-, hqueue, hbus⟩ := h
  simp only [discardAccesses, hqueue, hbus, List.filter_nil, Option.map_none]
  rw [← hqueue, ← hbus]

/-- In FAULTED the end of a request asks for no access (R197). -/
theorem hp_finishRequest_of_idle {s : State} (h : FaultedIdle s) (p : PoolIx) (status : Status) (length count : Nat) (use : SlotUse) :
    (finishRequest p status length count use s).hp = s.hp := by
  have hentered (r : CompletionRecord) : (enterRecord r use s).hp = s.hp := enterRecord_hp ..
  unfold finishRequest
  split
  · rfl
  · have hhp (e : PoolEntry) : (clearOutstanding (listFor e.kind e.address) p (leaveList (listFor e.kind e.address) p
        (putEntry p none (discardAccesses p (enterRecord (doneRecord s e status length count) use s))))).hp = s.hp := by
      rw [clearOutstanding_hp, leaveList_hp, putEntry_hp, hp_discardAccesses_of_idle (h.of_hp (hentered _)), hentered]
    rw [hp_becomeHead_of_faulted (by rw [hhp, h.1]), hhp]

/-- What giving up an access in FAULTED keeps, the bus and the list of accesses included. -/
def DropsQuietly (s u : State) : Prop := DropKeeps s u ∧ u.hp = s.hp

theorem DropsQuietly.refl (s : State) : DropsQuietly s s := ⟨.refl s, rfl⟩

theorem DropsQuietly.trans {s t u : State} (h : DropsQuietly s t) (h' : DropsQuietly t u) : DropsQuietly s u :=
  ⟨h.1.trans h'.1, h'.2.trans h.2⟩

theorem dropsQuietly_finishRequest {s : State} (h : FaultedIdle s) (p : PoolIx) (status : Status) (length count : Nat) :
    DropsQuietly s (finishRequest p status length count .useReserved s) := by
  refine ⟨?_, hp_finishRequest_of_idle h ..⟩
  cases he : entry s p with
  | none =>
    simp only [finishRequest, he]
    exact .refl s
  | some e => exact (finishRequest_endedReserved he status length count).keeps

theorem dropsQuietly_responseLost {s : State} (h : FaultedIdle s) (p : PoolIx) : DropsQuietly s (responseLost p s) := by
  unfold responseLost
  split
  · exact .refl s
  · split
    · exact .refl s
    · exact dropsQuietly_finishRequest h ..

theorem dropsQuietly_finishSweepNow {s : State} (h : FaultedIdle s) (status : Status) (count : Nat) :
    DropsQuietly s (finishSweepNow status count s) := by
  unfold finishSweepNow
  split
  · split
    · exact dropsQuietly_finishRequest h ..
    · exact .refl s
  · exact .refl s

theorem dropsQuietly_reportsEntered (records : List CompletionRecord) (decision : Option SweepDecision) (s : State) :
    DropsQuietly s (reportsEntered records decision s) :=
  ⟨⟨rfl, rfl, fun _ => rfl, fun _ h _ => List.mem_append_left _ h⟩, rfl⟩

theorem dropsQuietly_enterReport {s : State} (h : FaultedIdle s) (r : PendingReport) (status : Status) :
    DropsQuietly s (enterReport r status s) := by
  rw [enterReport_eq]
  split
  · exact dropsQuietly_reportsEntered ..
  · split
    · have hentered := dropsQuietly_reportsEntered [reportDone s r status] none s
      exact hentered.trans (dropsQuietly_finishSweepNow (h.of_hp hentered.2) ..)
    · exact dropsQuietly_reportsEntered ..

theorem dropsQuietly_enterReports {s : State} (h : FaultedIdle s) (xs : List (PendingReport × Status)) :
    DropsQuietly s (enterReports xs s) := by
  induction xs generalizing s with
  | nil => exact .refl s
  | cons x rest ih =>
    have hfirst := dropsQuietly_enterReport h x.1 x.2
    exact hfirst.trans (ih (h.of_hp hfirst.2))

/-- The pending reports when none is written any more: each completes with its status, and none is left (R112). -/
theorem pumpReports_of_faulted {s : State} (h : s.hp.engine = .faulted) (reports : List PendingReport) :
    pumpReports reports s =
      { enterReports (reports.map (fun r => (r, faultedStatus r))) s with
        ru := { (enterReports (reports.map (fun r => (r, faultedStatus r))) s).ru with reports := [], writing := false } } := by
  have hpump := pumpReports_eq (s := s) (now := reports) (later := []) (.inr ⟨h, rfl⟩)
  simp only [List.append_nil, h, statusUnwritten, if_true] at hpump
  rw [hpump]
  simp only [reportsWait, List.take_nil, List.map_nil, List.append_nil]
  rfl

theorem dropsQuietly_pumpReports {s : State} (h : FaultedIdle s) (reports : List PendingReport) :
    DropsQuietly s (pumpReports reports s) := by
  rw [pumpReports_of_faulted h.1]
  exact (dropsQuietly_enterReports h _).trans ⟨⟨rfl, rfl, fun _ => rfl, fun _ h _ => h⟩, rfl⟩

theorem mem_queueAfterRaises {r : CompletionRecord} (hr : isNotice r = false) (xs : List Raise) (queue : List CompletionRecord)
    (h : r ∈ queue) : r ∈ queueAfterRaises xs queue := by
  induction xs generalizing queue with
  | nil => exact h
  | cons x rest ih =>
    refine ih (queueAfterRaise x queue) ?_
    unfold queueAfterRaise
    split
    · refine List.mem_map.mpr ⟨r, h, if_neg fun hk => ?_⟩
      rw [isNotice, hk] at hr
      exact absurd hr nofun
    · exact List.mem_append_left _ h

/-- The state in which a record write has ended without posting, ahead of the CALL-NOW it held back (R162, R167). -/
def raisesLetIn (s : State) : State :=
  { s with cu := { s.cu with write := none, queue := queueAfterRaises s.cu.heldRaises s.cu.queue, heldRaises := [] } }

theorem recordKept_eq (s : State) : recordKept s = answerHeldCallNow (raisesLetIn s) := by
  rw [recordKept, applyHeldRaises_eq]
  rfl

theorem dropKeeps_raisesLetIn (s : State) : DropKeeps s (raisesLetIn s) :=
  ⟨rfl, rfl, fun _ => rfl, fun _ h hn => mem_queueAfterRaises hn _ _ h⟩

theorem finishCallNow_eq_or (status : Status) (count : Nat) (s : State) :
    finishCallNow status count s = s ∨
      ∃ p q, IsHead s .control p q ∧ finishCallNow status count s = finishRequest p status 0 count .useReserved s := by
  by_cases h : ∃ p q, IsHead s .control p q ∧ q.kind = .callNow
  · obtain ⟨p, q, hhead, hkind⟩ := h
    exact .inr ⟨p, q, hhead, finishCallNow_of_isHead hhead hkind status count⟩
  · refine .inl ?_
    unfold finishCallNow
    split
    · rename_i p q hhead
      exact if_neg fun hkind => h ⟨p, q, headEntry_eq_some.mp hhead, hkind⟩
    · rfl

theorem dropKeeps_finishCallNow (status : Status) (count : Nat) (s : State) : DropKeeps s (finishCallNow status count s) := by
  obtain h | ⟨p, q, hhead, h⟩ := finishCallNow_eq_or status count s <;> rw [h]
  · exact .refl s
  · exact (finishRequest_endedReserved hhead.2 status 0 count).keeps

theorem dropKeeps_recordKept (s : State) : DropKeeps s (recordKept s) := by
  rw [recordKept_eq]
  have hcleared : DropKeeps (raisesLetIn s) { raisesLetIn s with cu := { (raisesLetIn s).cu with callAnswer := none } } :=
    ⟨rfl, rfl, fun _ => rfl, fun _ h _ => h⟩
  refine (dropKeeps_raisesLetIn s).trans ?_
  unfold answerHeldCallNow
  split
  · exact .refl _
  · exact hcleared.trans (dropKeeps_finishCallNow ..)

theorem dropsQuietly_recordKept {s : State} (h : FaultedIdle s) : DropsQuietly s (recordKept s) := by
  refine ⟨dropKeeps_recordKept s, ?_⟩
  rw [recordKept_eq]
  unfold answerHeldCallNow
  split
  · rfl
  · rename_i n _
    obtain hsame | ⟨p, q, -, hfinish⟩ :=
      finishCallNow_eq_or .ok n { raisesLetIn s with cu := { (raisesLetIn s).cu with callAnswer := none } }
    · rw [hsame]
      rfl
    · rw [hfinish]
      exact hp_finishRequest_of_idle (by exact h) ..

/-- Whatever is dropped, its owner leaves the rest alone (R197). -/
theorem dropsQuietly_ownerOfDropped {s : State} (h : FaultedIdle s) (x : Access) : DropsQuietly s (ownerOfDropped x s) := by
  unfold ownerOfDropped
  split
  · exact .refl s
  · split
    · exact .refl s
    · exact dropsQuietly_responseLost h _
    · exact dropsQuietly_pumpReports h _
    · exact dropsQuietly_finishRequest h ..
    · exact ⟨⟨rfl, rfl, fun _ => rfl, fun _ h _ => h⟩, rfl⟩
    · exact ⟨⟨rfl, rfl, fun _ => rfl, fun _ h _ => h⟩, rfl⟩
    · exact dropsQuietly_recordKept h
    · exact dropsQuietly_recordKept h
    · exact .refl s

/-- The owners of dropped accesses act one behind the other (R197). -/
def dropAll (xs : List Access) (s : State) : State := xs.foldl (fun u x => ownerOfDropped x u) s

theorem dropAll_cons (x : Access) (xs : List Access) (s : State) : dropAll (x :: xs) s = dropAll xs (ownerOfDropped x s) := rfl

theorem dropsQuietly_dropAll {s : State} (h : FaultedIdle s) (xs : List Access) : DropsQuietly s (dropAll xs s) := by
  induction xs generalizing s with
  | nil => exact .refl s
  | cons x rest ih =>
    have hfirst := dropsQuietly_ownerOfDropped h x
    exact hfirst.trans (ih (h.of_hp hfirst.2))

/-! ### The entry to FAULTED (R191) -/

/-- The state at the entry to FAULTED, ahead of the owners (R191). -/
def faultTaken (code : FaultCode) (s : State) : State :=
  { s with hp := { s.hp with engine := .faulted, faultCode := code, queue := [] }
           cu := { s.cu with pendingCauses := withEngineCause s.cu.pendingCauses } }

/-- The loop drains in FAULTED, or is QUIET: nothing but the loop and the receiver changes (R46). -/
theorem drainLoop_of_faulted {s : State} (h : s.hp.engine = .faulted) :
    ∃ ls rx, drainLoop s = { s with ls := ls, rx := rx } ∧ ls.state = drainedTo s.ls.state s.ls.transit.isEmpty ∧
      (ls.state = .draining → ls.transit = s.ls.transit) ∧ (ls.state = .quiet → s.ls.state ≠ .quiet → ls.transit = []) := by
  have hquiet : enterQuiet s = { s with
      ls := { s.ls with state := .quiet, transit := [], probeTimer := none, settleTimer := none }
      rx := .seek } := enterQuiet_of_not_stopping (by rw [h]; exact nofun)
  have hstays : stopWhenQuiet s = s := if_neg fun hs => by rw [h] at hs; exact absurd hs.1 nofun
  have hruns (hstate : s.ls.state = .opened ∨ s.ls.state = .probing ∨ s.ls.state = .calling) :
      ∃ ls rx, drainLoop s = { s with ls := ls, rx := rx } ∧ ls.state = (if s.ls.transit.isEmpty then .quiet else .draining) ∧
        (ls.state = .draining → ls.transit = s.ls.transit) ∧ (ls.state = .quiet → s.ls.state ≠ .quiet → ls.transit = []) := by
    by_cases hempty : s.ls.transit = []
    · rw [drainLoop_of_empty (.inr ⟨hstate, hempty⟩), hquiet]
      exact ⟨_, _, rfl, by simp [hempty], nofun, fun _ _ => rfl⟩
    · rw [drainLoop_of_transit hstate hempty]
      exact ⟨_, _, rfl, by simp [hempty], fun _ => rfl, nofun⟩
  cases hstate : s.ls.state with
  | opened => simpa only [hstate, drainedTo] using hruns (.inl hstate)
  | probing => simpa only [hstate, drainedTo] using hruns (.inr (.inl hstate))
  | calling => simpa only [hstate, drainedTo] using hruns (.inr (.inr hstate))
  | broken =>
    rw [drainLoop_of_empty (.inl hstate), hquiet]
    exact ⟨_, _, rfl, rfl, nofun, fun _ _ => rfl⟩
  | draining =>
    refine ⟨s.ls, s.rx, ?_, hstate, fun _ => rfl, fun hq => ?_⟩
    · simp only [drainLoop, hstate, hstays]
    · rw [hstate] at hq
      exact absurd hq nofun
  | quiet =>
    refine ⟨s.ls, s.rx, ?_, hstate, fun _ => rfl, fun _ hne => absurd rfl hne⟩
    simp only [drainLoop, hstate, hstays]

/-- The entry to FAULTED and the end of its step: what the owners did, with the loop drained and the interval timers stopped. -/
theorem settleBus_enterFaulted {n : Nat} {v : State} (hbus : v.hp.bus = none) (code : FaultCode) :
    ∃ ls rx, settleBus n (enterFaulted code v) =
        { stopIntervalTimers (dropAll v.hp.queue (faultTaken code v)) with ls := ls, rx := rx } ∧
      ls.state = drainedTo v.ls.state v.ls.transit.isEmpty ∧
      (ls.state = .draining → ls.transit = v.ls.transit) ∧ (ls.state = .quiet → v.ls.state ≠ .quiet → ls.transit = []) := by
  have hidle : FaultedIdle (faultTaken code v) := ⟨rfl, rfl, hbus⟩
  obtain ⟨hkeeps, hhp⟩ := dropsQuietly_dropAll hidle v.hp.queue
  have hls : (stopIntervalTimers (dropAll v.hp.queue (faultTaken code v))).ls = v.ls := by
    change (dropAll v.hp.queue (faultTaken code v)).ls = v.ls
    rw [hkeeps.only]
    rfl
  have henters : enterFaulted code v = drainLoop (stopIntervalTimers (dropAll v.hp.queue (faultTaken code v))) := rfl
  obtain ⟨ls, rx, hdrain, hloop⟩ := drainLoop_of_faulted
    (s := stopIntervalTimers (dropAll v.hp.queue (faultTaken code v))) (congrArg HostPort.engine hhp)
  rw [hls] at hloop
  refine ⟨ls, rx, ?_, hloop⟩
  rw [henters, hdrain, settleBus_of_not_mayBegin]
  · change (dropAll v.hp.queue (faultTaken code v)).hp.queue.length ≤ _
    rw [hhp]
    exact Nat.zero_le _
  · exact congrArg (fun hp => mayBeginAccess hp.engine) hhp

end Sys2Proof.Machine

/-! ## Faults of ring accesses (R139, R102, R167, R191) -/

namespace Sys2Proof.Machine
set_option Elab.async false

/-! ### Accesses whose drop nobody answers -/

/-- Somebody answers for the access when it is dropped: its result is wanted, and it is not a payload read (R197). -/
def isAnswered (x : Access) : Bool := !x.discarded && !isPayload x.kind

theorem ownerOfDropped_of_not_answered {x : Access} (h : isAnswered x = false) (s : State) : ownerOfDropped x s = s := by
  unfold ownerOfDropped
  by_cases hd : x.discarded = true
  · rw [if_pos hd]
  · rw [if_neg hd]
    simp only [isAnswered, hd, Bool.not_false, Bool.true_and, Bool.not_eq_false'] at h
    cases hk : x.kind with
    | payload p => rfl
    | configuration => rfl
    | _ =>
      rw [hk] at h
      exact absurd h Bool.false_ne_true

theorem dropAll_eq_filter (xs : List Access) (s : State) : dropAll xs s = dropAll (xs.filter isAnswered) s := by
  induction xs generalizing s with
  | nil => rfl
  | cons x rest ih =>
    rw [dropAll_cons, ih]
    by_cases hx : isAnswered x = true
    · rw [List.filter_cons_of_pos hx, dropAll_cons]
    · rw [List.filter_cons_of_neg hx, ownerOfDropped_of_not_answered (Bool.eq_false_iff.mpr hx)]

/-- What becoming head asks for is a payload read (R75). -/
theorem becomeHead_reads (l : ListId) (s : State) :
    ∃ more, (becomeHead l s).hp.queue = s.hp.queue ++ more ∧ ∀ x ∈ more, isAnswered x = false := by
  have hnone : ∃ more, s.hp.queue = s.hp.queue ++ more ∧ ∀ x ∈ more, isAnswered x = false :=
    ⟨[], (List.append_nil _).symm, by simp⟩
  unfold becomeHead
  split
  · exact hnone
  · rename_i p e _
    split
    · obtain h | ⟨x, -, h | h⟩ := startPayload_cases p (armHeadTimer l e s) <;> rw [h]
      · rwa [armHeadTimer_hp]
      · rwa [putEntry_hp, armHeadTimer_hp]
      · refine ⟨[readAccess (.payload p) x.payloadAddress x.payloadLength], ?_, by simp [isAnswered, readAccess, isPayload]⟩
        simp only [requestAccess, putEntry_hp, armHeadTimer_hp]
    · rwa [modEntry_hp, armHeadTimer_hp]

/-- The end of a request takes the accesses that served it out of the list, and asks for nothing but the next payload read. -/
theorem queue_finishRequest {s : State} {p : PoolIx} {e : PoolEntry} (he : entry s p = some e) (status : Status) (length count : Nat)
    (use : SlotUse) :
    ∃ more, (finishRequest p status length count use s).hp.queue =
        s.hp.queue.filter (fun x => x.kind.servedEntry != some p) ++ more ∧ ∀ x ∈ more, isAnswered x = false := by
  simp only [finishRequest, he]
  obtain ⟨more, hqueue, hmore⟩ := becomeHead_reads (listFor e.kind e.address) (clearOutstanding (listFor e.kind e.address) p
    (leaveList (listFor e.kind e.address) p (putEntry p none (discardAccesses p
      (enterRecord (doneRecord s e status length count) use s)))))
  refine ⟨more, hqueue.trans (congrArg (· ++ more) ?_), hmore⟩
  rw [clearOutstanding_hp, leaveList_hp, putEntry_hp, discardAccesses, enterRecord_hp]

/-! ### The state a fault leaves -/

/-- The state of the fault of a ring access, ahead of the entry to FAULTED (R139, R102, R162). -/
def ringFaulted (k : AccessKind) (s : State) : State :=
  match k with
  | .requestRecord => { freeBus s with ri := { s.ri with reading := false } }
  | .descriptor => { freeBus s with ru := { s.ru with reading := false } }
  | .recordBody | .recordPhase => recordKept (freeBus s)
  | .configuration | .payload _ | .response _ | .report | .snapshot _ => freeBus s

/-- The kinds of ring access with the fault code of each (R191). -/
def RingFault (k : AccessKind) (code : FaultCode) : Prop :=
  k = .requestRecord ∧ code = .requestRead ∨ k = .descriptor ∧ code = .bufferRead ∨
    (k = .recordBody ∨ k = .recordPhase) ∧ code = .completionWrite

theorem accessFaulted_ringFault {k : AccessKind} {code : FaultCode} (h : RingFault k code) (s : State) :
    accessFaulted k (freeBus s) = enterFaulted code (ringFaulted k s) := by
  rcases h with ⟨rfl, rfl⟩ | ⟨rfl, rfl⟩ | ⟨rfl | rfl, rfl⟩ <;> rfl

theorem dropKeeps_ringFaulted (k : AccessKind) (s : State) : DropKeeps s (ringFaulted k s) := by
  have hfreed : DropKeeps s (freeBus s) := ⟨rfl, rfl, fun _ => rfl, fun _ h _ => h⟩
  cases k with
  | requestRecord => exact ⟨rfl, rfl, fun _ => rfl, fun _ h _ => h⟩
  | descriptor => exact ⟨rfl, rfl, fun _ => rfl, fun _ h _ => h⟩
  | recordBody => exact hfreed.trans (dropKeeps_recordKept _)
  | recordPhase => exact hfreed.trans (dropKeeps_recordKept _)
  | _ => exact hfreed

theorem bus_ringFaulted (k : AccessKind) (s : State) : (ringFaulted k s).hp.bus = none := by
  have hkept : (recordKept (freeBus s)).hp.bus = none := by
    refine Option.eq_none_iff_forall_ne_some.mpr fun b hb => ?_
    obtain ⟨b', hb', -⟩ := (works_recordKept (freeBus s)).hostSideKept.bus b hb
    exact absurd hb' nofun
  cases k with
  | recordBody => exact hkept
  | recordPhase => exact hkept
  | _ => rfl

/-- The owners of the dropped accesses have acted after the fault of a ring access of kind `k` (R197). -/
def allDropped (k : AccessKind) (code : FaultCode) (s : State) : State :=
  dropAll (ringFaulted k s).hp.queue (faultTaken code (ringFaulted k s))

theorem faultedIdle_faultTaken {v : State} (h : v.hp.bus = none) (code : FaultCode) : FaultedIdle (faultTaken code v) := ⟨rfl, rfl, h⟩

theorem allDropped_hp (k : AccessKind) (code : FaultCode) (s : State) :
    (allDropped k code s).hp = { s.hp with engine := .faulted, faultCode := code, bus := none, queue := [] } := by
  have hv := (dropKeeps_ringFaulted k s).only
  have hbus := bus_ringFaulted k s
  have hhp := (dropsQuietly_dropAll (faultedIdle_faultTaken hbus code) (ringFaulted k s).hp.queue).2
  rw [allDropped, hhp, faultTaken]
  rw [hbus] at hv
  rw [hv]

/-- All that the owners change after the fault of a ring access. -/
theorem allDropped_only {k : AccessKind} {code : FaultCode} {s u : State} (hall : allDropped k code s = u) :
    u = { s with
      hp := u.hp
      ri := { s.ri with reading := u.ri.reading }
      rp := u.rp
      st := u.st
      sc := { s.sc with headTimers := u.sc.headTimers }
      ru := { s.ru with reading := u.ru.reading, reports := u.ru.reports, writing := u.ru.writing, decision := u.ru.decision }
      cu := { s.cu with queue := u.cu.queue, reserved := u.cu.reserved, write := u.cu.write, heldRaises := u.cu.heldRaises
                        callAnswer := u.cu.callAnswer, pendingCauses := withEngineCause s.cu.pendingCauses } } := by
  have hv := (dropKeeps_ringFaulted k s).only
  have hu : DropKeeps (faultTaken code (ringFaulted k s)) (allDropped k code s) :=
    (dropsQuietly_dropAll (faultedIdle_faultTaken (bus_ringFaulted k s) code) (ringFaulted k s).hp.queue).1
  rw [hall] at hu
  have honly := hu.only
  have hhp := congrArg State.hp honly
  dsimp only at hhp
  rw [← hhp] at honly
  conv_lhs => rw [honly]
  unfold faultTaken
  rw [hv]

theorem records_allDropped (k : AccessKind) (code : FaultCode) (s : State) {r : CompletionRecord} (hr : r ∈ s.cu.queue)
    (hn : isNotice r = false) : r ∈ (allDropped k code s).cu.queue :=
  (dropsQuietly_dropAll (faultedIdle_faultTaken (bus_ringFaulted k s) code) _).1.records r
    ((dropKeeps_ringFaulted k s).records r hr hn) hn

theorem loopMap_allDropped (k : AccessKind) (code : FaultCode) (s : State) : (allDropped k code s).st.loopMap = s.st.loopMap :=
  (dropsQuietly_dropAll (faultedIdle_faultTaken (bus_ringFaulted k s) code) _).1.loopMap.trans (dropKeeps_ringFaulted k s).loopMap

/-- The step in which a ring access faults: the owners have acted, the interval timers stop, and the loop drains (R191). -/
theorem exec_ringFault {s : State} {k : AccessKind} {code : FaultCode} (hbus : OnBus s k) (hk : RingFault k code) :
    ∃ ls rx, exec (faultCommand k) s = .next { stopIntervalTimers (allDropped k code s) with ls := ls, rx := rx } ∧
      ls.state = drainedTo s.ls.state s.ls.transit.isEmpty ∧
      (ls.state = .draining → ls.transit = s.ls.transit) ∧ (ls.state = .quiet → s.ls.state ≠ .quiet → ls.transit = []) := by
  obtain ⟨ls, rx, hsettled, hloop⟩ := settleBus_enterFaulted (n := s.hp.queue.length) (bus_ringFaulted k s) code
  have hls : (ringFaulted k s).ls = s.ls := by rw [(dropKeeps_ringFaulted k s).only]
  rw [hls] at hloop
  refine ⟨ls, rx, ?_, hloop⟩
  rw [exec_faultCommand_of_onBus hbus, accessFaulted_ringFault hk, hsettled]
  rfl

/-! ### A record write that faults (R162, R167) -/

theorem ringFaulted_of_recordWrite {k : AccessKind} (hk : k = .recordBody ∨ k = .recordPhase) (s : State) :
    ringFaulted k s = answerHeldCallNow (raisesLetIn (freeBus s)) := by
  rw [← recordKept_eq]
  rcases hk with rfl | rfl <;> rfl

/-- With nothing answered for in the list, the owners leave the state as the fault left it. -/
theorem allDropped_of_none {k : AccessKind} {code : FaultCode} {s : State}
    (h : ∀ x ∈ (ringFaulted k s).hp.queue, isAnswered x = false) : allDropped k code s = faultTaken code (ringFaulted k s) := by
  rw [allDropped, dropAll_eq_filter, List.filter_eq_nil_iff.mpr fun x hx => by rw [h x hx]; exact Bool.false_ne_true]
  rfl

/-- With no CALL-NOW behind it, a record write that faults lets the held raises in (R162). -/
theorem allDropped_recordWrite {k : AccessKind} (hk : k = .recordBody ∨ k = .recordPhase) {s : State} (code : FaultCode)
    (hanswer : s.cu.callAnswer = none) (hqueue : s.hp.queue = []) :
    allDropped k code s = faultTaken code (raisesLetIn (freeBus s)) := by
  have hfault : ringFaulted k s = raisesLetIn (freeBus s) := by
    rw [ringFaulted_of_recordWrite hk, answerHeldCallNow_of_none (by exact hanswer)]
  rw [allDropped_of_none, hfault]
  rw [hfault]
  intro x hx
  have hx' : x ∈ s.hp.queue := hx
  rw [hqueue] at hx'
  exact absurd hx' List.not_mem_nil

/-- The state at the end of a record write that faulted, ahead of the CALL-NOW it held back (R123). -/
def raisesLetInForCallNow (s : State) : State := { raisesLetIn s with cu := { (raisesLetIn s).cu with callAnswer := none } }

theorem ringFaulted_of_callNow {k : AccessKind} (hk : k = .recordBody ∨ k = .recordPhase) {s : State} {n : Nat} {p : PoolIx}
    {q : PoolEntry} (hanswer : s.cu.callAnswer = some n) (hhead : IsHead s .control p q) (hkind : q.kind = .callNow) :
    ringFaulted k s = finishRequest p .ok 0 n .useReserved (raisesLetInForCallNow (freeBus s)) := by
  rw [ringFaulted_of_recordWrite hk, answerHeldCallNow_of_head (by exact hanswer) (by exact hhead) hkind]
  rfl

end Sys2Proof.Machine

section
set_option Elab.async false
open Sys2Proof.Machine

/-- Settles O31: the owners of the dropped accesses leave the rings, the loop and the held record alone (`DropKeeps`). -/
theorem ringFaultsEnterFaulted : Obligations.RingFaultsEnterFaulted := by
  unfold Obligations.RingFaultsEnterFaulted
  intro s k code hbus hk
  obtain ⟨ls, rx, hexec, hstate, hdraining, hquiet⟩ := exec_ringFault hbus hk
  have honly := allDropped_only (k := k) (code := code) (s := s) rfl
  refine ⟨_, hexec, allDropped_hp k code s, hstate, hdraining, hquiet, rfl, rfl, ?_⟩
  change (allDropped k code s).sc.sweepDue = _ ∧ (allDropped k code s).sc.callDue = _ ∧ (allDropped k code s).sc.cursor = _ ∧
    (allDropped k code s).sc.turns = _ ∧ _
  refine ⟨?_, ?_, ?_, ?_, ?_, ?_, ?_, ?_, ?_, ?_, ?_, ?_, ?_, ?_, ?_, fun r hr hn => records_allDropped k code s hr hn,
    fun hwrite hanswer hqueue => ?_, fun n p q hwrite hanswer hqueue hhead hkind => ?_, loopMap_allDropped k code s, ?_, ?_⟩
  case refine_16 =>
    have hall := allDropped_recordWrite hwrite code hanswer hqueue
    exact ⟨congrArg (fun u : Sys2Proof.Machine.State => u.cu.queue) hall, congrArg (fun u : Sys2Proof.Machine.State => u.cu.heldRaises) hall,
      congrArg (fun u : Sys2Proof.Machine.State => u.cu.write) hall⟩
  case refine_17 =>
    have hfault := ringFaulted_of_callNow hwrite hanswer hhead hkind
    have he : entry (raisesLetInForCallNow (freeBus s)) p = some q := hhead.2
    have hended := finishRequest_endedReserved he .ok 0 n
    have hlist : listFor q.kind q.address = .control := by rw [hkind]; rfl
    obtain ⟨more, hmore, hsilent⟩ := queue_finishRequest he .ok 0 n .useReserved
    rw [← hfault] at hended hmore
    have hall : allDropped k code s = faultTaken code (ringFaulted k s) := by
      refine allDropped_of_none fun x hx => ?_
      rw [hmore, show (raisesLetInForCallNow (freeBus s)).hp.queue = [] from hqueue] at hx
      exact hsilent x (by simpa using hx)
    have hcu := hended.cu
    rw [doneRecord_eq_controlRecord hlist (by rw [hkind]; exact nofun)] at hcu
    change (allDropped k code s).cu.queue = _ ∧ (allDropped k code s).cu.heldRaises = [] ∧ (allDropped k code s).cu.callAnswer = none ∧
      (allDropped k code s).cu.write = none ∧ entry (allDropped k code s) p = none
    rw [hall, faultTaken, hcu]
    exact ⟨rfl, rfl, rfl, rfl, hended.gone⟩
  case refine_19 =>
    unfold OutsideKept stopIntervalTimers
    rw [honly]
    exact ⟨rfl, rfl, rfl, rfl⟩
  all_goals conv_lhs => rw [honly]
  all_goals rfl
end

/-! ## The owners of dropped accesses (R197) -/

namespace Sys2Proof.Machine
set_option Elab.async false

/-- The result of the access, of kind `k`, is wanted. -/
def isWanted (k : AccessKind) (x : Access) : Bool := x.kind == k && !x.discarded

/-- The access is a record write whose result is wanted. -/
def isWantedWrite (x : Access) : Bool := isRecordWrite x.kind && !x.discarded

/-- The request that ends when access `x` is dropped (R86, R113, R123, R132). -/
def endsWith (s : State) (x : Access) : Option PoolIx :=
  if x.discarded then none
  else match x.kind with
    | .response p | .snapshot p => some p
    | .report => if s.ru.decision.isSome then (listOf s .control).head? else none
    | .recordBody | .recordPhase => if s.cu.callAnswer.isSome then (listOf s .control).head? else none
    | .configuration | .requestRecord | .descriptor | .payload _ => none

/-- Access `x` was dropped and its owner told, between `s` and `u`. -/
structure Dropped (s u : State) (x : Access) : Prop where
  states : ∀ a, (station u a).state = (station s a).state
  queue : u.cu.queue = queueAfterDropped s s.cu.queue x
  reserved : u.cu.reserved = s.cu.reserved - (droppedRecords s x).length
  freed : ∀ p, endsWith s x = some p → entry u p = none
  others : ∀ q, endsWith s x ≠ some q → SameRequestIn (entry s q) (entry u q)
  head : ∀ q, endsWith s x ≠ some q → (listOf s .control).head? = some q → (listOf u .control).head? = some q
  recordRead : u.ri.reading = (s.ri.reading && !isWanted .requestRecord x)
  ru : u.ru = { s.ru with
    reading := s.ru.reading && !isWanted .descriptor x
    reports := if isWanted .report x then [] else s.ru.reports
    writing := s.ru.writing && !isWanted .report x
    decision := if isWanted .report x then none else s.ru.decision }
  ended : isWantedWrite x = true → u.cu.write = none ∧ u.cu.heldRaises = [] ∧ u.cu.callAnswer = none
  held : isWantedWrite x = false →
    u.cu.write = s.cu.write ∧ u.cu.heldRaises = s.cu.heldRaises ∧ u.cu.callAnswer = s.cu.callAnswer

/-- An access whose owner only notes that a ring read is no longer under way, or does nothing. -/
theorem Dropped.of_quiet {s u : State} {x : Access} (hends : endsWith s x = none) (hrecords : droppedRecords s x = [])
    (hwrite : isWantedWrite x = false) (hreport : isWanted .report x = false) (hrp : u.rp = s.rp) (hst : u.st = s.st)
    (hcu : u.cu = { s.cu with pendingCauses := u.cu.pendingCauses })
    (hri : u.ri.reading = (s.ri.reading && !isWanted .requestRecord x))
    (hru : u.ru = { s.ru with reading := u.ru.reading }) (hdescriptor : u.ru.reading = (s.ru.reading && !isWanted .descriptor x)) :
    Dropped s u x where
  states a := by rw [station_congr hst]
  queue := by
    have hkept : (isRecordWrite x.kind && !x.discarded) = false := hwrite
    rw [hcu, queueAfterDropped, hkept, hrecords]
    simp
  reserved := by rw [hcu, hrecords]; rfl
  freed p hp := by rw [hends] at hp; exact absurd hp nofun
  others q _ := by rw [entry_congr hrp]; exact .refl _
  head q _ hq := by rw [listOf_congr hrp, hq]
  recordRead := hri
  ru := by rw [hru, hdescriptor, hreport]; simp
  ended h := by rw [hwrite] at h; exact absurd h Bool.false_ne_true
  held _ := by rw [hcu]; exact ⟨rfl, rfl, rfl⟩

/-- An access whose owner ends a request with one record (R86, R132). -/
theorem Dropped.of_ended {s u : State} {x : Access} {p : PoolIx} {r : CompletionRecord} (h : EndedReserved s u p r)
    (hends : endsWith s x = some p) (hrecords : droppedRecords s x = [r]) (hwrite : isWantedWrite x = false)
    (hreport : isWanted .report x = false) (hrequest : isWanted .requestRecord x = false)
    (hdescriptor : isWanted .descriptor x = false) : Dropped s u x where
  states := h.keeps.states
  queue := by
    have hkept : (isRecordWrite x.kind && !x.discarded) = false := hwrite
    rw [h.cu, queueAfterDropped, hkept, hrecords]
    rfl
  reserved := by rw [h.cu, hrecords]; rfl
  freed q hq := by
    rw [hends] at hq
    rw [← Option.some.inj hq]
    exact h.gone
  others q hq := h.others q fun heq => hq (by rw [hends, heq])
  head q hq hhead := h.heads _ q (fun heq => hq (by rw [hends, heq])) hhead
  recordRead := by rw [h.ri, hrequest]; simp
  ru := by rw [h.ru, hreport, hdescriptor]; simp
  ended hw := by rw [hwrite] at hw; exact absurd hw Bool.false_ne_true
  held _ := by rw [h.cu]; exact ⟨rfl, rfl, rfl⟩

theorem controlHeadRecord_of_isHead {s : State} {p : PoolIx} {q : PoolEntry} {kind : RequestKind} (h : IsHead s .control p q)
    (hkind : q.kind = kind) (status : Status) (count : Nat) :
    controlHeadRecord s kind status count = some (controlRecord q status 0 count) := by
  obtain ⟨hhead, he⟩ := h
  simp only [controlHeadRecord, hhead, Option.bind_some, he, hkind, if_true]

/-- A record write that is dropped, or faulted, lets the held raises in, and behind them the CALL-NOW's record (R162, R123). -/
theorem dropped_recordKept {s : State} {x : Access} (hd : x.discarded = false) (hk : x.kind = .recordBody ∨ x.kind = .recordPhase)
    (hstands : OwnerStands s x) : Dropped s (recordKept s) x := by
  have hwrite : isRecordWrite x.kind = true := by rcases hk with h | h <;> rw [h] <;> rfl
  have hwanted (k : AccessKind) (hne : isRecordWrite k = false) : isWanted k x = false := by
    have : x.kind ≠ k := fun h => by rw [h, hne] at hwrite; exact Bool.false_ne_true hwrite
    simp [isWanted, this]
  have hends : endsWith s x = if s.cu.callAnswer.isSome then (listOf s .control).head? else none := by
    rcases hk with h | h <;> simp only [endsWith, hd, h] <;> rfl
  have hrecords : droppedRecords s x = (s.cu.callAnswer.bind (controlHeadRecord s .callNow .ok)).toList := by
    rcases hk with h | h <;> simp only [droppedRecords, hd, h] <;> rfl
  have hqueue : queueAfterDropped s s.cu.queue x = queueAfterRaises s.cu.heldRaises s.cu.queue ++ droppedRecords s x := by
    simp only [queueAfterDropped, hwrite, hd, Bool.not_false, Bool.and_self, if_true]
  have hnotWritten : isWantedWrite x ≠ false := by simp [isWantedWrite, hwrite, hd]
  have howner : s.cu.callAnswer ≠ none → ∃ p e, IsHead s .control p e ∧ e.kind = .callNow := by
    rcases hk with h | h <;> simpa only [OwnerStands, h] using hstands
  have hreads := hwanted .requestRecord rfl
  have hdescriptor := hwanted .descriptor rfl
  have hreport := hwanted .report rfl
  rw [recordKept_eq]
  cases hanswer : s.cu.callAnswer with
  | none =>
    rw [hanswer] at hends hrecords
    rw [answerHeldCallNow_of_none (by exact hanswer)]
    refine ⟨fun _ => rfl, ?_, ?_, fun p hp => ?_, fun q _ => .refl _, fun q _ hq => hq, ?_, ?_, fun _ => ⟨rfl, rfl, hanswer⟩,
      fun h => absurd h hnotWritten⟩
    · rw [hqueue, hrecords]
      exact (List.append_nil _).symm
    · rw [hrecords]
      rfl
    · rw [hends] at hp
      exact absurd hp nofun
    · rw [hreads]
      simp [raisesLetIn]
    · rw [hreport, hdescriptor]
      simp [raisesLetIn]
  | some n =>
    obtain ⟨p, q, hhead, hkind⟩ := howner (by rw [hanswer]; exact nofun)
    have hlist : listFor q.kind q.address = .control := by rw [hkind]; rfl
    have hended := finishRequest_endedReserved (s := raisesLetInForCallNow s) (by exact hhead.2) .ok 0 n
    rw [doneRecord_eq_controlRecord hlist (by rw [hkind]; exact nofun)] at hended
    have hrecord : droppedRecords s x = [controlRecord q .ok 0 n] := by
      rw [hrecords, hanswer, Option.bind_some, controlHeadRecord_of_isHead hhead hkind]
      rfl
    have hp : endsWith s x = some p := by rw [hends, hanswer]; exact hhead.1
    have hfinish : answerHeldCallNow (raisesLetIn s) = finishRequest p .ok 0 n .useReserved (raisesLetInForCallNow s) :=
      answerHeldCallNow_of_head (by exact hanswer) (by exact hhead) hkind
    rw [hfinish]
    refine ⟨hended.keeps.states, ?_, ?_, fun p' hp' => ?_, fun q' hq' => hended.others q' fun heq => hq' (by rw [hp, heq]),
      fun q' hq' hh => hended.heads .control q' (fun heq => hq' (by rw [hp, heq])) hh, ?_, ?_, fun _ => ?_, fun h => absurd h hnotWritten⟩
    · rw [hended.cu, hqueue, hrecord]
      rfl
    · rw [hended.cu, hrecord]
      rfl
    · rw [hp] at hp'
      rw [← Option.some.inj hp']
      exact hended.gone
    · rw [hended.ri, hreads]
      simp [raisesLetInForCallNow, raisesLetIn]
    · rw [hended.ru, hreport, hdescriptor]
      simp [raisesLetInForCallNow, raisesLetIn]
    · rw [hended.cu]
      exact ⟨rfl, rfl, rfl⟩

theorem recordsOf_faulted (s : State) (reports : List PendingReport) :
    recordsOf s (reports.map (fun r => (r, faultedStatus r))) = reports.map (fun r => reportDone s r (faultedStatus r)) := by
  rw [recordsOf, List.map_map]
  rfl

/-- The report write that is dropped completes every pending report, and behind the last it waited for the SWEEP-NOW (R112, R113). -/
theorem dropped_pumpReports {s : State} {x : Access} (hfaulted : s.hp.engine = .faulted) (hd : x.discarded = false)
    (hk : x.kind = .report) (hstands : OwnerStands s x) : Dropped s (pumpReports s.ru.reports s) x := by
  have hends : endsWith s x = if s.ru.decision.isSome then (listOf s .control).head? else none := by
    simp only [endsWith, hd, hk]
    rfl
  have hrecords : droppedRecords s x = droppedReports s := by
    simp only [droppedRecords, hd, hk]
    rfl
  have hqueue : queueAfterDropped s s.cu.queue x = s.cu.queue ++ droppedReports s := by
    simp only [queueAfterDropped, hk, hrecords]
    rfl
  have hkept : isWantedWrite x = false := by simp only [isWantedWrite, hk]; rfl
  have hreads : isWanted .requestRecord x = false := by simp only [isWanted, hk]; rfl
  have hdescriptor : isWanted .descriptor x = false := by simp only [isWanted, hk]; rfl
  have hreport : isWanted .report x = true := by simp only [isWanted, hk, hd]; rfl
  have howner : ∀ d, s.ru.decision = some d → 1 ≤ d.after ∧ d.after ≤ s.ru.reports.length ∧
      ∃ p e, IsHead s .control p e ∧ e.kind = .sweepNow := by simpa only [OwnerStands, hk] using hstands
  rw [pumpReports_of_faulted hfaulted]
  cases hdecision : s.ru.decision with
  | none =>
    rw [enterReports_of_none hdecision, recordsOf_faulted]
    have hall : droppedReports s = s.ru.reports.map (fun r => reportDone s r (faultedStatus r)) := by
      simp only [droppedReports, hdecision]
    rw [hdecision] at hends
    refine ⟨fun _ => rfl, ?_, ?_, fun p hp => ?_, fun q _ => .refl _, fun q _ hq => hq, ?_, ?_, fun h => ?_, fun _ => ⟨rfl, rfl, rfl⟩⟩
    · rw [hqueue, hall]
      rfl
    · rw [hrecords, hall]
      rfl
    · rw [hends] at hp
      exact absurd hp nofun
    · rw [hreads]
      simp [reportsEntered]
    · rw [hreport, hdescriptor]
      simp [reportsEntered]
    · rw [hkept] at h
      exact absurd h Bool.false_ne_true
  | some d =>
    obtain ⟨hpositive, hafter, p, q, hhead, hkind⟩ := howner d hdecision
    generalize hxs : s.ru.reports.map (fun r => (r, faultedStatus r)) = xs
    have hlength : xs.length = s.ru.reports.length := by rw [← hxs, List.length_map]
    have hlist : listFor q.kind q.address = .control := by rw [hkind]; rfl
    have hended := finishRequest_endedReserved (s := reportsEntered ((recordsOf s xs).take d.after) none s) (by exact hhead.2)
      d.status 0 d.count
    rw [doneRecord_eq_controlRecord hlist (by rw [hkind]; exact nofun)] at hended
    have hall : droppedReports s =
        (recordsOf s xs).take d.after ++ [controlRecord q d.status 0 d.count] ++ (recordsOf s xs).drop d.after := by
      simp only [droppedReports, hdecision, controlHeadRecord_of_isHead hhead hkind, ← hxs, recordsOf_faulted]
      rfl
    have hp : endsWith s x = some p := by rw [hends, hdecision]; exact hhead.1
    rw [enterReports_of_decided hdecision xs hpositive (by omega), finishSweepNow_of_isHead (by exact hhead) hkind]
    generalize finishRequest p d.status 0 d.count .useReserved (reportsEntered ((recordsOf s xs).take d.after) none s) = w at hended ⊢
    refine ⟨hended.keeps.states, ?_, ?_, fun p' hp' => ?_, fun q' hq' => hended.others q' fun heq => hq' (by rw [hp, heq]),
      fun q' hq' hh => hended.heads .control q' (fun heq => hq' (by rw [hp, heq])) hh, ?_, ?_, fun h => ?_, fun _ => ?_⟩
    · rw [hqueue, hall]
      simp only [reportsEntered, hended.cu, List.append_assoc]
    · rw [hrecords, hall]
      simp only [reportsEntered, hended.cu, List.length_append, List.length_singleton, Nat.sub_sub]
    · rw [hp] at hp'
      rw [← Option.some.inj hp']
      exact hended.gone
    · rw [hreads]
      simp [reportsEntered, hended.ri]
    · rw [hreport, hdescriptor]
      simp [reportsEntered, hended.ru]
    · rw [hkept] at h
      exact absurd h Bool.false_ne_true
    · simp only [reportsEntered, hended.cu]
      exact ⟨trivial, trivial, trivial⟩

/-- Each owner does what is said of its access (R197). -/
theorem dropped_ownerOfDropped {s : State} {x : Access} (hfaulted : s.hp.engine = .faulted)
    (hstands : x.discarded = false → OwnerStands s x) : Dropped s (ownerOfDropped x s) x := by
  cases hd : x.discarded with
  | true =>
    have hsame : ownerOfDropped x s = s := by simp only [ownerOfDropped, hd, if_true]
    rw [hsame]
    refine .of_quiet ?_ ?_ ?_ ?_ rfl rfl rfl ?_ rfl ?_ <;> simp [endsWith, droppedRecords, isWantedWrite, isWanted, hd]
  | false =>
    have hstands := hstands hd
    cases hk : x.kind with
    | response p =>
      obtain ⟨e, n, a, he, hn, ha⟩ : ∃ e n a, entry s p = some e ∧ e.response = some n ∧ requestStation e = some a := by
        simpa only [OwnerStands, hk] using hstands
      have howner : ownerOfDropped x s = finishRequest p .hostFault n 0 .useReserved s := by
        simp only [ownerOfDropped, hd, hk]
        exact responseLost_eq he hn
      rw [howner]
      refine .of_ended (finishRequest_endedReserved he .hostFault n 0) ?_ ?_ ?_ ?_ ?_ ?_
      · simp [endsWith, hd, hk]
      · simp only [droppedRecords, hd, hk, he, Option.bind_some, hn, Option.map_some]
        rfl
      all_goals simp [isWantedWrite, isWanted, isRecordWrite, hk]
    | snapshot p =>
      obtain ⟨e, he, hkind⟩ : ∃ e, entry s p = some e ∧ e.kind = .query := by simpa only [OwnerStands, hk] using hstands
      have howner : ownerOfDropped x s = finishRequest p .hostFault snapshotSize 0 .useReserved s := by
        simp only [ownerOfDropped, hd, hk]
        rfl
      have hended := finishRequest_endedReserved he .hostFault snapshotSize 0
      rw [doneRecord_eq_controlRecord (by rw [hkind]; rfl) (by rw [hkind]; exact nofun)] at hended
      rw [howner]
      refine .of_ended hended ?_ ?_ ?_ ?_ ?_ ?_
      · simp [endsWith, hd, hk]
      · simp only [droppedRecords, hd, hk, he]
        rfl
      all_goals simp [isWantedWrite, isWanted, isRecordWrite, hk]
    | report =>
      have howner : ownerOfDropped x s = pumpReports s.ru.reports s := by
        simp only [ownerOfDropped, hd, hk]
        rfl
      rw [howner]
      exact dropped_pumpReports hfaulted hd hk hstands
    | recordBody =>
      have howner : ownerOfDropped x s = recordKept s := by
        simp only [ownerOfDropped, hd, hk]
        rfl
      rw [howner]
      exact dropped_recordKept hd (.inl hk) hstands
    | recordPhase =>
      have howner : ownerOfDropped x s = recordKept s := by
        simp only [ownerOfDropped, hd, hk]
        rfl
      rw [howner]
      exact dropped_recordKept hd (.inr hk) hstands
    | _ =>
      refine .of_quiet ?_ ?_ ?_ ?_ ?_ ?_ ?_ ?_ ?_ ?_ <;>
        simp [ownerOfDropped, endsWith, droppedRecords, isWantedWrite, isWanted, isRecordWrite, hd, hk]

end Sys2Proof.Machine

/-! ### The owners do not disturb one another -/

namespace Sys2Proof.Machine
set_option Elab.async false

/-- Two accesses have different owners. -/
def OwnersApart (x y : Access) : Prop := x.kind ≠ y.kind ∧ ¬(isRecordWrite x.kind = true ∧ isRecordWrite y.kind = true)

/-- The request that ends with a dropped access is of a kind that tells the access's. -/
theorem owner_of_endsWith {s : State} {x : Access} {p : PoolIx} (h : endsWith s x = some p) (hstands : OwnerStands s x) :
    ∃ e, entry s p = some e ∧
      (x.kind = .response p ∧ (∃ a, requestStation e = some a) ∨ x.kind = .snapshot p ∧ e.kind = .query ∨
        x.kind = .report ∧ e.kind = .sweepNow ∨ isRecordWrite x.kind = true ∧ e.kind = .callNow) := by
  unfold endsWith at h
  split at h
  · exact absurd h nofun
  · unfold OwnerStands at hstands
    have hhead {b : Bool} (hb : (if b then (listOf s .control).head? else none) = some p) : b = true ∧ (listOf s .control).head? = some p := by
      cases b with
      | true => exact ⟨rfl, hb⟩
      | false => exact absurd hb nofun
    have hcallNow (hends : (if s.cu.callAnswer.isSome then (listOf s .control).head? else none) = some p)
        (howner : s.cu.callAnswer ≠ none → ∃ p e, IsHead s .control p e ∧ e.kind = .callNow) :
        ∃ e, entry s p = some e ∧ e.kind = .callNow := by
      obtain ⟨hsome, hfirst⟩ := hhead hends
      obtain ⟨p', e, ⟨hfirst', he⟩, hkind⟩ := howner (Option.ne_none_iff_isSome.mpr hsome)
      obtain rfl : p' = p := Option.some.inj (hfirst'.symm.trans hfirst)
      exact ⟨e, he, hkind⟩
    cases hk : x.kind with
    | response p' =>
      simp only [hk] at h hstands
      obtain rfl := Option.some.inj h
      obtain ⟨e, n, a, he, -, ha⟩ := hstands
      exact ⟨e, he, .inl ⟨rfl, a, ha⟩⟩
    | snapshot p' =>
      simp only [hk] at h hstands
      obtain rfl := Option.some.inj h
      obtain ⟨e, he, hkind⟩ := hstands
      exact ⟨e, he, .inr (.inl ⟨rfl, hkind⟩)⟩
    | report =>
      simp only [hk] at h hstands
      obtain ⟨hsome, hfirst⟩ := hhead h
      obtain ⟨d, hd⟩ := Option.isSome_iff_exists.mp hsome
      obtain ⟨-, -, p', e, ⟨hfirst', he⟩, hkind⟩ := hstands d hd
      obtain rfl : p' = p := Option.some.inj (hfirst'.symm.trans hfirst)
      exact ⟨e, he, .inr (.inr (.inl ⟨rfl, hkind⟩))⟩
    | recordBody =>
      simp only [hk] at h hstands
      obtain ⟨e, he, hkind⟩ := hcallNow h hstands
      exact ⟨e, he, .inr (.inr (.inr ⟨rfl, hkind⟩))⟩
    | recordPhase =>
      simp only [hk] at h hstands
      obtain ⟨e, he, hkind⟩ := hcallNow h hstands
      exact ⟨e, he, .inr (.inr (.inr ⟨rfl, hkind⟩))⟩
    | _ =>
      simp only [hk] at h
      exact absurd h nofun

theorem requestStation_of_controlKind {e : PoolEntry} (h : e.kind = .query ∨ e.kind = .sweepNow ∨ e.kind = .callNow) :
    requestStation e = none := by
  rw [requestStation_eq_none]
  rcases h with h | h | h <;> rw [h] <;> rfl

/-- Accesses with different owners end different requests. -/
theorem endsWith_apart {s : State} {x y : Access} (hapart : OwnersApart x y) (hx : OwnerStands s x) (hy : OwnerStands s y) {p : PoolIx}
    (hends : endsWith s y = some p) : endsWith s x ≠ some p := by
  intro hends'
  obtain ⟨hkinds, hwrites⟩ := hapart
  obtain ⟨e, he, howner⟩ := owner_of_endsWith hends' hx
  obtain ⟨e', he', howner'⟩ := owner_of_endsWith hends hy
  obtain rfl : e = e' := Option.some.inj (he.symm.trans he')
  have hstation (a : Addr) (ha : requestStation e = some a)
      (hcontrol : e.kind = .query ∨ e.kind = .sweepNow ∨ e.kind = .callNow) : False := by
    rw [requestStation_of_controlKind hcontrol] at ha
    exact absurd ha nofun
  have hdiffer {k k' : RequestKind} (hk : e.kind = k) (hk' : e.kind = k') (hne : k ≠ k') : False := hne (hk.symm.trans hk')
  rcases howner with ⟨hx, a, ha⟩ | ⟨hx, hk⟩ | ⟨hx, hk⟩ | ⟨hx, hk⟩ <;>
    rcases howner' with ⟨hy, b, hb⟩ | ⟨hy, hk'⟩ | ⟨hy, hk'⟩ | ⟨hy, hk'⟩
  · exact hkinds (hx.trans hy.symm)
  · exact hstation a ha (.inl hk')
  · exact hstation a ha (.inr (.inl hk'))
  · exact hstation a ha (.inr (.inr hk'))
  · exact hstation b hb (.inl hk)
  · exact hkinds (hx.trans hy.symm)
  · exact hdiffer hk hk' nofun
  · exact hdiffer hk hk' nofun
  · exact hstation b hb (.inr (.inl hk))
  · exact hdiffer hk hk' nofun
  · exact hkinds (hx.trans hy.symm)
  · exact hdiffer hk hk' nofun
  · exact hstation b hb (.inr (.inr hk))
  · exact hdiffer hk hk' nofun
  · exact hdiffer hk hk' nofun
  · exact hwrites ⟨hx, hy⟩

theorem isWanted_of_ne {k : AccessKind} {x : Access} (h : x.kind ≠ k) : isWanted k x = false := by simp [isWanted, h]

/-- The owner of access `y` finds after the drop of `x` what it found before it. -/
structure FoundAgain (s u : State) (y : Access) : Prop where
  stands : OwnerStands u y
  records : droppedRecords u y = droppedRecords s y
  ends : endsWith u y = endsWith s y
  raises : isRecordWrite y.kind = true → u.cu.heldRaises = s.cu.heldRaises

/-- A request that another drop did not end is found with the fields its record tells. -/
theorem SameRequestIn.found {o o' : Option PoolEntry} (h : SameRequestIn o o') {e : PoolEntry} (he : o = some e) :
    ∃ phase started, o' = some { e with phase := phase, readStarted := started } := by
  rcases h with ⟨hnone, -⟩ | ⟨x, phase, started, hx, hx'⟩
  · rw [hnone] at he
    exact absurd he nofun
  · obtain rfl := Option.some.inj (hx.symm.trans he)
    exact ⟨phase, started, hx'⟩

/-- The head of the control list that another drop did not end is found as head. -/
theorem Dropped.head_found {s u : State} {x : Access} (h : Dropped s u x) {p : PoolIx} {e : PoolEntry} (hhead : IsHead s .control p e)
    (hne : endsWith s x ≠ some p) : ∃ phase started, IsHead u .control p { e with phase := phase, readStarted := started } := by
  obtain ⟨phase, started, he⟩ := (h.others p hne).found hhead.2
  exact ⟨phase, started, h.head p hne hhead.1, he⟩

theorem Dropped.controlHeadRecord_found {s u : State} {x : Access} (h : Dropped s u x) {p : PoolIx} {e : PoolEntry} {kind : RequestKind}
    (hhead : IsHead s .control p e) (hkind : e.kind = kind) (hne : endsWith s x ≠ some p) (status : Status) (count : Nat) :
    controlHeadRecord u kind status count = controlHeadRecord s kind status count := by
  obtain ⟨phase, started, hnow⟩ := h.head_found hhead hne
  rw [controlHeadRecord_of_isHead hhead hkind, controlHeadRecord_of_isHead hnow hkind]
  rfl

theorem Dropped.foundAgain_response {s u : State} {x y : Access} (h : Dropped s u x) {p : PoolIx} (hk : y.kind = .response p)
    (hd : y.discarded = false) (hy : OwnerStands s y) (hkept : ∀ p, endsWith s y = some p → endsWith s x ≠ some p) :
    FoundAgain s u y := by
  have hends (v : State) : endsWith v y = some p := by simp [endsWith, hd, hk]
  obtain ⟨e, n, a, he, hn, ha⟩ : ∃ e n a, entry s p = some e ∧ e.response = some n ∧ requestStation e = some a := by
    simpa only [OwnerStands, hk] using hy
  obtain ⟨phase, started, he'⟩ := (h.others p (hkept p (hends s))).found he
  refine ⟨?_, ?_, (hends u).trans (hends s).symm, fun hw => by rw [hk] at hw; exact absurd hw Bool.false_ne_true⟩
  · simp only [OwnerStands, hk]
    exact ⟨_, n, a, he', hn, ha⟩
  · simp only [droppedRecords, hd, hk, he, he', Option.bind_some, hn, Option.map_some, unwrittenRecord, h.states]
    rfl

theorem Dropped.foundAgain_snapshot {s u : State} {x y : Access} (h : Dropped s u x) {p : PoolIx} (hk : y.kind = .snapshot p)
    (hd : y.discarded = false) (hy : OwnerStands s y) (hkept : ∀ p, endsWith s y = some p → endsWith s x ≠ some p) :
    FoundAgain s u y := by
  have hends (v : State) : endsWith v y = some p := by simp [endsWith, hd, hk]
  obtain ⟨e, he, hkind⟩ : ∃ e, entry s p = some e ∧ e.kind = .query := by simpa only [OwnerStands, hk] using hy
  obtain ⟨phase, started, he'⟩ := (h.others p (hkept p (hends s))).found he
  refine ⟨?_, ?_, (hends u).trans (hends s).symm, fun hw => by rw [hk] at hw; exact absurd hw Bool.false_ne_true⟩
  · simp only [OwnerStands, hk]
    exact ⟨_, he', hkind⟩
  · simp only [droppedRecords, hd, hk, he, he']
    rfl

theorem Dropped.foundAgain_report {s u : State} {x y : Access} (h : Dropped s u x) (hk : y.kind = .report) (hne : x.kind ≠ .report)
    (hd : y.discarded = false) (hy : OwnerStands s y) (hkept : ∀ p, endsWith s y = some p → endsWith s x ≠ some p) :
    FoundAgain s u y := by
  have hru := h.ru
  rw [isWanted_of_ne hne] at hru
  have hreports : u.ru.reports = s.ru.reports := by rw [hru]; rfl
  have hdecision : u.ru.decision = s.ru.decision := by rw [hru]; rfl
  have hends (v : State) : endsWith v y = if v.ru.decision.isSome then (listOf v .control).head? else none := by
    simp only [endsWith, hd, hk]
    rfl
  have howner : ∀ d, s.ru.decision = some d → 1 ≤ d.after ∧ d.after ≤ s.ru.reports.length ∧
      ∃ p e, IsHead s .control p e ∧ e.kind = .sweepNow := by simpa only [OwnerStands, hk] using hy
  have hrecords (v : State) : droppedRecords v y = droppedReports v := by
    simp only [droppedRecords, hd, hk]
    rfl
  have hdone (r : PendingReport) (status : Status) : reportDone u r status = reportDone s r status := by
    simp only [reportDone, h.states]
  cases hdec : s.ru.decision with
  | none =>
    refine ⟨?_, ?_, ?_, fun hw => by rw [hk] at hw; exact absurd hw Bool.false_ne_true⟩
    · simp only [OwnerStands, hk, hdecision, hdec]
      exact nofun
    · simp only [hrecords, droppedReports, hdecision, hdec, hreports, hdone]
    · rw [hends, hends, hdecision, hdec]
      rfl
  | some d =>
    obtain ⟨hpositive, hafter, p, e, hhead, hkind⟩ := howner d hdec
    have hp : endsWith s y = some p := by rw [hends, hdec]; exact hhead.1
    obtain ⟨phase, started, hnow⟩ := h.head_found hhead (hkept p hp)
    have hrecord := h.controlHeadRecord_found hhead hkind (hkept p hp) d.status d.count
    refine ⟨?_, ?_, ?_, fun hw => by rw [hk] at hw; exact absurd hw Bool.false_ne_true⟩
    · simp only [OwnerStands, hk]
      intro d' hd'
      rw [hdecision, hdec] at hd'
      obtain rfl := Option.some.inj hd'
      exact ⟨hpositive, hreports ▸ hafter, p, _, hnow, hkind⟩
    · simp only [hrecords, droppedReports, hdecision, hdec, hreports, hdone, hrecord]
    · rw [hp, hends, hdecision, hdec]
      exact hnow.1

theorem Dropped.foundAgain_recordWrite {s u : State} {x y : Access} (h : Dropped s u x)
    (hk : y.kind = .recordBody ∨ y.kind = .recordPhase) (hx : isWantedWrite x = false) (hd : y.discarded = false) (hy : OwnerStands s y)
    (hkept : ∀ p, endsWith s y = some p → endsWith s x ≠ some p) : FoundAgain s u y := by
  obtain ⟨-, hraises, hanswer⟩ := h.held hx
  have howner : s.cu.callAnswer ≠ none → ∃ p e, IsHead s .control p e ∧ e.kind = .callNow := by
    rcases hk with hk | hk <;> simpa only [OwnerStands, hk] using hy
  have hstands (hown : u.cu.callAnswer ≠ none → ∃ p e, IsHead u .control p e ∧ e.kind = .callNow) : OwnerStands u y := by
    rcases hk with hk | hk <;> simpa only [OwnerStands, hk] using hown
  have hends (v : State) : endsWith v y = if v.cu.callAnswer.isSome then (listOf v .control).head? else none := by
    rcases hk with hk | hk <;> simp only [endsWith, hd, hk] <;> rfl
  have hrecords (v : State) : droppedRecords v y = (v.cu.callAnswer.bind (controlHeadRecord v .callNow .ok)).toList := by
    rcases hk with hk | hk <;> simp only [droppedRecords, hd, hk] <;> rfl
  cases hans : s.cu.callAnswer with
  | none =>
    refine ⟨hstands fun hsome => absurd (hanswer.trans hans) hsome, ?_, ?_, fun _ => hraises⟩
    · rw [hrecords, hrecords, hanswer, hans]
      rfl
    · rw [hends, hends, hanswer, hans]
      rfl
  | some n =>
    obtain ⟨p, e, hhead, hkind⟩ := howner (by rw [hans]; exact nofun)
    have hp : endsWith s y = some p := by rw [hends, hans]; exact hhead.1
    obtain ⟨phase, started, hnow⟩ := h.head_found hhead (hkept p hp)
    refine ⟨hstands fun _ => ⟨p, _, hnow, hkind⟩, ?_, ?_, fun _ => hraises⟩
    · rw [hrecords, hrecords, hanswer, hans, Option.bind_some, Option.bind_some,
        h.controlHeadRecord_found hhead hkind (hkept p hp)]
    · rw [hp, hends, hanswer, hans]
      exact hnow.1

/-- The owner of an access finds after the drop of another what it found before. -/
theorem Dropped.foundAgain {s u : State} {x y : Access} (h : Dropped s u x) (hapart : OwnersApart x y)
    (hx : x.discarded = false → OwnerStands s x) (hd : y.discarded = false) (hy : OwnerStands s y) : FoundAgain s u y := by
  have hkept (p : PoolIx) (hends : endsWith s y = some p) : endsWith s x ≠ some p := by
    cases hdx : x.discarded with
    | true => simp [endsWith, hdx]
    | false => exact endsWith_apart hapart (hx hdx) hy hends
  obtain ⟨hkinds, hwrites⟩ := hapart
  have hnotWrite (hwrite : isRecordWrite y.kind = true) : isWantedWrite x = false := by
    rw [isWantedWrite, Bool.eq_false_iff.mpr fun hxw => hwrites ⟨hxw, hwrite⟩, Bool.false_and]
  cases hk : y.kind with
  | response p => exact h.foundAgain_response hk hd hy hkept
  | snapshot p => exact h.foundAgain_snapshot hk hd hy hkept
  | report => exact h.foundAgain_report hk (hk ▸ hkinds) hd hy hkept
  | recordBody => exact h.foundAgain_recordWrite (.inl hk) (hnotWrite (by rw [hk]; rfl)) hd hy hkept
  | recordPhase => exact h.foundAgain_recordWrite (.inr hk) (hnotWrite (by rw [hk]; rfl)) hd hy hkept
  | _ =>
    refine ⟨?_, ?_, ?_, fun hw => by rw [hk] at hw; exact absurd hw Bool.false_ne_true⟩
    · simp only [OwnerStands, hk]
    · simp [droppedRecords, hk]
    · simp [endsWith, hk]

/-- What the queue receives for an access does not depend on an earlier drop. -/
theorem Dropped.later_queue {s u : State} {x y : Access} (h : Dropped s u x) (hapart : OwnersApart x y)
    (hx : x.discarded = false → OwnerStands s x) (hy : y.discarded = false → OwnerStands s y) :
    droppedRecords u y = droppedRecords s y ∧ endsWith u y = endsWith s y ∧
      ∀ queue, queueAfterDropped u queue y = queueAfterDropped s queue y := by
  cases hd : y.discarded with
  | true => simp [droppedRecords, endsWith, queueAfterDropped, hd]
  | false =>
    have hfound := h.foundAgain hapart hx hd (hy hd)
    refine ⟨hfound.records, hfound.ends, fun queue => ?_⟩
    rw [queueAfterDropped, queueAfterDropped, hfound.records]
    cases hwrite : isRecordWrite y.kind with
    | true => rw [hfound.raises hwrite]
    | false => rfl

/-! ### All owners -/

/-- The owners of accesses `xs` have acted between `s` and `u`. -/
structure OwnersActed (s u : State) (xs : List Access) : Prop where
  queue : u.cu.queue = xs.foldl (queueAfterDropped s) s.cu.queue
  reserved : u.cu.reserved = s.cu.reserved - (xs.flatMap (droppedRecords s)).length
  freed : ∀ p, (entry s p = none ∨ ∃ x ∈ xs, endsWith s x = some p) → entry u p = none
  recordRead : u.ri.reading = (s.ri.reading && !xs.any (isWanted .requestRecord))
  descriptorRead : u.ru.reading = (s.ru.reading && !xs.any (isWanted .descriptor))
  reports : u.ru.reports = if xs.any (isWanted .report) then [] else s.ru.reports
  writing : u.ru.writing = (s.ru.writing && !xs.any (isWanted .report))
  ended : xs.any isWantedWrite = true ∨ s.cu.write = none ∧ s.cu.heldRaises = [] ∧ s.cu.callAnswer = none →
    u.cu.write = none ∧ u.cu.heldRaises = [] ∧ u.cu.callAnswer = none

theorem OwnersActed.nil (s : State) : OwnersActed s s [] where
  queue := rfl
  reserved := rfl
  freed p h := h.elim id fun ⟨x, hx, _⟩ => absurd hx List.not_mem_nil
  recordRead := by simp
  descriptorRead := by simp
  reports := rfl
  writing := by simp
  ended h := h.elim (fun h => absurd h Bool.false_ne_true) id

theorem foldl_queue_congr {f g : List CompletionRecord → Access → List CompletionRecord} {xs : List Access}
    (h : ∀ x ∈ xs, ∀ queue, f queue x = g queue x) (queue : List CompletionRecord) : xs.foldl f queue = xs.foldl g queue := by
  induction xs generalizing queue with
  | nil => rfl
  | cons x rest ih =>
    rw [List.foldl_cons, List.foldl_cons, h x List.mem_cons_self, ih fun y hy => h y (List.mem_cons_of_mem x hy)]

theorem OwnersActed.cons {s v u : State} {x : Access} {xs : List Access} (h : Dropped s v x) (hrest : OwnersActed v u xs)
    (hapart : ∀ y ∈ xs, OwnersApart x y) (hx : x.discarded = false → OwnerStands s x)
    (hxs : ∀ y ∈ xs, y.discarded = false → OwnerStands s y) : OwnersActed s u (x :: xs) := by
  have hlater (y : Access) (hy : y ∈ xs) := h.later_queue (hapart y hy) hx (hxs y hy)
  have hrecords : xs.flatMap (droppedRecords v) = xs.flatMap (droppedRecords s) := List.flatMap_congr fun y hy => (hlater y hy).1
  have hru := h.ru
  refine ⟨?_, ?_, fun p hp => ?_, ?_, ?_, ?_, ?_, fun hended => ?_⟩
  · rw [hrest.queue, h.queue, List.foldl_cons]
    exact foldl_queue_congr (fun y hy => (hlater y hy).2.2) _
  · rw [hrest.reserved, h.reserved, hrecords, List.flatMap_cons, List.length_append, Nat.sub_sub]
  · refine hrest.freed p ?_
    by_cases hends : endsWith s x = some p
    · exact .inl (h.freed p hends)
    · rcases hp with hnone | ⟨y, hy, hends'⟩
      · refine .inl ?_
        rcases h.others p hends with ⟨-, hnow⟩ | ⟨e, -, -, he, -⟩
        · exact hnow
        · rw [hnone] at he
          exact absurd he nofun
      · rcases List.mem_cons.mp hy with rfl | hy
        · exact absurd hends' hends
        · exact .inr ⟨y, hy, by rw [(hlater y hy).2.1, hends']⟩
  · rw [hrest.recordRead, h.recordRead, List.any_cons, Bool.not_or, Bool.and_assoc]
  · rw [hrest.descriptorRead, hru, List.any_cons, Bool.not_or, Bool.and_assoc]
  · rw [hrest.reports, hru, List.any_cons]
    cases isWanted .report x <;> simp
  · rw [hrest.writing, hru, List.any_cons, Bool.not_or, Bool.and_assoc]
  · refine hrest.ended ?_
    cases hwrite : isWantedWrite x with
    | true => exact .inr (h.ended hwrite)
    | false =>
      obtain ⟨hw, hraises, hanswer⟩ := h.held hwrite
      rw [List.any_cons, hwrite, Bool.false_or] at hended
      rwa [hw, hraises, hanswer]

theorem ownersActed_dropAll {s : State} {xs : List Access} (hidle : FaultedIdle s) (hapart : xs.Pairwise OwnersApart)
    (hstands : ∀ x ∈ xs, x.discarded = false → OwnerStands s x) : OwnersActed s (dropAll xs s) xs := by
  induction xs generalizing s with
  | nil => exact .nil s
  | cons x rest ih =>
    obtain ⟨hfirst, hrest⟩ := List.pairwise_cons.mp hapart
    have hx := hstands x List.mem_cons_self
    have hdropped := dropped_ownerOfDropped hidle.1 hx
    refine .cons hdropped (ih (hidle.of_hp (dropsQuietly_ownerOfDropped hidle x).2) hrest fun y hy hd => ?_) hfirst hx
      fun y hy => hstands y (List.mem_cons_of_mem x hy)
    exact (hdropped.foundAgain (hfirst y hy) hx hd (hstands y (List.mem_cons_of_mem x hy) hd)).stands

end Sys2Proof.Machine

/-! ## FAULTED tells the owners of the dropped accesses (R197) -/

namespace Sys2Proof.Machine
set_option Elab.async false

theorem pairwise_of_filter_length {α : Type} {p : α → Bool} {xs : List α} (h : (xs.filter p).length ≤ 1) :
    xs.Pairwise (fun x y => ¬(p x = true ∧ p y = true)) := by
  induction xs with
  | nil => exact .nil
  | cons x rest ih =>
    refine List.pairwise_cons.mpr ⟨fun y hy ⟨hx, hpy⟩ => ?_, ih (le_trans ((List.sublist_cons_self x rest).filter p).length_le h)⟩
    rw [List.filter_cons_of_pos hx, List.length_cons] at h
    have hempty : rest.filter p = [] := List.eq_nil_of_length_eq_zero (by omega)
    exact absurd hpy (List.filter_eq_nil_iff.mp hempty y hy)

/-- One access of each kind, and one record write, have different owners. -/
theorem pairwise_ownersApart {xs : List Access} (hkinds : (xs.map (fun x => x.kind)).Nodup)
    (hwrites : (xs.filter (fun x => isRecordWrite x.kind)).length ≤ 1) : xs.Pairwise OwnersApart :=
  (List.pairwise_map.mp hkinds).and (pairwise_of_filter_length hwrites)

/-! ### The access that faults -/

/-- The access that faults, told as the others are: the engine enters FAULTED behind it (log entry 30). -/
theorem dropped_faultTaken {s : State} {x : Access} {code : FaultCode} (hd : x.discarded = false) (hk : RingFault x.kind code)
    (hstands : OwnerStands s x) : Dropped s (faultTaken code (ringFaulted x.kind s)) x := by
  have hwrite (hk : x.kind = .recordBody ∨ x.kind = .recordPhase) : Dropped s (faultTaken code (ringFaulted x.kind s)) x := by
    have h : Dropped s (recordKept (freeBus s)) x := by
      obtain ⟨h1, h2, h3, h4, h5, h6, h7, h8, h9, h10⟩ := dropped_recordKept (s := freeBus s) hd hk hstands
      exact ⟨h1, h2, h3, h4, h5, h6, h7, h8, h9, h10⟩
    have hfault : ringFaulted x.kind s = recordKept (freeBus s) := by rcases hk with hk | hk <;> rw [hk] <;> rfl
    rw [hfault]
    obtain ⟨h1, h2, h3, h4, h5, h6, h7, h8, h9, h10⟩ := h
    exact ⟨h1, h2, h3, h4, h5, h6, h7, h8, h9, h10⟩
  have hread (hk : x.kind = .requestRecord ∨ x.kind = .descriptor) : Dropped s (faultTaken code (ringFaulted x.kind s)) x := by
    rcases hk with hk | hk <;> refine .of_quiet ?_ ?_ ?_ ?_ ?_ ?_ ?_ ?_ ?_ ?_ <;>
      simp [faultTaken, ringFaulted, freeBus, endsWith, droppedRecords, isWantedWrite, isWanted, isRecordWrite, hd, hk]
  rcases hk with ⟨hk, -⟩ | ⟨hk, -⟩ | ⟨hk, -⟩
  · exact hread (.inl hk)
  · exact hread (.inr hk)
  · exact hwrite hk

theorem endsWith_of_servedEntry {s : State} {y : Access} {p : PoolIx} (hanswered : isAnswered y = true)
    (hserved : y.kind.servedEntry = some p) : y.discarded = false ∧ endsWith s y = some p := by
  rw [isAnswered, Bool.and_eq_true, Bool.not_eq_true', Bool.not_eq_true'] at hanswered
  obtain ⟨hd, hpayload⟩ := hanswered
  refine ⟨hd, ?_⟩
  cases hk : y.kind with
  | response q => simpa [endsWith, hd, hk, AccessKind.servedEntry] using hserved
  | snapshot q => simpa [endsWith, hd, hk, AccessKind.servedEntry] using hserved
  | payload q =>
    rw [hk] at hpayload
    exact absurd hpayload nofun
  | _ =>
    rw [hk] at hserved
    exact absurd hserved nofun

/-- What is left of the list after the fault has the same owners to answer for it. -/
theorem answered_ringFaulted {s : State} {x : Access} {code : FaultCode} (hd : x.discarded = false) (hk : RingFault x.kind code)
    (hstands : OwnerStands s x) (hapart : ∀ y ∈ s.hp.queue, OwnersApart x y)
    (hqueue : ∀ y ∈ s.hp.queue, y.discarded = false → OwnerStands s y) :
    (ringFaulted x.kind s).hp.queue.filter isAnswered = s.hp.queue.filter isAnswered := by
  have hwrite (hk : x.kind = .recordBody ∨ x.kind = .recordPhase) :
      (ringFaulted x.kind s).hp.queue.filter isAnswered = s.hp.queue.filter isAnswered := by
    have howner : s.cu.callAnswer ≠ none → ∃ p e, IsHead s .control p e ∧ e.kind = .callNow := by
      rcases hk with h | h <;> simpa only [OwnerStands, h] using hstands
    cases hanswer : s.cu.callAnswer with
    | none => rw [ringFaulted_of_recordWrite hk, answerHeldCallNow_of_none (by exact hanswer)]; rfl
    | some n =>
      obtain ⟨p, e, hhead, hkind⟩ := howner (by rw [hanswer]; exact nofun)
      have he : entry (raisesLetInForCallNow (freeBus s)) p = some e := hhead.2
      have hends : endsWith s x = some p := by
        rcases hk with h | h <;> simp only [endsWith, hd, h, hanswer] <;> exact hhead.1
      obtain ⟨more, hmore, hsilent⟩ := queue_finishRequest he .ok 0 n .useReserved
      have hnone : more.filter isAnswered = [] :=
        List.filter_eq_nil_iff.mpr fun y hy => by rw [hsilent y hy]; exact Bool.false_ne_true
      rw [ringFaulted_of_callNow hk hanswer hhead hkind, hmore, List.filter_append, hnone, List.append_nil, List.filter_filter]
      refine List.filter_congr fun y hy => ?_
      by_cases hserved : y.kind.servedEntry = some p
      · cases hanswered : isAnswered y with
        | false => rfl
        | true =>
          obtain ⟨hdy, hendsy⟩ := endsWith_of_servedEntry (s := s) hanswered hserved
          exact absurd hends (endsWith_apart (hapart y hy) hstands (hqueue y hy hdy) hendsy)
      · simp [hserved]
  rcases hk with ⟨hk, -⟩ | ⟨hk, -⟩ | ⟨hk, -⟩
  · rw [hk]
    rfl
  · rw [hk]
    rfl
  · exact hwrite hk

/-- The whole of the entry to FAULTED by the fault of access `b`: all owners have acted, `b`'s first (R197). -/
theorem ownersActed_allDropped {s : State} {b : BusAccess} {code : FaultCode} (hbus : s.hp.bus = some b)
    (hd : b.access.discarded = false) (hk : RingFault b.access.kind code)
    (hapart : (accesses s).Pairwise OwnersApart) (hstands : ∀ x ∈ accesses s, x.discarded = false → OwnerStands s x) :
    OwnersActed s (allDropped b.access.kind code s) (accesses s) := by
  have hall : accesses s = b.access :: s.hp.queue := by rw [accesses, hbus]; rfl
  rw [hall] at hapart hstands ⊢
  obtain ⟨hfirst, hrest⟩ := List.pairwise_cons.mp hapart
  have hb := hstands b.access List.mem_cons_self hd
  have hqueue (y : Access) (hy : y ∈ s.hp.queue) := hstands y (List.mem_cons_of_mem _ hy)
  have hdropped := dropped_faultTaken hd hk hb
  have hsame : allDropped b.access.kind code s = dropAll s.hp.queue (faultTaken code (ringFaulted b.access.kind s)) := by
    rw [allDropped, dropAll_eq_filter, answered_ringFaulted hd hk hb hfirst hqueue, ← dropAll_eq_filter]
  rw [hsame]
  refine .cons hdropped (ownersActed_dropAll (faultedIdle_faultTaken (bus_ringFaulted _ s) code) hrest fun y hy hdy => ?_) hfirst
    (fun _ => hb) hqueue
  exact (hdropped.foundAgain (hfirst y hy) (fun _ => hb) hdy (hqueue y hy hdy)).stands

theorem any_isWantedWrite {s : State} (h : awaitsAccess s .recordBody = true ∨ awaitsAccess s .recordPhase = true) :
    (accesses s).any isWantedWrite = true := by
  have hwrite {k : AccessKind} (hk : isRecordWrite k = true) (h : awaitsAccess s k = true) : (accesses s).any isWantedWrite = true := by
    obtain ⟨x, hx, hwanted⟩ := List.any_eq_true.mp h
    rw [Bool.and_eq_true, beq_iff_eq] at hwanted
    obtain ⟨hkind, hd⟩ := hwanted
    exact List.any_eq_true.mpr ⟨x, hx, by rw [isWantedWrite, hkind, hk, hd]; rfl⟩
  exact h.elim (hwrite rfl) (hwrite rfl)

theorem freed_of_awaits {s : State} {k : AccessKind} {p : PoolIx} (hk : k = .response p ∨ k = .snapshot p)
    (h : awaitsAccess s k = true) : ∃ x ∈ accesses s, endsWith s x = some p := by
  obtain ⟨x, hx, hwanted⟩ := List.any_eq_true.mp h
  rw [Bool.and_eq_true, beq_iff_eq, Bool.not_eq_true'] at hwanted
  obtain ⟨hkind, hd⟩ := hwanted
  refine ⟨x, hx, ?_⟩
  rcases hk with rfl | rfl <;> simp [endsWith, hd, hkind]

/-! ### One access dropped (R197) -/

/-- The state at the entry to FAULTED by a ring read that faulted, ahead of the owners (R139, R102). -/
structure ReadFaulted (k : AccessKind) (s v : State) : Prop where
  idle : FaultedIdle v
  rp : v.rp = s.rp
  st : v.st = s.st
  cu : v.cu = { s.cu with pendingCauses := v.cu.pendingCauses }
  ri : v.ri = { s.ri with reading := if k = .requestRecord then false else s.ri.reading }
  ru : v.ru = { s.ru with reading := if k = .descriptor then false else s.ru.reading }

theorem readFaulted_faultTaken {k : AccessKind} (hk : k = .requestRecord ∨ k = .descriptor) (code : FaultCode) (s : State) :
    ReadFaulted k s (faultTaken code (ringFaulted k s)) := by
  rcases hk with rfl | rfl <;> exact ⟨faultedIdle_faultTaken rfl code, rfl, rfl, rfl, rfl, rfl⟩

theorem ReadFaulted.isHead {k : AccessKind} {s v : State} (h : ReadFaulted k s v) {l : ListId} {p : PoolIx} {e : PoolEntry}
    (hhead : IsHead s l p e) : IsHead v l p e :=
  ⟨by rw [listOf_congr h.rp, hhead.1], by rw [entry_congr h.rp, hhead.2]⟩

/-- Records enter behind those the queue holds when an access that is no record write is dropped. -/
theorem ReadFaulted.queue {k : AccessKind} {s v u : State} {x : Access} (h : ReadFaulted k s v) (hdrop : Dropped v u x)
    (hx : isRecordWrite x.kind = false) : u.cu.queue = s.cu.queue ++ droppedRecords v x := by
  rw [hdrop.queue, queueAfterDropped, hx, h.cu]
  rfl

theorem response_dropped {k : AccessKind} {s v : State} {x : Access} (h : ReadFaulted k s v) (hd : x.discarded = false)
    {p : PoolIx} {e : PoolEntry} {n : Nat} {a : Addr} (hk : x.kind = .response p) (he : entry s p = some e) (hn : e.response = some n)
    (ha : requestStation e = some a) :
    entry (ownerOfDropped x v) p = none ∧ (ownerOfDropped x v).cu.queue = s.cu.queue ++
      [{ kind := .done, status := .hostFault, address := e.address, attempts := e.attempts, waits := waitsField e,
         tag := e.tag, length := n, count := 0, stationState := some (station s a).state, lastOutcome := e.lastOutcome,
         last := e.expectedCount.map octetOf }] := by
  have he' : entry v p = some e := by rw [entry_congr h.rp, he]
  have hdrop := dropped_ownerOfDropped h.idle.1 (x := x) fun _ => by
    simp only [OwnerStands, hk]
    exact ⟨e, n, a, he', hn, ha⟩
  refine ⟨hdrop.freed p (by simp [endsWith, hd, hk]), ?_⟩
  rw [h.queue hdrop (by rw [hk]; rfl)]
  simp only [droppedRecords, hd, hk, he', Option.bind_some, hn, Option.map_some, unwrittenRecord, ha, station_congr h.st]
  rfl

theorem snapshot_dropped {k : AccessKind} {s v : State} {x : Access} (h : ReadFaulted k s v) (hd : x.discarded = false)
    {p : PoolIx} {e : PoolEntry} (hk : x.kind = .snapshot p) (he : entry s p = some e) (hkind : e.kind = .query) :
    entry (ownerOfDropped x v) p = none ∧
      (ownerOfDropped x v).cu.queue = s.cu.queue ++ [controlRecord e .hostFault 296 0] := by
  have he' : entry v p = some e := by rw [entry_congr h.rp, he]
  have hdrop := dropped_ownerOfDropped h.idle.1 (x := x) fun _ => by
    simp only [OwnerStands, hk]
    exact ⟨e, he', hkind⟩
  refine ⟨hdrop.freed p (by simp [endsWith, hd, hk]), ?_⟩
  rw [h.queue hdrop (by rw [hk]; rfl)]
  simp only [droppedRecords, hd, hk, he']
  rfl

theorem recordBody_dropped {k : AccessKind} {s v : State} {x : Access} (h : ReadFaulted k s v) (hd : x.discarded = false)
    (hk : x.kind = .recordBody) (hanswer : s.cu.callAnswer = none) :
    (ownerOfDropped x v).cu =
      { s.cu with write := none, queue := queueAfterRaises s.cu.heldRaises s.cu.queue, heldRaises := []
                  pendingCauses := v.cu.pendingCauses } := by
  have howner : ownerOfDropped x v = recordKept v := by
    simp only [ownerOfDropped, hd, hk]
    rfl
  have hanswer' : (raisesLetIn v).cu.callAnswer = none := by rw [raisesLetIn, h.cu, hanswer]
  rw [howner, recordKept_eq, answerHeldCallNow_of_none hanswer', raisesLetIn, h.cu]

/-- A dropped report write leaves no report pending (R112). -/
theorem reports_dropped {k : AccessKind} {s v : State} {x : Access} (h : ReadFaulted k s v) (hd : x.discarded = false)
    (hk : x.kind = .report) : (ownerOfDropped x v).ru.reports = [] ∧ (ownerOfDropped x v).ru.writing = false := by
  have howner : ownerOfDropped x v = pumpReports v.ru.reports v := by
    simp only [ownerOfDropped, hd, hk]
    rfl
  rw [howner, pumpReports_of_faulted h.idle.1]
  exact ⟨rfl, rfl⟩

/-- With no SWEEP-NOW waiting, a dropped report write completes the reports and touches no request (R112). -/
theorem report_dropped_of_none {k : AccessKind} {s v : State} {x : Access} (h : ReadFaulted k s v) (hd : x.discarded = false)
    (hk : x.kind = .report) (hdecision : s.ru.decision = none) :
    let records := s.ru.reports.map (fun r => reportDone s r (faultedStatus r))
    (ownerOfDropped x v).cu.queue = s.cu.queue ++ records ∧
      (ownerOfDropped x v).cu.reserved = s.cu.reserved - records.length ∧ (ownerOfDropped x v).rp = s.rp := by
  have howner : ownerOfDropped x v = pumpReports v.ru.reports v := by
    simp only [ownerOfDropped, hd, hk]
    rfl
  have hreports : v.ru.reports = s.ru.reports := by rw [h.ru]
  have hdone (r : PendingReport) (status : Status) : reportDone v r status = reportDone s r status := by
    simp only [reportDone, station_congr h.st]
  rw [howner, pumpReports_of_faulted h.idle.1, enterReports_of_none (by rw [h.ru]; exact hdecision), recordsOf_faulted]
  simp only [reportsEntered, hreports, hdone]
  exact ⟨by rw [h.cu], by rw [h.cu], h.rp⟩

/-- A dropped report write completes the reports, and the SWEEP-NOW right behind those it waited for (R112, R113). -/
theorem report_dropped {k : AccessKind} {s v : State} {x : Access} (h : ReadFaulted k s v) (hd : x.discarded = false)
    (hk : x.kind = .report) {d : SweepDecision} {p : PoolIx} {e : PoolEntry} (hdecision : s.ru.decision = some d)
    (hpositive : 1 ≤ d.after) (hafter : d.after ≤ s.ru.reports.length) (hhead : IsHead s .control p e) (hkind : e.kind = .sweepNow) :
    let records := s.ru.reports.map (fun r => reportDone s r (faultedStatus r))
    (ownerOfDropped x v).cu.queue =
        s.cu.queue ++ records.take d.after ++ [controlRecord e d.status 0 d.count] ++ records.drop d.after ∧
      entry (ownerOfDropped x v) p = none ∧ (ownerOfDropped x v).ru.decision = none ∧
      (ownerOfDropped x v).cu.reserved = s.cu.reserved - records.length - 1 := by
  intro records
  have hdec : v.ru.decision = some d := by rw [h.ru]; exact hdecision
  have hreports : v.ru.reports = s.ru.reports := by rw [h.ru]
  have hdone (r : PendingReport) (status : Status) : reportDone v r status = reportDone s r status := by
    simp only [reportDone, station_congr h.st]
  have hdrop := dropped_ownerOfDropped h.idle.1 (x := x) fun _ => by
    simp only [OwnerStands, hk]
    intro d' hd'
    obtain rfl := Option.some.inj (hdec.symm.trans hd')
    exact ⟨hpositive, by rw [hreports]; exact hafter, p, e, h.isHead hhead, hkind⟩
  have hrecords : droppedRecords v x = records.take d.after ++ [controlRecord e d.status 0 d.count] ++ records.drop d.after := by
    simp only [droppedRecords, hd, hk, droppedReports, hdec, controlHeadRecord_of_isHead (h.isHead hhead) hkind, hreports, hdone]
    rfl
  have hlength : (droppedRecords v x).length = records.length + 1 := by
    have hsplit := congrArg List.length (List.take_append_drop d.after records)
    rw [List.length_append] at hsplit
    rw [hrecords, List.length_append, List.length_append, List.length_singleton]
    omega
  refine ⟨?_, hdrop.freed p ?_, ?_, ?_⟩
  · rw [h.queue hdrop (by rw [hk]; rfl), hrecords]
    simp only [List.append_assoc]
  · simp only [endsWith, hd, hk, hdec]
    exact (h.isHead hhead).1
  · rw [hdrop.ru]
    simp [isWanted, hd, hk]
  · rw [hdrop.reserved, hlength, h.cu, Nat.sub_sub]

/-- A dropped ring read is no longer under way, and nothing else follows (R138, R101). -/
theorem ringRead_dropped {k : AccessKind} {s v : State} {x : Access} (h : ReadFaulted k s v) (hd : x.discarded = false)
    (hk : x.kind = .requestRecord ∨ x.kind = .descriptor) :
    (ownerOfDropped x v).cu = v.cu ∧ (ownerOfDropped x v).rp = s.rp ∧
    (ownerOfDropped x v).ri = { s.ri with reading := if k = .requestRecord ∨ x.kind = .requestRecord then false else s.ri.reading } ∧
    (ownerOfDropped x v).ru = { s.ru with reading := if k = .descriptor ∨ x.kind = .descriptor then false else s.ru.reading } := by
  rcases hk with hk | hk
  · have howner : ownerOfDropped x v = { v with ri := { v.ri with reading := false } } := by
      simp only [ownerOfDropped, hd, hk]
      rfl
    rw [howner]
    exact ⟨rfl, h.rp, by rw [h.ri]; simp [hk], by rw [h.ru]; simp [hk]⟩
  · have howner : ownerOfDropped x v = { v with ru := { v.ru with reading := false } } := by
      simp only [ownerOfDropped, hd, hk]
      rfl
    rw [howner]
    exact ⟨rfl, h.rp, by rw [h.ri]; simp [hk], by rw [h.ru]; simp [hk]⟩

end Sys2Proof.Machine

section
set_option Elab.async false
open Sys2Proof.Machine

/-- Settles O32: each owner does what is said of its access (`Dropped`), and finds what it found before the others acted
(`FoundAgain`), so the list is told one access behind the other (`OwnersActed`). -/
theorem faultedTellsOwnersOfDroppedAccesses : Obligations.FaultedTellsOwnersOfDroppedAccesses := by
  unfold Obligations.FaultedTellsOwnersOfDroppedAccesses
  refine ⟨fun s k x hk hbus hqueue hd => ?one, fun s k hk hbus hkinds hwrites hstands => ?all⟩
  case one =>
    obtain ⟨code, hcode⟩ : ∃ code, RingFault k code :=
      hk.elim (fun h => ⟨_, .inl ⟨h, rfl⟩⟩) fun h => ⟨_, .inr (.inl ⟨h, rfl⟩)⟩
    obtain ⟨ls, rx, hexec, -⟩ := exec_ringFault hbus hcode
    have hread := readFaulted_faultTaken hk code s
    have hall : allDropped k code s = ownerOfDropped x (faultTaken code (ringFaulted k s)) := by
      have hlist : (ringFaulted k s).hp.queue = [x] := by rw [← hqueue]; rcases hk with rfl | rfl <;> rfl
      rw [allDropped, hlist]
      rfl
    have honly := allDropped_only (k := k) (code := code) (s := s) rfl
    have hhp := allDropped_hp k code s
    generalize faultTaken code (ringFaulted k s) = v at hread hall
    rw [hall] at hexec honly hhp
    refine ⟨_, hexec, congrArg HostPort.engine hhp, congrArg HostPort.bus hhp, congrArg HostPort.queue hhp, fun p hp => ?_,
      fun p e n a hp he hn ha => response_dropped hread hd hp he hn ha, fun p e hp he hkind => snapshot_dropped hread hd hp he hkind,
      fun hbody hanswer => ?_, fun hring => ?_, fun hreport => ?_⟩
    · have hsame : ownerOfDropped x v = v := ownerOfDropped_of_not_answered (by simp [isAnswered, hp, isPayload]) v
      change (ownerOfDropped x v).cu.queue = _ ∧ (ownerOfDropped x v).rp = _
      rw [hsame, hread.cu]
      exact ⟨rfl, hread.rp⟩
    · change (ownerOfDropped x v).cu.queue = _ ∧ (ownerOfDropped x v).cu.heldRaises = _ ∧ (ownerOfDropped x v).cu.write = _ ∧
        (ownerOfDropped x v).cu.tail = _ ∧ (ownerOfDropped x v).cu.occupancy = _
      rw [recordBody_dropped hread hd hbody hanswer]
      exact ⟨rfl, rfl, rfl, rfl, rfl⟩
    · obtain ⟨hcu, hrp, hri, hru⟩ := ringRead_dropped hread hd hring
      change (ownerOfDropped x v).cu.queue = _ ∧ (ownerOfDropped x v).cu.reserved = _ ∧ _
      rw [hcu, hread.cu]
      exact ⟨rfl, rfl, hrp, hri, hru⟩
    · obtain ⟨hreports, hwriting⟩ := reports_dropped hread hd hreport
      refine ⟨hreports, hwriting, ?_, fun hdecision => report_dropped_of_none hread hd hreport hdecision,
        fun d p e hdecision hpositive hafter hhead hkind => report_dropped hread hd hreport hdecision hpositive ?_ hhead hkind⟩
      · change (ownerOfDropped x v).ru.cache = _
        conv_lhs => rw [honly]
      · rwa [List.length_map] at hafter
  case all =>
    obtain ⟨code, hcode⟩ : ∃ code, RingFault k code := by
      rcases hk with rfl | rfl | hk
      · exact ⟨_, .inl ⟨rfl, rfl⟩⟩
      · exact ⟨_, .inr (.inl ⟨rfl, rfl⟩)⟩
      · exact ⟨_, .inr (.inr ⟨hk, rfl⟩)⟩
    obtain ⟨ls, rx, hexec, -⟩ := exec_ringFault hbus hcode
    obtain ⟨b, hb, rfl, hd⟩ := hbus
    have hacted := ownersActed_allDropped hb hd hcode (pairwise_ownersApart hkinds hwrites) hstands
    have honly := allDropped_only (k := b.access.kind) (code := code) (s := s) rfl
    have hhp := allDropped_hp b.access.kind code s
    generalize allDropped b.access.kind code s = u at hexec hacted honly hhp
    refine ⟨_, hexec, congrArg HostPort.engine hhp, congrArg HostPort.bus hhp, congrArg HostPort.queue hhp, hacted.queue,
      hacted.reserved, ?_, hacted.descriptorRead, ?_, ?_, hacted.reports, hacted.writing, fun p hp => hacted.freed p (.inr ?_),
      fun hwrite => hacted.ended (.inl (any_isWantedWrite hwrite))⟩
    · change u.ri = _
      have hri := congrArg (fun v : Sys2Proof.Machine.State => v.ri) honly
      rw [hacted.recordRead] at hri
      exact hri
    · change u.ru.cache = _
      conv_lhs => rw [honly]
    · change u.ru.head = _
      conv_lhs => rw [honly]
    · exact hp.elim (freed_of_awaits (.inl rfl)) (freed_of_awaits (.inr rfl))
end

/-! ## The slot invariant (R158, R159) -/

namespace Sys2Proof.Machine
set_option Elab.async false

/-- A CALL-NOW in a phase no run gives it: PAUSED, its fetch-delay timer running. The invariant's clauses on requests allow it at the
head of its list (`RequestsLinked`). -/
def pausedCallNow : PoolEntry :=
  { newEntry State.reset .callNow (requestRecordOf []) with phase := .paused, fetchTimer := .running 0 }

/-- The CALL that serves a CALL-NOW, with its demand mark and its slot (R122). -/
def demandedCall : TransitEntry := { plainEntry 0 .call with demand := true, slots := 1 }

/-- A state that no run reaches, in which the slot invariant holds and the next step loses it: the paused CALL-NOW is the head of the
control list, the CALL that serves it is in transit, and its marker comes back damaged. -/
def pausedCallNowServed : State :=
  { State.reset with
    hp := { State.reset.hp with engine := .running }
    ls := { State.reset.ls with state := .opened, transit := [demandedCall] }
    rp := { State.reset.rp with entries := State.reset.rp.entries.set 0 (some pausedCallNow), control := [0] }
    cu := { State.reset.cu with reserved := 1 }
    pending := [.damagedMarker .call ⟨0, 0⟩] }

theorem entry_pausedCallNowServed (p : PoolIx) :
    entry pausedCallNowServed p = if p = 0 then some pausedCallNow else none :=
  (entry_putEntry 0 p (some pausedCallNow) State.reset).trans (by rw [entry_reset])

theorem listOf_pausedCallNowServed (l : ListId) : listOf pausedCallNowServed l = if l = .control then [0] else [] := by
  cases l with
  | control => rfl
  | station a => exact listOf_reset (.station a)

theorem listFor_pausedCallNow : listFor pausedCallNow.kind pausedCallNow.address = .control := rfl

/-- The request of an allocated entry is the paused CALL-NOW. -/
theorem eq_of_entry_pausedCallNowServed {p : PoolIx} {q : PoolEntry} (h : entry pausedCallNowServed p = some q) :
    p = 0 ∧ q = pausedCallNow := by
  rw [entry_pausedCallNowServed] at h
  split at h
  · exact ⟨‹_›, (Option.some.inj h).symm⟩
  · exact absurd h nofun

theorem poolOk_pausedCallNowServed : PoolOk pausedCallNowServed := by
  refine ⟨fun l => ?_, fun l p hp => ?_, fun p q hq => ?_⟩
  · rw [listOf_pausedCallNowServed]
    split
    · exact List.nodup_singleton 0
    · exact List.nodup_nil
  · rw [listOf_pausedCallNowServed] at hp
    split at hp
    · rename_i hl
      obtain rfl := List.mem_singleton.mp hp
      exact ⟨pausedCallNow, by rw [entry_pausedCallNowServed, if_pos rfl], listFor_pausedCallNow.trans hl.symm⟩
    · exact absurd hp List.not_mem_nil
  · obtain ⟨rfl, rfl⟩ := eq_of_entry_pausedCallNowServed hq
    rw [listFor_pausedCallNow, listOf_pausedCallNowServed, if_pos rfl]
    exact List.mem_singleton_self 0

theorem holdsSlot_pausedCallNowServed (p : PoolIx) : holdsSlot pausedCallNowServed p = false := by
  unfold holdsSlot
  split
  · obtain ⟨-, rfl⟩ := eq_of_entry_pausedCallNowServed ‹_›
    rfl
  · rfl

theorem slotInv_pausedCallNowServed : SlotInv pausedCallNowServed := by
  have hholds : (List.finRange 64).filter (holdsSlot pausedCallNowServed) = [] :=
    List.filter_eq_nil_iff.mpr fun p _ => by rw [holdsSlot_pausedCallNowServed]; exact Bool.false_ne_true
  have hslots : ∀ e ∈ pausedCallNowServed.ls.transit, slotUses e ≤ e.slots := fun e he => by
    obtain rfl := List.mem_singleton.mp he
    exact le_refl 1
  refine ⟨poolOk_pausedCallNowServed, ?_, ⟨hslots, nofun, ?_⟩, ⟨List.nodup_nil, fun e he p hp => ?_⟩, fun p q hq => ?_, nofun⟩
  · exact (by decide : 0 + 1 ≤ 13)
  · rw [slotsNeeded, hholds]
    exact le_refl 1
  · obtain rfl := List.mem_singleton.mp he
    exact absurd hp nofun
  · obtain ⟨rfl, rfl⟩ := eq_of_entry_pausedCallNowServed hq
    exact ⟨fun _ => rfl, nofun, fun h => absurd rfl h, fun _ => rfl, nofun, nofun, nofun⟩

/-- The damaged CALL leaves, and the CALL-NOW stands at the head in READY (R123), with the timer it had. -/
theorem entry_step_pausedCallNowServed :
    ∃ t, step pausedCallNowServed = .next t ∧ entry t 0 = some { pausedCallNow with phase := .ready } :=
  ⟨_, rfl, entry_putEntry_same ..⟩

end Sys2Proof.Machine

section
set_option Elab.async false
open Sys2Proof.Machine

/-- Refutes O10: a request whose fetch-delay timer does not stand still must be PAUSED in `SlotInv`, and a CALL-NOW may be; a damaged
CALL sends it to READY and leaves its timer as it was. -/
theorem not_stepKeepsNotices : ¬ Obligations.StepKeepsNotices := by
  unfold Obligations.StepKeepsNotices
  rintro ⟨-, hkeeps, -⟩
  obtain ⟨t, hstep, hentry⟩ := entry_step_pausedCallNowServed
  obtain ⟨-, -, -, -, hrequests, -⟩ := hkeeps pausedCallNowServed t slotInv_pausedCallNowServed hstep
  obtain ⟨-, -, -, htimer, -⟩ := hrequests 0 _ hentry
  exact absurd (htimer nofun) nofun
end
